-- ==== Sys2Proof/Word.lean ====
section
/-! DEFINITION. The two word types of the links and ports: the byte of a request frame and the 16-bit word of a
meter frame (R78, section 11.1). Every other quantity of the VQ40 is a number, not a bit pattern. -/

namespace Sys2Proof

/-- A byte of a request or response frame (section 11.1). -/
abbrev Byte := BitVec 8

/-- A word of the meter frame (R78), also the width of a sampled Offer Line voltage in 0.1 V (section 11.1). -/
abbrev Word := BitVec 16

end Sys2Proof
end

