-- ==== Sys2Proof/Syntax.lean ====
section
/-! DEFINITION. The commands: one constructor of Instr for each row of the opcode table, with the operands the row's
rule names; and Request, the 46 requests without the port they arrive at, as a request frame spells them. -/

namespace Sys2Proof

/-- The two request ports (00_scope, The way in). -/
inductive Port where
  | cp
  | bp
  deriving DecidableEq, Repr

/-- One entry position of SET_ADMISSION (R134): a threshold in 0.5 °C steps and a power limit in W. -/
structure AdmissionOperand where
  threshold : BitVec 16
  limit : BitVec 32
  deriving DecidableEq, Repr

/-- A request with its parameter fields, at the widths of section 11.1. An optional field is an Option. -/
inductive Request where
  | authorize (charge : Byte) (heat : Option Byte) (chain : Byte) (target : Option (BitVec 32))
  | cancel (slot : Byte) (serial : BitVec 16)
  | stop (slot : Byte) (serial : BitVec 16)
  | lookSession (slot : Byte)
  | collect (slot : Byte) (serial : BitVec 16)
  | release (slot : Byte) (serial : BitVec 16)
  | pause (slot : Byte) (serial : BitVec 16)
  | resume (slot : Byte) (serial : BitVec 16)
  | markComplete (slot : Byte) (serial : BitVec 16)
  | setTarget (slot : Byte) (serial : BitVec 16) (target : BitVec 32)
  | openAccount (id : BitVec 32) (kind : Byte) (balance limit holdStep : BitVec 40)
  | adjust (index : Byte) (id : BitVec 32) (amount : BitVec 40)
  | setLimit (index : Byte) (id : BitVec 32) (limit : BitVec 40)
  | setStep (index : Byte) (id : BitVec 32) (holdStep : BitVec 40)
  | block (index : Byte) (id : BitVec 32)
  | unblock (index : Byte) (id : BitVec 32)
  | closeAccount (index : Byte) (id : BitVec 32)
  | lookAccount (index : Byte)
  | writeBand (band chain : Byte) (start chargeRate heatRate occupancyRate : BitVec 16) (cap : Option (BitVec 32)) (next : Byte)
  | freeBand (band : Byte)
  | sealChain (chain : Byte) (id : BitVec 32)
  | unsealChain (chain : Byte) (id : BitVec 32)
  | lookBand (band : Byte)
  | lookChain (chain : Byte)
  | lookCalendar
  | setCalendar (minute : BitVec 16)
  | setLifetime (minutes : BitVec 16)
  | setZone (zone mode : Byte) (target : BitVec 16) (rated : BitVec 32)
  | driveZone (zone drive : Byte)
  | restoreZone (zone : Byte)
  | setAdmission (count : Byte) (entries : Vector AdmissionOperand 8)
  | setHeating (share : Byte) (budget : BitVec 32) (preheat : BitVec 16)
  | lookZone (zone : Byte)
  | lookPlan
  | setIsolation (warning trip persistence autoLocalize dwell : Byte)
  | retireFault (key : Byte)
  | lookFault (key : Byte)
  | testFaults (mask : BitVec 16) (filter : Byte)
  | localize (key : Byte)
  | cancelLocalize
  | lookSupply
  | lookMeter
  | setAttention (mask : BitVec 16)
  | readAttention
  | clearAttention (mask : BitVec 16)
  | warmReset
  deriving DecidableEq, Repr

/-- The commands of the block, one for each row of spec/opcode_table.json. A request row carries the port its frame
arrives at; an event row carries what the event brings. -/
inductive Instr where
  | authorize (port : Port) (charge : Byte) (heat : Option Byte) (chain : Byte) (target : Option (BitVec 32))
  | cancel (port : Port) (slot : Byte) (serial : BitVec 16)
  | stop (port : Port) (slot : Byte) (serial : BitVec 16)
  | lookSession (port : Port) (slot : Byte)
  | collect (port : Port) (slot : Byte) (serial : BitVec 16)
  | release (port : Port) (slot : Byte) (serial : BitVec 16)
  | pause (port : Port) (slot : Byte) (serial : BitVec 16)
  | resume (port : Port) (slot : Byte) (serial : BitVec 16)
  | markComplete (port : Port) (slot : Byte) (serial : BitVec 16)
  | setTarget (port : Port) (slot : Byte) (serial : BitVec 16) (target : BitVec 32)
  | openAccount (port : Port) (id : BitVec 32) (kind : Byte) (balance limit holdStep : BitVec 40)
  | adjust (port : Port) (index : Byte) (id : BitVec 32) (amount : BitVec 40)
  | setLimit (port : Port) (index : Byte) (id : BitVec 32) (limit : BitVec 40)
  | setStep (port : Port) (index : Byte) (id : BitVec 32) (holdStep : BitVec 40)
  | block (port : Port) (index : Byte) (id : BitVec 32)
  | unblock (port : Port) (index : Byte) (id : BitVec 32)
  | closeAccount (port : Port) (index : Byte) (id : BitVec 32)
  | lookAccount (port : Port) (index : Byte)
  | writeBand (port : Port) (band chain : Byte) (start chargeRate heatRate occupancyRate : BitVec 16) (cap : Option (BitVec 32)) (next : Byte)
  | freeBand (port : Port) (band : Byte)
  | sealChain (port : Port) (chain : Byte) (id : BitVec 32)
  | unsealChain (port : Port) (chain : Byte) (id : BitVec 32)
  | lookBand (port : Port) (band : Byte)
  | lookChain (port : Port) (chain : Byte)
  | lookCalendar (port : Port)
  | setCalendar (port : Port) (minute : BitVec 16)
  | setLifetime (port : Port) (minutes : BitVec 16)
  | setZone (port : Port) (zone mode : Byte) (target : BitVec 16) (rated : BitVec 32)
  | driveZone (port : Port) (zone drive : Byte)
  | restoreZone (port : Port) (zone : Byte)
  | setAdmission (port : Port) (count : Byte) (entries : Vector AdmissionOperand 8)
  | setHeating (port : Port) (share : Byte) (budget : BitVec 32) (preheat : BitVec 16)
  | lookZone (port : Port) (zone : Byte)
  | lookPlan (port : Port)
  | setIsolation (port : Port) (warning trip persistence autoLocalize dwell : Byte)
  | retireFault (port : Port) (key : Byte)
  | lookFault (port : Port) (key : Byte)
  | testFaults (port : Port) (mask : BitVec 16) (filter : Byte)
  | localize (port : Port) (key : Byte)
  | cancelLocalize (port : Port)
  | lookSupply (port : Port)
  | lookMeter (port : Port)
  | setAttention (port : Port) (mask : BitVec 16)
  | readAttention (port : Port)
  | clearAttention (port : Port) (mask : BitVec 16)
  | warmReset (port : Port)
  /-- POWER_ON: the rise of the supply (R180). -/
  | powerOn
  /-- PORT_START_COMPLETE: the ports' internal start completes (R180). -/
  | portStartComplete
  /-- RESET_ASSERTION: the Reset input is asserted for at least 10 µs (R179). -/
  | resetAssertion
  /-- FRAME_SYNC: a frame sync on the Meter Link (R79). -/
  | frameSync
  /-- DATA_WORD: a data word on the Meter Link (R79). -/
  | dataWord (word : Word)
  /-- OVERDUE_EXPIRY: the overdue timer expires (R83). -/
  | overdueExpiry
  /-- LOST_TIMER_EXPIRY: the lost timer expires (R88). -/
  | lostTimerExpiry
  /-- RISING_EDGE: a rising edge of the Offer Line, `elapsed` µs after the event before it (log 3), with the low
  plateau, in 0.1 V, sampled in the period it ends (R93). -/
  | risingEdge (elapsed : Nat) (lowPlateau : Word)
  /-- FALLING_EDGE: a falling edge, `elapsed` µs after the event before it (log 3), with the high plateau, in 0.1 V,
  sampled in the period (R93). -/
  | fallingEdge (elapsed : Nat) (highPlateau : Word)
  /-- CAPTURE_OVERFLOW: the overflow timer expires, with the steady level sampled, in 0.1 V (R94). -/
  | captureOverflow (steadyLevel : Word)
  /-- MINUTE_EVENT: the minute timer expires (R54). -/
  | minuteEvent
  /-- CP_REQUEST_TRANSACTION: the select is released after a transaction that clocked in these bytes (R171). -/
  | cpRequestTransaction (bytes : List Byte)
  /-- CP_FETCH_TRANSACTION: the select is released after a fetch of `clocked` bytes, the fetch code included (R171). -/
  | cpFetchTransaction (clocked : Nat)
  /-- BP_BYTE_RECEIVED: a byte received on the Billing Port (R173). -/
  | bpByteReceived (byte : Byte)
  /-- BP_FRAMING_ERROR: a byte with a missing stop bit (R173). -/
  | bpFramingError
  /-- BP_GAP_TIMEOUT: more than 5 ms without a byte (R173). -/
  | bpGapTimeout
  /-- BP_TRANSMISSION_END: a response transmission ends (R174). -/
  | bpTransmissionEnd
  deriving DecidableEq, Repr

end Sys2Proof
end

