-- ==== Sys2Proof/Decode.lean ====
section
/-! DEFINITION. The request frames of section 11.1: what a request's frame looks like, and what request a frame
spells. decodeTableWord is none on every word, because no row of the opcode table gives bits (log 33). -/

namespace Sys2Proof

/-! ### Fields, most significant byte first (section 11.1) -/

/-- The two bytes of a 16-bit field. -/
def bytes16 (w : BitVec 16) : List Byte := [w.extractLsb' 8 8, w.extractLsb' 0 8]

/-- The four bytes of a 32-bit field. -/
def bytes32 (w : BitVec 32) : List Byte :=
  [w.extractLsb' 24 8, w.extractLsb' 16 8, w.extractLsb' 8 8, w.extractLsb' 0 8]

/-- The five bytes of a money field. -/
def bytes40 (w : BitVec 40) : List Byte :=
  [w.extractLsb' 32 8, w.extractLsb' 24 8, w.extractLsb' 16 8, w.extractLsb' 8 8, w.extractLsb' 0 8]

/-- The byte at a place of the parameters. -/
def read8 (ps : List Byte) (i : Nat) : Byte := ps.getD i 0

/-- The 16-bit field at a place of the parameters. -/
def read16 (ps : List Byte) (i : Nat) : BitVec 16 := read8 ps i ++ read8 ps (i + 1)

/-- The 32-bit field at a place of the parameters. -/
def read32 (ps : List Byte) (i : Nat) : BitVec 32 := read16 ps i ++ read16 ps (i + 2)

/-- The money field at a place of the parameters. -/
def read40 (ps : List Byte) (i : Nat) : BitVec 40 := read32 ps i ++ read8 ps (i + 4)

/-- The optional field a presence bit marks; the value of an absent one is ignored (section 11.1; log 15). -/
def optional {α : Type} (present : Bool) (v : α) : Option α := if present then some v else none

/-- A presence mask whose bit 0 marks the first optional field (section 11.1). -/
def presence (first second : Bool) : Byte := (if first then 1#8 else 0#8) ||| (if second then 2#8 else 0#8)

/-! ### Codes, parameters and frames -/

/-- The request codes (section 11.1). -/
def Request.code : Request → Byte
  | .authorize .. => 1
  | .cancel .. => 2
  | .stop .. => 3
  | .lookSession .. => 4
  | .collect .. => 5
  | .release .. => 6
  | .pause .. => 7
  | .resume .. => 8
  | .markComplete .. => 9
  | .setTarget .. => 10
  | .openAccount .. => 16
  | .adjust .. => 17
  | .setLimit .. => 18
  | .setStep .. => 19
  | .block .. => 20
  | .unblock .. => 21
  | .closeAccount .. => 22
  | .lookAccount .. => 23
  | .writeBand .. => 32
  | .freeBand .. => 33
  | .sealChain .. => 34
  | .unsealChain .. => 35
  | .lookBand .. => 36
  | .lookChain .. => 37
  | .lookCalendar => 38
  | .setCalendar .. => 39
  | .setLifetime .. => 40
  | .setZone .. => 48
  | .driveZone .. => 49
  | .restoreZone .. => 50
  | .setAdmission .. => 51
  | .setHeating .. => 52
  | .lookZone .. => 53
  | .lookPlan => 64
  | .setIsolation .. => 80
  | .retireFault .. => 81
  | .lookFault .. => 82
  | .testFaults .. => 83
  | .localize .. => 84
  | .cancelLocalize => 85
  | .lookSupply => 96
  | .lookMeter => 97
  | .setAttention .. => 112
  | .readAttention => 113
  | .clearAttention .. => 114
  | .warmReset => 120

/-- A slot or index with the serial or id that names its record. -/
def namedSession (slot : Byte) (serial : BitVec 16) : List Byte := [slot] ++ bytes16 serial

/-- See `namedSession`. -/
def namedRecord (index : Byte) (id : BitVec 32) : List Byte := [index] ++ bytes32 id

/-- The parameters of a request, field by field in the order in which its rule names them, absent fields as 0
(section 11.1). -/
def Request.params : Request → List Byte
  | .authorize charge heat chain target =>
    [presence heat.isSome target.isSome, charge, heat.getD 0, chain] ++ bytes32 (target.getD 0)
  | .cancel slot serial => namedSession slot serial
  | .stop slot serial => namedSession slot serial
  | .lookSession slot => [slot]
  | .collect slot serial => namedSession slot serial
  | .release slot serial => namedSession slot serial
  | .pause slot serial => namedSession slot serial
  | .resume slot serial => namedSession slot serial
  | .markComplete slot serial => namedSession slot serial
  | .setTarget slot serial target => namedSession slot serial ++ bytes32 target
  | .openAccount id kind balance limit holdStep =>
    bytes32 id ++ [kind] ++ bytes40 balance ++ bytes40 limit ++ bytes40 holdStep
  | .adjust index id amount => namedRecord index id ++ bytes40 amount
  | .setLimit index id limit => namedRecord index id ++ bytes40 limit
  | .setStep index id holdStep => namedRecord index id ++ bytes40 holdStep
  | .block index id => namedRecord index id
  | .unblock index id => namedRecord index id
  | .closeAccount index id => namedRecord index id
  | .lookAccount index => [index]
  | .writeBand band chain start chargeRate heatRate occupancyRate cap next =>
    [presence cap.isSome false, band, chain] ++ bytes16 start ++ bytes16 chargeRate ++ bytes16 heatRate ++
      bytes16 occupancyRate ++ bytes32 (cap.getD 0) ++ [next]
  | .freeBand band => [band]
  | .sealChain chain id => namedRecord chain id
  | .unsealChain chain id => namedRecord chain id
  | .lookBand band => [band]
  | .lookChain chain => [chain]
  | .lookCalendar => []
  | .setCalendar minute => bytes16 minute
  | .setLifetime minutes => bytes16 minutes
  | .setZone zone mode target rated => [zone, mode] ++ bytes16 target ++ bytes32 rated
  | .driveZone zone drive => [zone, drive]
  | .restoreZone zone => [zone]
  | .setAdmission count entries =>
    [count] ++ entries.toList.flatMap fun e => bytes16 e.threshold ++ bytes32 e.limit
  | .setHeating share budget preheat => [share] ++ bytes32 budget ++ bytes16 preheat
  | .lookZone zone => [zone]
  | .lookPlan => []
  | .setIsolation warning trip persistence autoLocalize dwell => [warning, trip, persistence, autoLocalize, dwell]
  | .retireFault key => [key]
  | .lookFault key => [key]
  | .testFaults mask filter => bytes16 mask ++ [filter]
  | .localize key => [key]
  | .cancelLocalize => []
  | .lookSupply => []
  | .lookMeter => []
  | .setAttention mask => bytes16 mask
  | .readAttention => []
  | .clearAttention mask => bytes16 mask
  | .warmReset => []

/-- The 8-bit sum of bytes (section 11.1). -/
def byteSum (bs : List Byte) : Byte := bs.foldl (· + ·) 0

/-- Bytes with the check byte that makes their 8-bit sum 0 (section 11.1). -/
def withCheck (bs : List Byte) : List Byte := bs ++ [-(byteSum bs)]

/-- The frame of a request (section 11.1). -/
def Request.frame (r : Request) : List Byte :=
  withCheck ([r.code, BitVec.ofNat 8 r.params.length] ++ r.params)

/-! ### What a frame spells -/

/-- The parameter length that the request of a code takes; none for an unknown code (R170, checks 2 and 3). -/
def paramLength (code : Byte) : Option Nat :=
  match code.toNat with
  | 1 => some 8
  | 2 => some 3
  | 3 => some 3
  | 4 => some 1
  | 5 => some 3
  | 6 => some 3
  | 7 => some 3
  | 8 => some 3
  | 9 => some 3
  | 10 => some 7
  | 16 => some 20
  | 17 => some 10
  | 18 => some 10
  | 19 => some 10
  | 20 => some 5
  | 21 => some 5
  | 22 => some 5
  | 23 => some 1
  | 32 => some 16
  | 33 => some 1
  | 34 => some 5
  | 35 => some 5
  | 36 => some 1
  | 37 => some 1
  | 38 => some 0
  | 39 => some 2
  | 40 => some 2
  | 48 => some 8
  | 49 => some 2
  | 50 => some 1
  | 51 => some 49
  | 52 => some 7
  | 53 => some 1
  | 64 => some 0
  | 80 => some 5
  | 81 => some 1
  | 82 => some 1
  | 83 => some 3
  | 84 => some 1
  | 85 => some 0
  | 96 => some 0
  | 97 => some 0
  | 112 => some 2
  | 113 => some 0
  | 114 => some 2
  | 120 => some 0
  | _ => none

/-- The entry of an admission table at position `k` (R134). -/
def readEntry (ps : List Byte) (k : Nat) : AdmissionOperand := ⟨read16 ps (1 + 6 * k), read32 ps (3 + 6 * k)⟩

/-- The request of a known code from its parameters, their length already judged (section 11.1). -/
def readRequest (code : Byte) (ps : List Byte) : Option Request :=
  match code.toNat with
  | 1 => some (.authorize (read8 ps 1) (optional ((read8 ps 0).getLsbD 0) (read8 ps 2)) (read8 ps 3)
      (optional ((read8 ps 0).getLsbD 1) (read32 ps 4)))
  | 2 => some (.cancel (read8 ps 0) (read16 ps 1))
  | 3 => some (.stop (read8 ps 0) (read16 ps 1))
  | 4 => some (.lookSession (read8 ps 0))
  | 5 => some (.collect (read8 ps 0) (read16 ps 1))
  | 6 => some (.release (read8 ps 0) (read16 ps 1))
  | 7 => some (.pause (read8 ps 0) (read16 ps 1))
  | 8 => some (.resume (read8 ps 0) (read16 ps 1))
  | 9 => some (.markComplete (read8 ps 0) (read16 ps 1))
  | 10 => some (.setTarget (read8 ps 0) (read16 ps 1) (read32 ps 3))
  | 16 => some (.openAccount (read32 ps 0) (read8 ps 4) (read40 ps 5) (read40 ps 10) (read40 ps 15))
  | 17 => some (.adjust (read8 ps 0) (read32 ps 1) (read40 ps 5))
  | 18 => some (.setLimit (read8 ps 0) (read32 ps 1) (read40 ps 5))
  | 19 => some (.setStep (read8 ps 0) (read32 ps 1) (read40 ps 5))
  | 20 => some (.block (read8 ps 0) (read32 ps 1))
  | 21 => some (.unblock (read8 ps 0) (read32 ps 1))
  | 22 => some (.closeAccount (read8 ps 0) (read32 ps 1))
  | 23 => some (.lookAccount (read8 ps 0))
  | 32 => some (.writeBand (read8 ps 1) (read8 ps 2) (read16 ps 3) (read16 ps 5) (read16 ps 7) (read16 ps 9)
      (optional ((read8 ps 0).getLsbD 0) (read32 ps 11)) (read8 ps 15))
  | 33 => some (.freeBand (read8 ps 0))
  | 34 => some (.sealChain (read8 ps 0) (read32 ps 1))
  | 35 => some (.unsealChain (read8 ps 0) (read32 ps 1))
  | 36 => some (.lookBand (read8 ps 0))
  | 37 => some (.lookChain (read8 ps 0))
  | 38 => some .lookCalendar
  | 39 => some (.setCalendar (read16 ps 0))
  | 40 => some (.setLifetime (read16 ps 0))
  | 48 => some (.setZone (read8 ps 0) (read8 ps 1) (read16 ps 2) (read32 ps 4))
  | 49 => some (.driveZone (read8 ps 0) (read8 ps 1))
  | 50 => some (.restoreZone (read8 ps 0))
  | 51 => some (.setAdmission (read8 ps 0) (Vector.ofFn fun k : Fin 8 => readEntry ps k.val))
  | 52 => some (.setHeating (read8 ps 0) (read32 ps 1) (read16 ps 5))
  | 53 => some (.lookZone (read8 ps 0))
  | 64 => some .lookPlan
  | 80 => some (.setIsolation (read8 ps 0) (read8 ps 1) (read8 ps 2) (read8 ps 3) (read8 ps 4))
  | 81 => some (.retireFault (read8 ps 0))
  | 82 => some (.lookFault (read8 ps 0))
  | 83 => some (.testFaults (read16 ps 0) (read8 ps 2))
  | 84 => some (.localize (read8 ps 0))
  | 85 => some .cancelLocalize
  | 96 => some .lookSupply
  | 97 => some .lookMeter
  | 112 => some (.setAttention (read16 ps 0))
  | 113 => some .readAttention
  | 114 => some (.clearAttention (read16 ps 0))
  | 120 => some .warmReset
  | _ => none

/-- The request a code and its parameters spell; none for an unknown code or a wrong length (R170, checks 2 and
3). -/
def parseRequest (code : Byte) (ps : List Byte) : Option Request :=
  if paramLength code = some ps.length then readRequest code ps else none

/-- The request a complete frame spells: none where the frame is MALFORMED, because of its byte count, its sum, its
code or its parameter length (R170, checks 1 to 3; R171). -/
def parseFrame : List Byte → Option Request
  | code :: len :: rest =>
    if rest.length = len.toNat + 1 ∧ byteSum (code :: len :: rest) = 0 then parseRequest code rest.dropLast else none
  | _ => none

/-- The command of a table word: no row of the opcode table gives bits (log 33). -/
def decodeTableWord (_nbits _w : Nat) : Option Instr := none

end Sys2Proof
end

