-- ==== Sys2Proof/Config.lean ====
section
/-! DEFINITION. What the VQ40 fixes once: the constants of its rules, and the free values, which have no body. -/

namespace Sys2Proof.Config

/-- The largest amount of money, 2^39 - 1 milli-cents (00_scope, Units and ranges). -/
def moneyMax : Nat := 549755813887

/-- The largest 32-bit count: energies in Wh, occupancy minutes, held frames (R1, R65). -/
def countMax : Nat := 4294967295

/-- mW-frames to the Wh (00_scope, Units and ranges; R65). -/
def framesPerWh : Nat := 180000000

/-- Minutes in the week: the calendar runs 0 to 10,079 (R54). -/
def weekMinutes : Nat := 10080

/-- The minute timer's period, 60,000 ms, in µs (R54). -/
def minutePeriod : Nat := 60000000

/-- The overdue timer after an accepted frame and after each reset, 30 ms, in µs (R83). -/
def overdueAfterFrame : Nat := 30000

/-- The overdue timer after its own expiry, 20 ms, in µs (R83). -/
def overdueAfterExpiry : Nat := 20000

/-- The lost timer, 10,000 ms, in µs (R86, R88). -/
def lostPeriod : Nat := 10000000

/-- The overflow timer, in µs (R93, R94). -/
def overflowPeriod : Nat := 3000

/-- The reported age of the current frame saturates at 65,535 ms (R90); kept here in µs. -/
def frameAgeMax : Nat := 65535000

/-- The meter word that means no temperature reading, 0x8000 (R78). -/
def noReading : Int := -32768

/-- The reference level table of R143, in kΩ. -/
def referenceLevel : Nat → Nat
  | 0 => 20
  | 1 => 50
  | 2 => 100
  | 3 => 150
  | 4 => 250
  | 5 => 400
  | 6 => 600
  | _ => 1000

/-- FREE VALUE (log 4): where several of the part's timers run out at the same µs, the one taken first is the entry
of this number, modulo their count, in the list of those due. R88, R89: "either may be taken first". -/
opaque duePick : Nat → Nat

/-- FREE VALUE (log 5): the voltage of the Offer Line, in 0.1 V, sampled at a capture overflow that the part's own
timer raises (R94: "the line's present voltage is sampled"). -/
opaque lineLevel : Nat → BitVec 16

end Sys2Proof.Config
end

