-- ==== Sys2Proof/Machine/State.lean ====
section
/-! DEFINITION. The state of the VQ40, block by block (00_scope, Block overview), as plain data, and its value right
after power-on. -/

namespace Sys2Proof.Machine

/-! ### Session Table (chapter 1) -/

/-- The states of a session (R1). -/
inductive SessionState where
  | free | authorized | active | paused | complete | closing | closed
  deriving DecidableEq, Repr

/-- The pause reasons of a session, a set of six (R1): each is held or not. -/
structure PauseReasons where
  host : Bool
  credit : Bool
  cold : Bool
  offer : Bool
  isolation : Bool
  meter : Bool
  deriving DecidableEq, Repr

/-- The empty set of pause reasons. -/
def PauseReasons.empty : PauseReasons := ⟨false, false, false, false, false, false⟩

/-- Why a session closed (R1). -/
inductive CloseReason where
  | stoppedControl | stoppedBilling | unplugged | meterLost | reset
  deriving DecidableEq, Repr

/-- An energy field: whole Wh and a remainder in mW-frames (R65). -/
structure Energy where
  wh : Nat
  rem : Nat
  deriving DecidableEq, Repr

/-- A session record (R1). The mark energyFrozen is beside it: an addition would have passed the range of the supply
energy, so the energies stand for the rest of the session's life (R67; log 37). It is clear in the FREE record. -/
structure Session where
  serial : Nat
  state : SessionState
  reasons : PauseReasons
  chargeAccount : Fin 16
  heatAccount : Option (Fin 16)
  chain : Fin 4
  currentBand : Option (Fin 32)
  energyTarget : Option Nat
  authorizedMinute : Nat
  queuedMinutes : Option Nat
  liveMinute : Option Nat
  endMinute : Option Nat
  supplyEnergy : Energy
  chargeEnergy : Energy
  heatEnergy : Energy
  chargeHold : Nat
  heatHold : Option Nat
  chargeCost : Nat
  heatCost : Nat
  occupancyMinutes : Nat
  heldFrames : Nat
  energyFrozen : Bool
  closeReason : Option CloseReason
  collectedBy : Option Port
  deriving DecidableEq, Repr

/-- The FREE record: no optional field, every other field zero or empty (R1). -/
def Session.free : Session where
  serial := 0
  state := .free
  reasons := .empty
  chargeAccount := 0
  heatAccount := none
  chain := 0
  currentBand := none
  energyTarget := none
  authorizedMinute := 0
  queuedMinutes := none
  liveMinute := none
  endMinute := none
  supplyEnergy := ⟨0, 0⟩
  chargeEnergy := ⟨0, 0⟩
  heatEnergy := ⟨0, 0⟩
  chargeHold := 0
  heatHold := none
  chargeCost := 0
  heatCost := 0
  occupancyMinutes := 0
  heldFrames := 0
  energyFrozen := false
  closeReason := none
  collectedBy := none

/-- The Session Table: eight records, the authorization queue oldest first (R4) and the serial counter (R3). -/
structure SessionTable where
  records : Vector Session 8
  queue : List (Fin 8)
  nextSerial : Nat
  deriving DecidableEq, Repr

/-! ### Account Table (chapter 2) -/

/-- The states of an account (R28). -/
inductive AccountState where
  | free | opened | blocked
  deriving DecidableEq, Repr

/-- The kinds of an account (R28). -/
inductive AccountKind where
  | prepaid | creditLine | depot
  deriving DecidableEq, Repr

/-- An account record (R28). Money is in milli-cents. -/
structure Account where
  state : AccountState
  id : Nat
  kind : Option AccountKind
  balance : Int
  limit : Option Nat
  held : Nat
  holdStep : Nat
  sessionCount : Nat
  deriving DecidableEq, Repr

/-- The FREE account record (R28). -/
def Account.free : Account := ⟨.free, 0, none, 0, none, 0, 0, 0⟩

/-! ### Tariff Store (chapter 3) -/

/-- The states of a band (R45). -/
inductive BandState where
  | free | used
  deriving DecidableEq, Repr

/-- A band record (R45). -/
structure Band where
  state : BandState
  tag : Fin 4
  start : Nat
  chargeRate : Nat
  heatRate : Nat
  occupancyRate : Nat
  cap : Option Nat
  next : Fin 32
  deriving DecidableEq, Repr

/-- The FREE band (R45). -/
def Band.free : Band := ⟨.free, 0, 0, 0, 0, 0, none, 0⟩

/-- The states of a chain (R46). -/
inductive ChainState where
  | empty | opened | sealed
  deriving DecidableEq, Repr

/-- A chain record (R46). -/
structure Chain where
  id : Option Nat
  state : ChainState
  head : Option (Fin 32)
  bandCount : Nat
  lockCount : Nat
  deriving DecidableEq, Repr

/-- The EMPTY chain (R46). -/
def Chain.empty : Chain := ⟨none, .empty, none, 0, 0⟩

/-- The Tariff Store: bands, chains, the calendar (none while UNSET), the minute timer (none while stopped, else µs
to expiry) and the authorization lifetime (R45, R46, R54, R58). -/
structure TariffStore where
  bands : Vector Band 32
  chains : Vector Chain 4
  calendar : Option Nat
  minuteTimer : Option Nat
  lifetime : Nat
  deriving DecidableEq, Repr

/-! ### Meter Link Receiver (chapter 5) -/

/-- The states of the meter link (R81). -/
inductive LinkState where
  | searching | synced | holding | lost | recovering
  deriving DecidableEq, Repr

/-- Words 0 to 13 of a meter frame by their meaning (R78); `zoneTemps` are words 7 to 12. -/
structure MeterFrame where
  status : Word
  supplyVoltage : Word
  supplyCurrent : Word
  packVoltage : Word
  heaterCurrent : Word
  insulationPos : Word
  insulationNeg : Word
  zoneTemps : Vector Word 6
  inlet : Word
  deriving DecidableEq, Repr

/-- The link record (R81). Timers are in µs to expiry; `frameAge` is the time since the current frame was accepted
(R90). `assembly` holds the words received since the last sync, oldest first, or none. -/
structure MeterLink where
  state : LinkState
  heldCount : Nat
  goodCount : Nat
  frame : Option MeterFrame
  frameAge : Nat
  assembly : Option (List Word)
  overdue : Nat
  lost : Option Nat
  deriving DecidableEq, Repr

/-! ### Offer Monitor (chapter 6) -/

/-- The supply states (R92). -/
inductive SupplyState where
  | unplugged | plugged | offering | faulted
  deriving DecidableEq, Repr

/-- The level classes (R92). -/
inductive LevelClass where
  | opened | connected | requesting | fault
  deriving DecidableEq, Repr

/-- The judgement of a complete period (R95); an offer is in 0.1 A. -/
inductive Judgement where
  | offer (current : Nat)
  | noOffer
  | invalid
  deriving DecidableEq, Repr

/-- The last period or overflow taken (R92, R95). -/
inductive LastPeriod where
  | period (length high duty : Nat) (judgement : Judgement) (cls : LevelClass)
  | overflow (steadyLevel : Word) (cls : LevelClass)
  deriving DecidableEq, Repr

/-- The capture field (R92, R93): waiting for a rising edge, or timing a period, with the µs since its start and,
once its falling edge has come, its high time in µs and its high plateau in 0.1 V. -/
inductive Capture where
  | waiting
  | timing (elapsed : Nat) (high : Option (Nat × Word))
  deriving DecidableEq, Repr

/-- The Offer Monitor's record (R92). -/
structure OfferMonitor where
  state : SupplyState
  level : LevelClass
  candidate : Option LevelClass
  classCount : Nat
  offered : Option Nat
  run : List Nat
  noOffer : Nat
  last : Option LastPeriod
  capture : Capture
  overflow : Nat
  requestLine : Bool
  deriving DecidableEq, Repr

/-! ### Allocation Planner (chapter 7) -/

/-- The planner states (R108). -/
inductive PlannerState where
  | idle | running | halted
  deriving DecidableEq, Repr

/-- The budget sources (R108). -/
inductive BudgetSource where
  | grid | pack
  deriving DecidableEq, Repr

/-- The inlet derates (R108). -/
inductive Derate where
  | full | half | zero
  deriving DecidableEq, Repr

/-- A plan entry (R108): for each zone on, the rated power it had when placed; heater power, charger command and
slot budget in W. -/
structure PlanEntry where
  zones : Vector (Option Nat) 6
  heaterPower : Nat
  command : Nat
  budget : Nat
  deriving DecidableEq, Repr

/-- The empty entry (R108). -/
def PlanEntry.empty : PlanEntry := ⟨Vector.replicate 6 none, 0, 0, 0⟩

/-- The planner's record (R108), with the six Heater Drive lines it owns and the number of setpoint messages sent on
the Charger Command Link since power-on (R117, R127; log 21). -/
structure Planner where
  state : PlannerState
  slot : Option (Fin 16)
  source : Option BudgetSource
  budget : Nat
  heaterCap : Nat
  cycleCap : Option Nat
  derate : Derate
  order : List (Fin 6)
  plan : Vector PlanEntry 16
  lastCommand : Nat
  request : Bool
  heaterLines : Vector Bool 6
  messages : Nat
  deriving DecidableEq, Repr

/-- The planner after power-on, the charger command of 0 W sent (R108, R127). -/
def Planner.powerOn : Planner where
  state := .idle
  slot := none
  source := none
  budget := 0
  heaterCap := 0
  cycleCap := none
  derate := .full
  order := []
  plan := Vector.replicate 16 .empty
  lastCommand := 0
  request := false
  heaterLines := Vector.replicate 6 false
  messages := 1

/-! ### Heat Controller (chapter 8) -/

/-- The zone modes (R128). -/
inductive ZoneMode where
  | off | auto | direct
  deriving DecidableEq, Repr

/-- A zone record (R128). Temperatures and targets are in 0.5 °C steps, powers in W. -/
structure Zone where
  mode : ZoneMode
  drive : Bool
  target : Int
  rated : Nat
  temperature : Option Int
  streak : Nat
  demand : Nat
  granted : Nat
  excluded : Bool
  underTest : Bool
  deferred : Bool
  deriving DecidableEq, Repr

/-- A zone after power-on (R128). -/
def Zone.powerOn : Zone := ⟨.off, false, 0, 0, none, 0, 0, 0, false, false, false⟩

/-- An entry of the admission table (R129): a threshold in 0.5 °C steps and a charger power limit in W. -/
structure AdmissionEntry where
  threshold : Int
  limit : Nat
  deriving DecidableEq, Repr

/-- The Heat Controller: six zone records (R128) and the heating record (R129). -/
structure HeatController where
  zones : Vector Zone 6
  admission : List AdmissionEntry
  share : Nat
  packBudget : Nat
  preheat : Int
  admissionLimit : Nat
  coldest : Option Int
  coldestZone : Option (Fin 6)
  deriving DecidableEq, Repr

/-- The Heat Controller after power-on (R128, R129). -/
def HeatController.powerOn : HeatController where
  zones := Vector.replicate 6 .powerOn
  admission := [⟨-20, 3300⟩, ⟨0, 7400⟩]
  share := 60
  packBudget := 0
  preheat := 10
  admissionLimit := 0
  coldest := none
  coldestZone := none

/-! ### Isolation Monitor (chapter 9) and Localizer (chapter 10) -/

/-- The two rails. -/
inductive Rail where
  | pos
  | neg
  deriving DecidableEq, Repr

/-- A comparator's counts (R144). -/
structure Comparator where
  below : Nat
  above : Nat
  deriving DecidableEq, Repr

/-- The isolation settings (R143). -/
structure IsolationSettings where
  warning : Nat
  trip : Nat
  persistence : Nat
  autoLocalize : Bool
  dwell : Nat
  deriving DecidableEq, Repr

/-- The states of a fault record (R146). -/
inductive FaultState where
  | free | active | cleared
  deriving DecidableEq, Repr

/-- The verdicts of a localization (R146, R165). -/
inductive Verdict where
  | zone (z : Fin 6)
  | charger
  | packSide
  | unresolved
  deriving DecidableEq, Repr

/-- A fault record (R146). -/
structure FaultRecord where
  state : FaultState
  occurrences : Nat
  firstMinute : Option Nat
  firstReading : Option Nat
  worstReading : Option Nat
  verdict : Option Verdict
  revision : Nat
  seenCp : Option Nat
  seenBp : Option Nat
  deriving DecidableEq, Repr

/-- A fault record after power-on (R146). -/
def FaultRecord.powerOn : FaultRecord := ⟨.free, 0, none, none, none, none, 0, none, none⟩

/-- The Isolation Monitor: settings (R143), four comparators (R144), the heater mismatch votes (R152) and the Fault
Table by key code (R146). -/
structure IsolationMonitor where
  settings : IsolationSettings
  warnPos : Comparator
  tripPos : Comparator
  warnNeg : Comparator
  tripNeg : Comparator
  votes : Vector Nat 6
  faults : Vector FaultRecord 12
  deriving DecidableEq, Repr

/-- The Isolation Monitor after power-on (R143, R158). -/
def IsolationMonitor.powerOn : IsolationMonitor where
  settings := ⟨4, 2, 8, true, 25⟩
  warnPos := ⟨0, 0⟩
  tripPos := ⟨0, 0⟩
  warnNeg := ⟨0, 0⟩
  tripNeg := ⟨0, 0⟩
  votes := Vector.replicate 6 0
  faults := Vector.replicate 12 .powerOn

/-- The states of the Localizer (R159). -/
inductive LocalizerState where
  | idle
  | dwell
  deriving DecidableEq, Repr

/-- A suspect (R159). -/
inductive Suspect where
  | charger
  | zone (z : Fin 6)
  deriving DecidableEq, Repr

/-- The localizer record and the suspect stack, bottom first (R159). The target is named by its rail. -/
structure Localizer where
  state : LocalizerState
  target : Option Rail
  suspect : Option Suspect
  dwellCount : Nat
  stepLength : Nat
  readings : List Nat
  stack : List Suspect
  lastOutcome : Option (Rail × Verdict)
  deriving DecidableEq, Repr

/-! ### Attention Unit and ports (chapter 11) -/

/-- The pending set and the enable mask of each port, bit k for the cause of bit k (R177). -/
structure Attention where
  pendingCp : BitVec 10
  pendingBp : BitVec 10
  maskCp : BitVec 10
  maskBp : BitVec 10
  deriving DecidableEq, Repr

/-- The result codes (section 11.1). -/
inductive ResultCode where
  | ok | denied | malformed | badValue | wrongState | inUse | tableFull | noFunds | stale | badChain | blocked
  | unset | duplicate | busy
  deriving DecidableEq, Repr

/-- A response before it is put on a port (section 11.1): its result code, the echoed request code and the data. -/
structure Response where
  result : ResultCode
  code : Byte
  data : List Byte
  deriving DecidableEq, Repr

/-- The Control Port (R171): response buffer, overrun mark and the bytes shifted out during the last transaction. -/
structure ControlPort where
  buffer : Option Response
  overrun : Bool
  shifted : List Byte
  deriving DecidableEq, Repr

/-- A frame taken on the Billing Port (R173, R174): a complete frame to execute, or a MALFORMED answer to make, with
the byte it echoes. -/
inductive BillingItem where
  | frame (bytes : List Byte)
  | malformed (echo : Byte)
  deriving DecidableEq, Repr

/-- The Billing Port (R173, R174): the frame in assembly, the ignoring state, the waiting list oldest first, the
bytes of the response in progress and the overrun mark. -/
structure BillingPort where
  assembly : Option (List Byte)
  ignoring : Bool
  waiting : List BillingItem
  sending : Option (List Byte)
  overrun : Bool
  deriving DecidableEq, Repr

/-- The takers of a meter period event (section 5.4) and of a minute event (R54), whose order the manual leaves open
(log 6). -/
inductive Taker where
  | accrual | heat | planner | isolation | localizer | occupancy | ageing
  deriving DecidableEq, Repr

/-! ### The whole part -/

/-- The state of the VQ40, with the queue of commands that wait. `choices` and `freeCount` are the model's own: the
open orders of the events to come (log 6) and the index of the free values of Config (log 4, log 5). -/
structure State where
  sessions : SessionTable
  accounts : Vector Account 16
  tariff : TariffStore
  meter : MeterLink
  supply : OfferMonitor
  planner : Planner
  heating : HeatController
  isolation : IsolationMonitor
  localizer : Localizer
  attention : Attention
  portsStarted : Bool
  control : ControlPort
  billing : BillingPort
  choices : List (List Taker)
  freeCount : Nat
  pending : List Instr
  deriving DecidableEq, Repr

/-- Right after power-on, the ports' internal start not yet complete (R180), nothing waiting. -/
def State.reset : State where
  sessions := ⟨Vector.replicate 8 .free, [], 1⟩
  accounts := Vector.replicate 16 .free
  tariff := ⟨Vector.replicate 32 .free, Vector.replicate 4 .empty, none, none, 120⟩
  meter := ⟨.searching, 0, 0, none, 0, none, Config.overdueAfterFrame, none⟩
  supply := ⟨.unplugged, .opened, none, 0, none, [], 0, none, .waiting, Config.overflowPeriod, false⟩
  planner := .powerOn
  heating := .powerOn
  isolation := .powerOn
  localizer := ⟨.idle, none, none, 0, 25, [], [], none⟩
  attention := ⟨0, 0, 0, 0⟩
  portsStarted := false
  control := ⟨none, false, []⟩
  billing := ⟨none, false, [], none, false⟩
  choices := []
  freeCount := 0
  pending := []

/-- The faults of the model: none, because no rule of the manual stops the part. -/
inductive Fault where
  deriving DecidableEq, Repr

/-- The refusals of the model. -/
inductive Refusal where
  /-- Raised by exec's arm of a command that has no meaning yet, under the command's mnemonic. Safe. -/
  | notModelled (mnemonic : String)
  deriving DecidableEq, Repr

end Sys2Proof.Machine
end

