-- ==== Sys2Proof/Machine/Ops.lean ====
section
/-! DEFINITION. The shared operations over the records: one reader and one writer for each block and each record,
the posting of attention causes, the live session, and the passing of time. -/

namespace Sys2Proof.Machine

/-! ### One writer for each block -/

def State.setSessions (s : State) (v : SessionTable) : State := { s with sessions := v }
def State.setAccounts (s : State) (v : Vector Account 16) : State := { s with accounts := v }
def State.setTariff (s : State) (v : TariffStore) : State := { s with tariff := v }
def State.setMeter (s : State) (v : MeterLink) : State := { s with meter := v }
def State.setSupply (s : State) (v : OfferMonitor) : State := { s with supply := v }
def State.setPlanner (s : State) (v : Planner) : State := { s with planner := v }
def State.setHeating (s : State) (v : HeatController) : State := { s with heating := v }
def State.setIsolation (s : State) (v : IsolationMonitor) : State := { s with isolation := v }
def State.setLocalizer (s : State) (v : Localizer) : State := { s with localizer := v }
def State.setAttention (s : State) (v : Attention) : State := { s with attention := v }
def State.setStarted (s : State) (v : Bool) : State := { s with portsStarted := v }
def State.setControl (s : State) (v : ControlPort) : State := { s with control := v }
def State.setBilling (s : State) (v : BillingPort) : State := { s with billing := v }
def State.setChoices (s : State) (v : List (List Taker)) : State := { s with choices := v }
def State.setFreeCount (s : State) (v : Nat) : State := { s with freeCount := v }
def State.setPending (s : State) (v : List Instr) : State := { s with pending := v }

/-! ### One reader and one writer for each record -/

/-- The session record of slot `i` (R1). -/
def State.session (s : State) (i : Fin 8) : Session := s.sessions.records[i]

/-- Writes the session record of slot `i`. -/
def State.setSession (s : State) (i : Fin 8) (r : Session) : State :=
  s.setSessions { s.sessions with records := s.sessions.records.set i r }

/-- The account record of index `a` (R28). -/
def State.account (s : State) (a : Fin 16) : Account := s.accounts[a]

/-- Writes the account record of index `a`. -/
def State.setAccount (s : State) (a : Fin 16) (r : Account) : State := s.setAccounts (s.accounts.set a r)

/-- The band record of index `b` (R45). -/
def State.band (s : State) (b : Fin 32) : Band := s.tariff.bands[b]

/-- Writes the band record of index `b`. -/
def State.setBand (s : State) (b : Fin 32) (r : Band) : State :=
  s.setTariff { s.tariff with bands := s.tariff.bands.set b r }

/-- The chain record of index `c` (R46). -/
def State.chain (s : State) (c : Fin 4) : Chain := s.tariff.chains[c]

/-- Writes the chain record of index `c`. -/
def State.setChain (s : State) (c : Fin 4) (r : Chain) : State :=
  s.setTariff { s.tariff with chains := s.tariff.chains.set c r }

/-- The zone record of zone `z` (R128). -/
def State.zone (s : State) (z : Fin 6) : Zone := s.heating.zones[z]

/-- Writes the zone record of zone `z`. -/
def State.setZone (s : State) (z : Fin 6) (r : Zone) : State :=
  s.setHeating { s.heating with zones := s.heating.zones.set z r }

/-- The fault record of key code `k` (R146). -/
def State.fault (s : State) (k : Fin 12) : FaultRecord := s.isolation.faults[k]

/-- Writes the fault record of key code `k`. -/
def State.setFault (s : State) (k : Fin 12) (r : FaultRecord) : State :=
  s.setIsolation { s.isolation with faults := s.isolation.faults.set k r }

/-! ### Fault keys (R146) -/

/-- The key code of ISO_WARN of a rail. -/
def warnKey : Rail → Fin 12
  | .pos => 0
  | .neg => 1

/-- The key code of ISO_TRIP of a rail. -/
def tripKey : Rail → Fin 12
  | .pos => 2
  | .neg => 3

/-- The key code of HEATER_ZONE of a zone. -/
def heaterKey (z : Fin 6) : Fin 12 := ⟨z.val + 4, by omega⟩

/-- The key code of METER_LOST. -/
def meterLostKey : Fin 12 := 10

/-- The key code of OFFER_FAULT. -/
def offerFaultKey : Fin 12 := 11

/-! ### Attention causes (section 11.6) -/

/-- The ten attention causes. -/
inductive Cause where
  | plug | sessionLive | sessionPaused | sessionClosed | sessionVoid | creditLow | faultActive | faultCleared
  | localizeDone | meterState
  deriving DecidableEq, Repr

/-- The bit of a cause in a set of causes. -/
def Cause.bit : Cause → Nat
  | .plug => 0
  | .sessionLive => 1
  | .sessionPaused => 2
  | .sessionClosed => 3
  | .sessionVoid => 4
  | .creditLow => 5
  | .faultActive => 6
  | .faultCleared => 7
  | .localizeDone => 8
  | .meterState => 9

/-- The set that holds one cause. -/
def Cause.set (c : Cause) : BitVec 10 := 1#10 <<< c.bit

/-- Posts a cause: it is added to the pending sets of both ports (R177). -/
def post (c : Cause) (s : State) : State :=
  s.setAttention { s.attention with
    pendingCp := s.attention.pendingCp ||| c.set, pendingBp := s.attention.pendingBp ||| c.set }

/-! ### Live sessions and the small predicates of the records -/

/-- A session is live while ACTIVE, PAUSED or COMPLETE (R2). -/
def SessionState.isLive : SessionState → Bool
  | .active => true
  | .paused => true
  | .complete => true
  | .free => false
  | .authorized => false
  | .closing => false
  | .closed => false

/-- A session that is live or CLOSING accrues (R61). -/
def SessionState.accrues (st : SessionState) : Bool := st.isLive || st == .closing

/-- The set of pause reasons is empty. -/
def PauseReasons.isEmpty (p : PauseReasons) : Bool :=
  !(p.host || p.credit || p.cold || p.offer || p.isolation || p.meter)

/-- The set holds no reason but COLD (R120). -/
def PauseReasons.onlyCold (p : PauseReasons) : Bool :=
  !(p.host || p.credit || p.offer || p.isolation || p.meter)

/-- The slot of the live session, if one is live (R2). -/
def liveSlot (s : State) : Option (Fin 8) := (List.finRange 8).find? fun i => (s.session i).state.isLive

/-- The slot of the accruing session, live or CLOSING, if there is one (R61). -/
def accruingSlot (s : State) : Option (Fin 8) := (List.finRange 8).find? fun i => (s.session i).state.accrues

/-- The slot of the CLOSING session, if there is one (R22). -/
def closingSlot (s : State) : Option (Fin 8) :=
  (List.finRange 8).find? fun i => (s.session i).state == .closing

/-- The calendar minute a block reads; while UNSET no session exists to ask for it (R54). -/
def minuteNow (s : State) : Nat := s.tariff.calendar.getD 0

/-- A fault record is non-FREE while ACTIVE or CLEARED (R146). -/
def FaultRecord.nonFree (f : FaultRecord) : Bool := f.state != .free

/-- At least one ISO_TRIP record is non-FREE (R124). -/
def tripHeld (s : State) : Bool := (s.fault (tripKey .pos)).nonFree || (s.fault (tripKey .neg)).nonFree

/-- A non-FREE ISO_WARN record with the verdict CHARGER (R150). -/
def chargerAtFault (f : FaultRecord) : Bool := f.nonFree && f.verdict == some .charger

/-- The isolation condition (R150). -/
def isolationCondition (s : State) : Bool :=
  tripHeld s || chargerAtFault (s.fault (warnKey .pos)) || chargerAtFault (s.fault (warnKey .neg))

/-- The link states in which the planner may run and no session takes METER (R8, R124). -/
def LinkState.isGood : LinkState → Bool
  | .synced => true
  | .holding => true
  | .searching => false
  | .lost => false
  | .recovering => false

/-! ### Arithmetic -/

/-- A sum saturated to the 40-bit money range (R32, R42). -/
def saturateMoney (v : Int) : Int :=
  if v < -549755813888 then -549755813888 else if (Config.moneyMax : Int) < v then Config.moneyMax else v

/-- Applies `f` to each place of a table with its index. -/
def mapIndexed {α : Type} {n : Nat} (f : Fin n → α → α) (v : Vector α n) : Vector α n :=
  Vector.ofFn fun i => f i v[i]

/-! ### Time (log 1, log 2, log 3) -/

/-- The capture's count of µs since the start of its period (R93). -/
def Capture.pass (us : Nat) : Capture → Capture
  | .waiting => .waiting
  | .timing elapsed high => .timing (elapsed + us) high

/-- Lets `us` microseconds pass: every running timer comes so much nearer to its expiry, the frame's age and the
period being timed grow (R54, R83, R88, R90, R93, R94). -/
def passTime (us : Nat) (s : State) : State :=
  { s with
    tariff := { s.tariff with minuteTimer := s.tariff.minuteTimer.map (· - us) }
    meter := { s.meter with
      overdue := s.meter.overdue - us
      lost := s.meter.lost.map (· - us)
      frameAge := min (s.meter.frameAge + us) Config.frameAgeMax }
    supply := { s.supply with overflow := s.supply.overflow - us, capture := s.supply.capture.pass us } }

/-! ### Open orders (log 6) -/

/-- The takers of `needed` in the order that `wish` gives, those it does not name after them. -/
def arrange (needed wish : List Taker) : List Taker :=
  (wish.filter (· ∈ needed)).dedup ++ needed.filter (· ∉ wish)

/-- The order in which the takers of one event act, taken from the front of `choices`. -/
def openOrder (needed : List Taker) (s : State) : List Taker := arrange needed (s.choices.headD [])

/-- The choice of one event is used up. -/
def dropChoice (s : State) : State := s.setChoices s.choices.tail

end Sys2Proof.Machine
end

