-- ==== Sys2Proof/Machine/Operands.lean ====
section
/-! DEFINITION. The operand forms: how a field of a request names a record or a value, and how a field of a response
is laid out (section 11.1, field widths and codings). -/

namespace Sys2Proof.Machine

/-! ### Fields of a request -/

/-- The index a byte names, if it is in range; otherwise BAD_VALUE. -/
def index? (n : Nat) (b : Byte) : Option (Fin n) := if h : b.toNat < n then some ⟨b.toNat, h⟩ else none

/-- The key code of a fault (R154). -/
def key? (b : Byte) : Option (Fin 12) := index? 12 b

/-- An account kind by its code (section 11.1). -/
def kind? (b : Byte) : Option AccountKind :=
  if b = 0 then some .prepaid else if b = 1 then some .creditLine else if b = 2 then some .depot else none

/-- A zone mode by its code (section 11.1). -/
def mode? (b : Byte) : Option ZoneMode :=
  if b = 0 then some .off else if b = 1 then some .auto else if b = 2 then some .direct else none

/-- On or off by its code (section 11.1). -/
def onOff? (b : Byte) : Option Bool := if b = 0 then some false else if b = 1 then some true else none

/-- A target, preheat target or threshold in 0.5 °C steps, within −40.0 to +60.0 °C (R129, R136). -/
def temperature? (w : BitVec 16) : Option Int :=
  if -80 ≤ w.toInt ∧ w.toInt ≤ 120 then some w.toInt else none

/-- A value of a range; out of it is BAD_VALUE. -/
def within? (low high v : Nat) : Option Nat := if low ≤ v ∧ v ≤ high then some v else none

/-- An optional field that is absent is in range; a present one must be. -/
def present? {α β : Type} (f : α → Option β) : Option α → Option (Option β)
  | none => some none
  | some a => (f a).map some

/-! ### Fields of a response, most significant byte first -/

/-- A field of `n` bytes that carries the low bits of an integer. -/
def field : Nat → Int → List Byte
  | 0, _ => []
  | n + 1, v => field n (v / 256) ++ [BitVec.ofInt 8 v]

/-- One byte: an index, code, state, flag or small count. -/
def byte (v : Nat) : List Byte := field 1 v

/-- Two bytes. -/
def half (v : Int) : List Byte := field 2 v

/-- Four bytes. -/
def quad (v : Nat) : List Byte := field 4 v

/-- Five bytes of money, two's complement. -/
def money (v : Int) : List Byte := field 5 v

/-- One bit of a mask or flag. -/
def bit (b : Bool) : Nat := if b then 1 else 0

/-- A mask whose bit 0 is the first of the list. -/
def mask : List Bool → Nat
  | [] => 0
  | b :: rest => bit b + 2 * mask rest

/-- A list of at most `size` entries of `width` bytes each: its count, its entries, then positions of zeros. -/
def positions (size width : Nat) (entries : List (List Byte)) : List Byte :=
  byte entries.length ++ entries.flatten ++ List.replicate ((size - entries.length) * width) 0

/-! ### Codes (section 11.1 and 11.4) -/

def ResultCode.code : ResultCode → Nat
  | .ok => 0
  | .denied => 1
  | .malformed => 2
  | .badValue => 3
  | .wrongState => 4
  | .inUse => 5
  | .tableFull => 6
  | .noFunds => 7
  | .stale => 8
  | .badChain => 9
  | .blocked => 10
  | .unset => 11
  | .duplicate => 12
  | .busy => 13

def SessionState.code : SessionState → Nat
  | .free => 0
  | .authorized => 1
  | .active => 2
  | .paused => 3
  | .complete => 4
  | .closing => 5
  | .closed => 6

def PauseReasons.code (p : PauseReasons) : Nat := mask [p.host, p.credit, p.cold, p.offer, p.isolation, p.meter]

def CloseReason.code : CloseReason → Nat
  | .stoppedControl => 1
  | .stoppedBilling => 2
  | .unplugged => 3
  | .meterLost => 4
  | .reset => 5

def portCode : Port → Nat
  | .cp => 1
  | .bp => 2

def AccountState.code : AccountState → Nat
  | .free => 0
  | .opened => 1
  | .blocked => 2

def AccountKind.code : AccountKind → Nat
  | .prepaid => 0
  | .creditLine => 1
  | .depot => 2

def BandState.code : BandState → Nat
  | .free => 0
  | .used => 1

def ChainState.code : ChainState → Nat
  | .empty => 0
  | .opened => 1
  | .sealed => 2

def SupplyState.code : SupplyState → Nat
  | .unplugged => 0
  | .plugged => 1
  | .offering => 2
  | .faulted => 3

def LevelClass.code : LevelClass → Nat
  | .opened => 0
  | .connected => 1
  | .requesting => 2
  | .fault => 3

def LinkState.code : LinkState → Nat
  | .searching => 0
  | .synced => 1
  | .holding => 2
  | .lost => 3
  | .recovering => 4

def PlannerState.code : PlannerState → Nat
  | .idle => 0
  | .running => 1
  | .halted => 2

def BudgetSource.code : BudgetSource → Nat
  | .grid => 0
  | .pack => 1

def Derate.code : Derate → Nat
  | .full => 0
  | .half => 1
  | .zero => 2

def ZoneMode.code : ZoneMode → Nat
  | .off => 0
  | .auto => 1
  | .direct => 2

def FaultState.code : FaultState → Nat
  | .free => 0
  | .active => 1
  | .cleared => 2

def Verdict.code : Verdict → Nat
  | .zone z => z.val
  | .charger => 6
  | .packSide => 7
  | .unresolved => 8

def LocalizerState.code : LocalizerState → Nat
  | .idle => 0
  | .dwell => 1

def Suspect.code : Suspect → Nat
  | .zone z => z.val
  | .charger => 6

/-! ### Record layouts -/

/-- An energy field: Wh, then remainder (section 11.4). -/
def Energy.bytes (e : Energy) : List Byte := quad e.wh ++ quad e.rem

/-- The session record of LOOK_SESSION and COLLECT, 77 bytes (section 11.4, R175). -/
def sessionBytes (slot : Fin 8) (r : Session) : List Byte :=
  byte slot.val ++ half r.serial ++ byte r.state.code ++ byte r.reasons.code ++
  half (mask [r.heatAccount.isSome, r.heatHold.isSome, r.currentBand.isSome, r.energyTarget.isSome,
    r.queuedMinutes.isSome, r.liveMinute.isSome, r.endMinute.isSome, r.closeReason.isSome, r.collectedBy.isSome]) ++
  byte r.chargeAccount.val ++ byte ((r.heatAccount.map Fin.val).getD 0) ++ byte r.chain.val ++
  byte ((r.currentBand.map Fin.val).getD 0) ++ quad (r.energyTarget.getD 0) ++ half r.authorizedMinute ++
  half (r.queuedMinutes.getD 0) ++ half (r.liveMinute.getD 0) ++ half (r.endMinute.getD 0) ++
  r.supplyEnergy.bytes ++ r.chargeEnergy.bytes ++ r.heatEnergy.bytes ++
  money r.chargeHold ++ money (r.heatHold.getD 0) ++ money r.chargeCost ++ money r.heatCost ++
  quad r.occupancyMinutes ++ quad r.heldFrames ++
  byte ((r.closeReason.map CloseReason.code).getD 0) ++ byte ((r.collectedBy.map portCode).getD 0)

/-- The fault record of LOOK_FAULT, 14 bytes (section 11.4, R175). -/
def faultBytes (k : Fin 12) (f : FaultRecord) : List Byte :=
  byte k.val ++ byte f.state.code ++ byte f.occurrences ++ byte f.revision ++
  byte (mask [f.firstMinute.isSome, f.firstReading.isSome, f.worstReading.isSome, f.verdict.isSome,
    f.seenCp.isSome, f.seenBp.isSome]) ++
  half (f.firstMinute.getD 0) ++ half (f.firstReading.getD 0) ++ half (f.worstReading.getD 0) ++
  byte ((f.verdict.map Verdict.code).getD 0) ++ byte (f.seenCp.getD 0) ++ byte (f.seenBp.getD 0)

/-- The fields of a zone record (R128, R136), without the presence mask that stands first in a response. -/
def zoneFields (z : Fin 6) (r : Zone) : List Byte :=
  byte z.val ++ byte r.mode.code ++ byte (bit r.drive) ++ half r.target ++ quad r.rated ++
  half (r.temperature.getD 0) ++ byte r.streak ++ byte r.demand ++ byte r.granted ++ byte (bit r.excluded) ++
  byte (bit r.underTest) ++ byte (bit r.deferred)

/-- The admission table as a list of eight entry positions (R134). -/
def admissionBytes (l : List AdmissionEntry) : List Byte :=
  positions 8 6 (l.map fun e => half e.threshold ++ quad e.limit)

/-- The set of zones on, one bit a zone (section 11.1). -/
def zoneSetCode (e : PlanEntry) : Nat := mask (e.zones.toList.map Option.isSome)

/-- A plan entry as LOOK_PLAN returns it (R126). -/
def entryBytes (e : PlanEntry) : List Byte :=
  byte (zoneSetCode e) ++ quad e.heaterPower ++ quad e.command ++ quad e.budget

/-- The words 0 to 13 of a meter frame, as they were accepted (R78, R90). -/
def MeterFrame.words (f : MeterFrame) : List Word :=
  [f.status, f.supplyVoltage, f.supplyCurrent, f.packVoltage, f.heaterCurrent, f.insulationPos, f.insulationNeg] ++
  f.zoneTemps.toList ++ [f.inlet]

/-- The bytes of a frame's 14 words, zeros when no frame is current (R90). -/
def frameBytes : Option MeterFrame → List Byte
  | some f => (f.words.map fun w => half w.toNat).flatten
  | none => List.replicate 28 0

/-- The localizer record with its stack and last outcome, as LOCALIZE and CANCEL_LOCALIZE return it (R160, R166). -/
def localizerBytes (l : Localizer) : List Byte :=
  byte (mask [l.target.isSome, l.suspect.isSome, l.lastOutcome.isSome]) ++ byte l.state.code ++
  byte ((l.target.map fun r => (warnKey r).val).getD 0) ++ byte ((l.suspect.map Suspect.code).getD 0) ++
  byte l.dwellCount ++ byte l.stepLength ++
  positions 4 2 (l.readings.map fun r => half r) ++ positions 7 1 (l.stack.map fun x => byte x.code) ++
  byte ((l.lastOutcome.map fun o => (warnKey o.1).val).getD 0) ++
  byte ((l.lastOutcome.map fun o => o.2.code).getD 0)

/-- The code of a judgement (section 11.1). -/
def Judgement.code : Judgement → Nat
  | .offer _ => 0
  | .noOffer => 1
  | .invalid => 2

/-- The value of an offer, 0 where the period made none. -/
def Judgement.value : Judgement → Nat
  | .offer v => v
  | .noOffer => 0
  | .invalid => 0

/-- The last period as LOOK_SUPPLY returns it (R106; the layout is log 11): period, high time, duty, judgement,
offer value, period class, steady level, the fields that do not apply sent as 0. -/
def lastPeriodBytes : Option LastPeriod → List Byte
  | none => List.replicate 12 0
  | some (.period length high duty j cls) =>
    half length ++ half high ++ half duty ++ byte j.code ++ half j.value ++ byte cls.code ++ half 0
  | some (.overflow level cls) =>
    half 0 ++ half 0 ++ half 0 ++ byte 3 ++ half 0 ++ byte cls.code ++ half level.toInt

end Sys2Proof.Machine
end

