-- ==== Sys2Proof/Machine/Flags.lean ====
section
/-! DEFINITION. The flags the part computes: the available amount of an account and the result flags Z, N, V and C
of ADJUST (R29, R32), and the state of the Attention lines (R177, R180). -/

namespace Sys2Proof.Machine

/-- The available amount of an account, none for the unbounded amount of a DEPOT account (R29). -/
def available (a : Account) : Option Int :=
  match a.kind with
  | some .depot => none
  | some .creditLine => some (a.balance + (a.limit.getD 0 : Nat) - (a.held : Nat))
  | some .prepaid => some (a.balance - (a.held : Nat))
  | none => some (a.balance - (a.held : Nat))

/-- The available amount is at least `need`; unbounded compares as greater than any amount (R29). -/
def covers (a : Account) (need : Nat) : Bool :=
  match available a with
  | none => true
  | some v => (need : Int) ≤ v

/-- The available amount as LOOK_ACCOUNT reports it: saturated, and the largest amount where unbounded (R30). -/
def availableReport (a : Account) : Int :=
  match available a with
  | none => Config.moneyMax
  | some v => saturateMoney v

/-- Flag Z: the balance is 0 (R32). -/
def flagZ (a : Account) : Bool := a.balance == 0

/-- Flag N: the balance is negative (R32). -/
def flagN (a : Account) : Bool := a.balance < 0

/-- Flag V: the exact sum lay outside the money range (R32). -/
def flagV (sum : Int) : Bool := saturateMoney sum != sum

/-- Flag C: the available amount is negative; never set for a DEPOT account (R32). -/
def flagC (a : Account) : Bool :=
  match available a with
  | none => false
  | some v => v < 0

/-- The flags byte of ADJUST: bit 0 Z, bit 1 N, bit 2 V, bit 3 C (section 11.1). -/
def adjustFlags (a : Account) (sum : Int) : Nat := mask [flagZ a, flagN a, flagV sum, flagC a]

/-- The pending set of a port (R177). -/
def Attention.pendingOf (t : Attention) : Port → BitVec 10
  | .cp => t.pendingCp
  | .bp => t.pendingBp

/-- The enable mask of a port (R177). -/
def Attention.maskOf (t : Attention) : Port → BitVec 10
  | .cp => t.maskCp
  | .bp => t.maskBp

/-- The Attention line of a port is active while its pending set and its mask share a cause, and never before the
ports' start completes (R177, R180). -/
def lineActive (p : Port) (s : State) : Bool :=
  s.portsStarted && (s.attention.pendingOf p &&& s.attention.maskOf p) != 0

end Sys2Proof.Machine
end

