-- ==== Sys2Proof/Machine/Tariff.lean ====
section
/-! DEFINITION. Chapter 3: tariff chains, the band that covers a minute, the band step, and the tariff requests. -/

namespace Sys2Proof.Machine

/-! ### Replies -/

/-- What a request leaves: the state, its result code and its response data (R170). -/
structure Reply where
  state : State
  result : ResultCode
  data : List Byte

/-- A request that is refused changes nothing and its response carries no data (R170). -/
def refuse (s : State) (code : ResultCode) : Reply := ⟨s, code, []⟩

/-- A request that is executed. -/
def accept (s : State) (data : List Byte) : Reply := ⟨s, .ok, data⟩

/-! ### Walking a chain -/

/-- The bands met from `b` on by following next, `n` of them. -/
def walkBands (bands : Vector Band 32) : Nat → Fin 32 → List (Fin 32)
  | 0, _ => []
  | n + 1, b => b :: walkBands bands n bands[b].next

/-- The bands of a chain in cycle order, head first (R46, R53). -/
def cycleBands (t : TariffStore) (c : Fin 4) : List (Fin 32) :=
  match t.chains[c].head with
  | none => []
  | some h => walkBands t.bands t.chains[c].bandCount h

/-- The band of a SEALED chain that covers minute `m`: the last in cycle order whose start is at or before `m`, or
the tail if the head itself starts after `m` (R47). -/
def coveringBand (t : TariffStore) (c : Fin 4) (m : Nat) : Option (Fin 32) :=
  match ((cycleBands t c).filter fun b => t.bands[b].start ≤ m).getLast? with
  | some b => some b
  | none => (cycleBands t c).getLast?

/-- The indices of the USED bands tagged with a chain, ascending (R49, R53). -/
def taggedBands (t : TariffStore) (c : Fin 4) : List (Fin 32) :=
  (List.finRange 32).filter fun b => t.bands[b].state == .used && t.bands[b].tag == c

/-- The lock count of a chain rises or falls with the sessions bound to it (R52). -/
def lockChain (c : Fin 4) (s : State) : State := s.setChain c { s.chain c with lockCount := (s.chain c).lockCount + 1 }

/-- See `lockChain`. -/
def unlockChain (c : Fin 4) (s : State) : State := s.setChain c { s.chain c with lockCount := (s.chain c).lockCount - 1 }

/-! ### Current bands -/

/-- Rewrites the current band of every live or CLOSING session (R55, R56). -/
def updateBands (f : Session → Option (Fin 32)) (s : State) : State :=
  s.setSessions { s.sessions with
    records := mapIndexed (fun _ r => if r.state.accrues then { r with currentBand := f r } else r) s.sessions.records }

/-- The band step of one session at calendar minute `m` (R56). -/
def steppedBand (t : TariffStore) (m : Nat) (r : Session) : Option (Fin 32) :=
  match r.currentBand with
  | none => none
  | some b =>
    if t.bands[t.bands[b].next].start = m ∧ t.bands[b].next ≠ b then some t.bands[b].next else some b

/-- The search of SET_CALENDAR for one session (R55). -/
def searchedBand (t : TariffStore) (m : Nat) (r : Session) : Option (Fin 32) := coveringBand t r.chain m

/-- The minute of week after `m` (R54). -/
def nextMinute (m : Nat) : Nat := if m + 1 < Config.weekMinutes then m + 1 else 0

/-! ### WRITE_BAND and FREE_BAND (R48, R49) -/

/-- The data that name a chain's state, head and band count: the head is an optional field (R46; log 11). -/
def chainSummary (c : Chain) : List Byte :=
  byte (mask [c.head.isSome]) ++ byte c.state.code ++ byte ((c.head.map Fin.val).getD 0) ++ byte c.bandCount

/-- The chain after a band has been written into it (R48). -/
def chainAfterWrite (c : Chain) (b : Fin 32) (wasFree : Bool) : Chain :=
  { c with
    bandCount := if wasFree then c.bandCount + 1 else c.bandCount
    state := .opened
    head := if c.state = .empty then some b else c.head }

/-- Check 3 and 4 of R48 on the band's present use: none lets the write pass. -/
def bandRefusal (s : State) (b : Fin 32) (c : Fin 4) : Option ResultCode :=
  if (s.band b).state = .used then
    if (s.chain (s.band b).tag).state = .sealed then some .wrongState
    else if (s.band b).tag ≠ c then some .inUse else none
  else none

/-- WRITE_BAND (R48). -/
def requestWriteBand (band chain : Byte) (start chargeRate heatRate occupancyRate : BitVec 16)
    (cap : Option (BitVec 32)) (next : Byte) (s : State) : Reply :=
  match index? 32 band, index? 4 chain, index? 32 next, within? 0 10079 start.toNat,
      present? (fun w : BitVec 32 => within? 0 65535 w.toNat) cap with
  | some b, some c, some n, some m, some p =>
    if (s.chain c).state = .sealed then refuse s .wrongState
    else match bandRefusal s b c with
      | some code => refuse s code
      | none =>
        let after := chainAfterWrite (s.chain c) b ((s.band b).state = .free)
        accept ((s.setBand b ⟨.used, c, m, chargeRate.toNat, heatRate.toNat, occupancyRate.toNat, p, n⟩).setChain c after)
          (chainSummary after)
  | _, _, _, _, _ => refuse s .badValue

/-- The chain after one of its bands has been freed; `rest` are the bands still tagged with it, ascending (R49). -/
def chainAfterFree (c : Chain) (b : Fin 32) (rest : List (Fin 32)) : Chain :=
  if c.bandCount ≤ 1 then { c with bandCount := 0, state := .empty, head := none }
  else { c with bandCount := c.bandCount - 1, head := if c.head = some b then rest.head? else c.head }

/-- FREE_BAND (R49). A FREE band belongs to no chain, so its OK carries no data (log 13). -/
def requestFreeBand (band : Byte) (s : State) : Reply :=
  match index? 32 band with
  | none => refuse s .badValue
  | some b =>
    if (s.band b).state = .free then accept s []
    else if (s.chain (s.band b).tag).state = .sealed then refuse s .wrongState
    else
      let c := (s.band b).tag
      let freed := s.setBand b .free
      let after := chainAfterFree (s.chain c) b (taggedBands freed.tariff c)
      accept (freed.setChain c after) (chainSummary after)

/-! ### SEAL_CHAIN and UNSEAL_CHAIN (R50, R51) -/

/-- The failure kinds of a validation (R50). -/
inductive ChainFailure where
  | linkOut | loop | order
  deriving DecidableEq, Repr

/-- The code of a failure kind (section 11.1). -/
def ChainFailure.code : ChainFailure → Nat
  | .linkOut => 1
  | .loop => 2
  | .order => 3

/-- The steps of the validation from band `b`, `n` of them to go, `visited` the bands already reached, the head
among them: the failure kind and the band at which the failing step began, or none (R50). -/
def checkLinks (t : TariffStore) (c : Fin 4) (head : Fin 32) :
    Nat → List (Fin 32) → Fin 32 → Option (ChainFailure × Fin 32)
  | 0, _, _ => none
  | n + 1, visited, b =>
    let next := t.bands[b].next
    if t.bands[next].state ≠ .used ∨ t.bands[next].tag ≠ c then some (.linkOut, b)
    else if n = 0 then if next = head then none else some (.loop, b)
    else if next ∈ visited then some (.loop, b)
    else checkLinks t c head n (next :: visited) next

/-- A step that does not rise: the next band starts at or before this one (R50). -/
def isDescent (t : TariffStore) (b : Fin 32) : Bool := t.bands[t.bands[b].next].start ≤ t.bands[b].start

/-- The bands of the cycle at which a descent begins, in the order of the walk from the head (R50). -/
def descents (t : TariffStore) (c : Fin 4) : List (Fin 32) := (cycleBands t c).filter (isDescent t)

/-- The validation of a chain: the failure, or the head the sealed chain gets (R50). Of an ORDER failure the failing
step is the second descent of the walk (log 12). -/
def validateChain (t : TariffStore) (c : Fin 4) : (ChainFailure × Fin 32) ⊕ Fin 32 :=
  match t.chains[c].head with
  | none => .inl (.loop, 0)
  | some h =>
    match checkLinks t c h t.chains[c].bandCount [h] h with
    | some failure => .inl failure
    | none =>
      match descents t c with
      | [b] => .inr t.bands[b].next
      | _ :: b :: _ => .inl (.order, b)
      | [] => .inl (.order, h)

/-- SEAL_CHAIN (R50). -/
def requestSealChain (chain : Byte) (id : BitVec 32) (s : State) : Reply :=
  match index? 4 chain, within? 1 Config.countMax id.toNat with
  | some c, some v =>
    if (s.chain c).state ≠ .opened then refuse s .wrongState
    else match validateChain s.tariff c with
      | .inl (kind, b) => ⟨s, .badChain, byte kind.code ++ byte b.val⟩
      | .inr head =>
        accept (s.setChain c { s.chain c with state := .sealed, id := some v, head := some head, lockCount := 0 })
          (byte (mask [true, true]) ++ byte head.val ++ byte (s.chain c).bandCount ++ quad v)
  | _, _ => refuse s .badValue

/-- UNSEAL_CHAIN (R51). -/
def requestUnsealChain (chain : Byte) (id : BitVec 32) (s : State) : Reply :=
  match index? 4 chain, within? 1 Config.countMax id.toNat with
  | some c, some v =>
    if (s.chain c).state ≠ .sealed then refuse s .wrongState
    else if (s.chain c).id ≠ some v then refuse s .stale
    else if (s.chain c).lockCount ≠ 0 then refuse s .inUse
    else
      accept (s.setChain c { s.chain c with state := .opened, id := none })
        (byte (mask [(s.chain c).head.isSome]) ++ byte ChainState.opened.code ++ byte (((s.chain c).head.map Fin.val).getD 0))
  | _, _ => refuse s .badValue

/-! ### Lookups (R53, R59) -/

/-- LOOK_BAND (R53). -/
def requestLookBand (band : Byte) (s : State) : Reply :=
  match index? 32 band with
  | none => refuse s .badValue
  | some b =>
    let r := s.band b
    accept s (byte (mask [r.cap.isSome]) ++ byte b.val ++ byte r.state.code ++ byte r.tag.val ++ half r.start ++
      half r.chargeRate ++ half r.heatRate ++ half r.occupancyRate ++ quad (r.cap.getD 0) ++ byte r.next.val)

/-- The bands LOOK_CHAIN lists: in cycle order when SEALED, ascending when OPEN, none when EMPTY (R53). -/
def listedBands (t : TariffStore) (c : Fin 4) : List (Fin 32) :=
  match t.chains[c].state with
  | .sealed => cycleBands t c
  | .opened => taggedBands t c
  | .empty => []

/-- LOOK_CHAIN (R53). -/
def requestLookChain (chain : Byte) (s : State) : Reply :=
  match index? 4 chain with
  | none => refuse s .badValue
  | some c =>
    let r := s.chain c
    accept s (byte (mask [r.id.isSome, r.head.isSome]) ++ byte r.state.code ++ quad (r.id.getD 0) ++
      byte ((r.head.map Fin.val).getD 0) ++ byte r.bandCount ++ byte r.lockCount ++
      positions 32 1 ((listedBands s.tariff c).map fun b => byte b.val))

/-- The ms since the last minute event or SET_CALENDAR, 0 to 59,999, absent while the timer is stopped (R59). -/
def minuteElapsed (t : TariffStore) : Option Nat :=
  t.minuteTimer.map fun left => min ((Config.minutePeriod - left) / 1000) 59999

/-- LOOK_CALENDAR (R59). -/
def requestLookCalendar (s : State) : Reply :=
  accept s (byte (mask [s.tariff.calendar.isSome, (minuteElapsed s.tariff).isSome]) ++ half (s.tariff.calendar.getD 0) ++
    half ((minuteElapsed s.tariff).getD 0) ++ half s.tariff.lifetime)

/-! ### SET_CALENDAR and SET_LIFETIME (R55, R58) -/

/-- The calendar takes minute `m`, the minute timer is restarted, and the current band of each live or CLOSING
session is searched afresh (R55). -/
def setCalendar (m : Nat) (s : State) : State :=
  let t := { s.tariff with calendar := some m, minuteTimer := some Config.minutePeriod }
  updateBands (searchedBand t m) (s.setTariff t)

/-- SET_CALENDAR (R55). The current band of the live session is an optional field of the response (log 11). -/
def requestSetCalendar (minute : BitVec 16) (s : State) : Reply :=
  match within? 0 10079 minute.toNat with
  | none => refuse s .badValue
  | some m =>
    let after := setCalendar m s
    let band := (liveSlot after).bind fun i => (after.session i).currentBand
    accept after (byte (mask [band.isSome]) ++ half m ++ byte ((band.map Fin.val).getD 0))

/-- SET_LIFETIME (R58). -/
def requestSetLifetime (minutes : BitVec 16) (s : State) : Reply :=
  match within? 0 1440 minutes.toNat with
  | none => refuse s .badValue
  | some m => accept (s.setTariff { s.tariff with lifetime := m }) (half m)

end Sys2Proof.Machine
end

