-- ==== Sys2Proof/Machine/Planner.lean ====
section
/-! DEFINITION. Chapter 7 without the building of a plan: the budget, the withdrawals, the halt, the outputs, the
inlet derate, and LOOK_PLAN. -/

namespace Sys2Proof.Machine

/-! ### Entries of the plan -/

/-- A zone is in an entry's set of zones on (R108). -/
def PlanEntry.holds (z : Fin 6) (e : PlanEntry) : Bool := e.zones[z].isSome

/-- Adds a zone with its rated power to an entry (R114, R115). -/
def PlanEntry.add (z : Fin 6) (rated : Nat) (e : PlanEntry) : PlanEntry :=
  { e with zones := e.zones.set z (some rated), heaterPower := e.heaterPower + rated }

/-- Removes a zone from an entry and takes its rated power, as placed, from the heater power (R122, R123). -/
def PlanEntry.remove (z : Fin 6) (e : PlanEntry) : PlanEntry :=
  match e.zones[z] with
  | none => e
  | some rated => { e with zones := e.zones.set z none, heaterPower := e.heaterPower - rated }

/-- Removes zones, latest placed first, for as long as the heater power exceeds the new budget (R120, step 2). -/
def dropLatest (budget : Nat) : List (Fin 6) → PlanEntry → PlanEntry
  | [], e => e
  | z :: rest, e => dropLatest budget rest (if budget < e.heaterPower then e.remove z else e)

/-- Trims an entry to a new budget; an entry whose budget is at or below it is unchanged (R120). At a cut to 0 the steps
of R120 keep a zone rated 0 W in the entry, and leave an entry of budget 0 as it is, where its last paragraph says that
every zone is removed: that the steps decide is the model's choice (log 35). -/
def trimEntry (budget : Nat) (order : List (Fin 6)) (e : PlanEntry) : PlanEntry :=
  if e.budget ≤ budget then e
  else
    let kept := dropLatest budget order.reverse e
    { kept with budget := budget, command := min kept.command (budget - kept.heaterPower) }

/-! ### Withdrawals: the slots that have not begun (R119) -/

/-- Rewrites the entries of the slots that have not yet begun; nothing unless RUNNING (R119). -/
def mapNotBegun (f : PlanEntry → PlanEntry) (p : Planner) : Planner :=
  match p.state, p.slot with
  | .running, some now => { p with plan := mapIndexed (fun k e => if now < k then f e else e) p.plan }
  | _, _ => p

/-- Rewrites the entry of the running slot and of every slot not yet begun; nothing unless RUNNING (R123). -/
def mapFromRunning (f : PlanEntry → PlanEntry) (p : Planner) : Planner :=
  match p.state, p.slot with
  | .running, some now => { p with plan := mapIndexed (fun k e => if now ≤ k then f e else e) p.plan }
  | _, _ => p

/-- A budget cut to `budget`, in a GRID cycle (R120). -/
def Planner.cut (budget : Nat) (p : Planner) : Planner :=
  if p.source = some .grid then mapNotBegun (trimEntry budget p.order) p else p

/-- A charger withdrawal: the command becomes 0 in every slot not yet begun (R121). -/
def Planner.withdrawCharger (p : Planner) : Planner := mapNotBegun (fun e => { e with command := 0 }) p

/-- A zone withdrawal: the zone leaves every slot not yet begun (R122). -/
def Planner.withdrawZone (z : Fin 6) (p : Planner) : Planner := mapNotBegun (PlanEntry.remove z) p

/-- The immediate withdrawal of a zone that is excluded or under test: its line goes off at once and it leaves the
running slot, every later slot and the placement order (R123). -/
def Planner.withdrawAtOnce (z : Fin 6) (p : Planner) : Planner :=
  let q := mapFromRunning (PlanEntry.remove z) p
  { q with heaterLines := q.heaterLines.set z false, order := q.order.erase z }

/-- The entry of a slot, the empty one where no slot runs. -/
def Planner.entry (p : Planner) : Option (Fin 16) → PlanEntry
  | none => .empty
  | some k => p.plan[k]

/-- A zone is in the plan when the entry of the running slot or of a slot not yet begun holds it (R137). -/
def Planner.plans (z : Fin 6) (p : Planner) : Bool :=
  match p.state, p.slot with
  | .running, some now => (List.finRange 16).any fun k => decide (now ≤ k) && (p.plan[k]).holds z
  | _, _ => false

/-! ### Outputs (R117, R124) -/

/-- Puts the entry of slot `k` on the outputs as the slot begins (R117). -/
def Planner.startSlot (k : Fin 16) (p : Planner) : Planner :=
  { p with
    slot := some k
    heaterLines := Vector.ofFn fun z => (p.plan[k]).holds z
    lastCommand := (p.plan[k]).command
    messages := p.messages + 1 }

/-- The planner with its plan emptied and every output off, one charger command of 0 sent (R124, R127). -/
def Planner.allOff (st : PlannerState) (p : Planner) : Planner :=
  { Planner.powerOn with state := st, derate := p.derate, messages := p.messages + 1 }

/-- Every granted count 0 and every deferred flag clear (R124, R127). -/
def clearGrants (s : State) : State :=
  s.setHeating { s.heating with
    zones := mapIndexed (fun _ z => { z with granted := 0, deferred := false }) s.heating.zones }

/-- The Offer Monitor acts on the planner's instruction for the Request Line (R105). -/
def instructRequestLine (on : Bool) (s : State) : State :=
  let taken := on && (s.supply.state == .plugged || s.supply.state == .offering)
  s.setSupply { s.supply with requestLine := taken }

/-- The halt of an ISO_TRIP confirmation or of the entry to LOST; nothing while HALTED (R124). -/
def haltPlanner (s : State) : State :=
  if s.planner.state = .halted then s
  else instructRequestLine false (clearGrants (s.setPlanner (s.planner.allOff .halted)))

/-- The release from HALTED at one of its two hand-offs (R125). -/
def releasePlanner (s : State) : State :=
  if s.planner.state = .halted ∧ tripHeld s = false ∧ s.meter.state.isGood = true then
    s.setPlanner { s.planner with state := .idle }
  else s

/-! ### Budget (R112, R120) -/

/-- The derate applied to a budget (R112, step 3). -/
def Derate.apply : Derate → Nat → Nat
  | .full, p => p
  | .half, p => p / 2
  | .zero, _ => 0

/-- A budget lowered to a cap, where there is one (R112, step 2). -/
def capBudget (cap : Option Nat) (p : Nat) : Nat :=
  match cap with
  | none => p
  | some c => min p c

/-- The supply voltage word of the current frame, in 0.1 V (R78). -/
def supplyVoltage (s : State) : Nat := (s.meter.frame.map fun f => f.supplyVoltage.toNat).getD 0

/-- The GRID budget from the offered current (absent counting as 0.0 A), the supply voltage, a cap and the derate
(R112, steps 1 to 3; R120). -/
def gridBudget (cap : Option Nat) (s : State) : Nat :=
  s.planner.derate.apply (capBudget cap ((s.supply.offered.getD 0) * supplyVoltage s / 100))

/-- A budget cut to the budget of the moment, under the cycle cap of the boundary (R120). -/
def cutBudget (s : State) : State := s.setPlanner (s.planner.cut (gridBudget s.planner.cycleCap s))

/-- The Offer Monitor hands a changed offered current: a lower one, or the mark absent, cuts the budget (R103, R120). -/
def offeredChanged (before : Option Nat) (s : State) : State :=
  match before, s.supply.offered with
  | some v, some w => if w < v then cutBudget s else s
  | some _, none => cutBudget s
  | none, _ => s

/-- The live session has grid standing (R120). -/
def gridStanding (s : State) : Bool :=
  match liveSlot s with
  | none => false
  | some i =>
    let r := s.session i
    !r.reasons.offer && ((r.state == .complete && !r.reasons.credit) || r.reasons.onlyCold)

/-- The planner judges the standing after each change of the live session, and cuts the budget to 0 where it is
lost (R120). -/
def judgeStanding (s : State) : State := if gridStanding s then s else s.setPlanner (s.planner.cut 0)

/-- What the planner does with a change of the live session: the charger withdrawal if it has left ACTIVE, then the
judgement of its standing (R120, R121). -/
def plannerSessionChanged (leftActive : Bool) (s : State) : State :=
  judgeStanding (if leftActive then s.setPlanner s.planner.withdrawCharger else s)

/-- The immediate withdrawal of a zone, with its granted count (R123). -/
def withdrawZoneAtOnce (z : Fin 6) (s : State) : State :=
  (s.setPlanner (s.planner.withdrawAtOnce z)).setZone z { s.zone z with granted := 0 }

/-! ### Inlet derate (R118) -/

/-- The derate after a frame, from the one before and the inlet temperature in 0.5 °C steps (the table of R118). -/
def nextDerate (d : Derate) (inlet : Int) : Derate :=
  if inlet = Config.noReading then (if d = .zero then .zero else .half)
  else if inlet < 130 then .full
  else if inlet < 140 then (if d = .full then .full else .half)
  else if inlet < 160 then .half
  else if inlet < 170 then (if d = .zero then .zero else .half)
  else .zero

/-- The order of the derates by how much power they leave. -/
def Derate.rank : Derate → Nat
  | .full => 2
  | .half => 1
  | .zero => 0

/-- A change to a lower level is a step down (R118). -/
def isStepDown (before after : Derate) : Bool := after.rank < before.rank

/-! ### LOOK_PLAN (R126) -/

/-- LOOK_PLAN (R126). -/
def requestLookPlan (s : State) : Reply :=
  let p := s.planner
  accept s (byte (mask [p.slot.isSome, p.source.isSome, p.cycleCap.isSome]) ++ byte p.state.code ++
    byte ((p.slot.map Fin.val).getD 0) ++ byte ((p.source.map BudgetSource.code).getD 0) ++
    quad p.budget ++ quad p.heaterCap ++ quad (p.cycleCap.getD 0) ++ byte p.derate.code ++
    positions 6 1 (p.order.map fun z => byte z.val) ++ (p.plan.toList.map entryBytes).flatten ++
    quad p.lastCommand ++ byte (bit p.request))

end Sys2Proof.Machine
end

