-- ==== Sys2Proof/Machine/Heating.lean ====
section
/-! DEFINITION. Chapter 8 without its requests: temperatures, demand, the admission evaluation, exclusion and the
under-test mark. -/

namespace Sys2Proof.Machine

/-! ### Demand (R131) -/

/-- The live session holds COLD among its pause reasons (R131). -/
def liveCold (s : State) : Bool :=
  match liveSlot s with
  | none => false
  | some i => (s.session i).reasons.cold

/-- The effective target of a zone: its own target, or the preheat target when that is higher and COLD is held. -/
def effectiveTarget (cold : Bool) (preheat : Int) (z : Zone) : Int := if cold then max z.target preheat else z.target

/-- The demand of a zone in slots (R131). -/
def demandOf (cold : Bool) (preheat : Int) (z : Zone) : Nat :=
  match z.mode, z.temperature with
  | .auto, some t =>
    if z.excluded || z.underTest then 0 else min 16 (effectiveTarget cold preheat z - t).toNat
  | _, _ => 0

/-- A zone record with its demand recomputed (R131). -/
def Zone.recomputed (cold : Bool) (preheat : Int) (z : Zone) : Zone := { z with demand := demandOf cold preheat z }

/-- Recomputes the demand of one zone (R131). -/
def recomputeDemand (z : Fin 6) (s : State) : State :=
  s.setZone z ((s.zone z).recomputed (liveCold s) s.heating.preheat)

/-- Recomputes the demand of all six zones (R131). -/
def recomputeDemands (s : State) : State :=
  s.setHeating { s.heating with
    zones := mapIndexed (fun _ z => z.recomputed (liveCold s) s.heating.preheat) s.heating.zones }

/-! ### Temperatures (R130) -/

/-- A zone takes its word of an accepted frame (R130). -/
def takeTemperature (w : Word) (z : Zone) : Zone :=
  if w.toInt = Config.noReading then
    if z.streak < 15 then { z with streak := z.streak + 1 }
    else { z with streak := 16, temperature := none }
  else { z with streak := 0, temperature := some w.toInt }

/-- The Heat Controller takes an accepted frame: the six temperatures, then every demand (R130, R131). -/
def heatFrame (f : MeterFrame) (s : State) : State :=
  recomputeDemands (s.setHeating { s.heating with
    zones := mapIndexed (fun k z => takeTemperature f.zoneTemps[k] z) s.heating.zones })

/-! ### Admission (R132, R133) -/

/-- The coldest temperature and its zone so far, and the next zone: of equal ones the lower index stays (R132). -/
def colder (best : Option (Int × Fin 6)) (k : Fin 6) (z : Zone) : Option (Int × Fin 6) :=
  match z.excluded, z.temperature, best with
  | true, _, _ => best
  | false, none, _ => best
  | false, some t, none => some (t, k)
  | false, some t, some b => if t < b.1 then some (t, k) else best

/-- The coldest temperature among zones that are not excluded and have one, with its zone (R132, step 1). -/
def coldestZone (zones : Vector Zone 6) : Option (Int × Fin 6) :=
  (List.finRange 6).foldl (fun best k => colder best k zones[k]) none

/-- The power limit of the last entry whose threshold is at or below the coldest temperature; 0 below the first
threshold and with no temperature (R132, step 2). -/
def admissionFor (table : List AdmissionEntry) : Option Int → Nat
  | none => 0
  | some t => (((table.filter fun e => e.threshold ≤ t).getLast?).map AdmissionEntry.limit).getD 0

/-- The admission limit of this moment, not stored (R133). -/
def admissionNow (s : State) : Nat :=
  admissionFor s.heating.admission ((coldestZone s.heating.zones).map Prod.fst)

/-- Steps 1 to 3 of the admission evaluation, the values stored in the heating record (R132). -/
def storeAdmission (s : State) : State :=
  let c := coldestZone s.heating.zones
  s.setHeating { s.heating with
    admissionLimit := admissionNow s, coldest := c.map Prod.fst, coldestZone := c.map Prod.snd }

/-- The first threshold of the admission table (R129); the table always holds an entry. -/
def firstThreshold (h : HeatController) : Int := ((h.admission.head?).map AdmissionEntry.threshold).getD 0

/-! ### Exclusion and test (R123, R138, R139) -/

/-- A zone becomes excluded: demand 0, its votes 0, withdrawn at once; nothing if it already is (R139, R152). -/
def excludeZone (z : Fin 6) (s : State) : State :=
  if (s.zone z).excluded then s
  else
    let marked := s.setZone z { s.zone z with excluded := true, demand := 0 }
    let voted := marked.setIsolation { marked.isolation with votes := marked.isolation.votes.set z 0 }
    withdrawZoneAtOnce z voted

/-- The Localizer puts a zone under test: its demand is recomputed and it is withdrawn at once (R123, R138). -/
def putUnderTest (z : Fin 6) (s : State) : State :=
  withdrawZoneAtOnce z (recomputeDemand z (s.setZone z { s.zone z with underTest := true }))

/-- The under-test mark is cleared and the demand recomputed; the zone is an addition (R138). -/
def clearUnderTest (z : Fin 6) (s : State) : State :=
  recomputeDemand z (s.setZone z { s.zone z with underTest := false })

end Sys2Proof.Machine
end

