-- ==== Sys2Proof/Machine/FaultTable.lean ====
section
/-! DEFINITION. The Fault Table (R146 to R149), the pause reasons of the live session as the other blocks change
them (R9), and the isolation condition (R150). -/

namespace Sys2Proof.Machine

/-! ### Pause reasons (R9) -/

/-- A session record with a new set of pause reasons, the state following it at once (the table of R9). -/
def Session.withReasons (r : Session) (p : PauseReasons) : Session :=
  { r with
    reasons := p
    state := match r.state with
      | .active => if p.isEmpty then .active else .paused
      | .paused => if p.isEmpty then .active else .paused
      | st => st }

/-- The session of slot `i` was ACTIVE in `before` and is not in `after`. -/
def leftActive (i : Fin 8) (before after : State) : Bool :=
  (before.session i).state == .active && (after.session i).state != .active

/-- Changes the pause reasons of a live session and hands the change to the planner, not yet to the Localizer; a
change that leaves the set as it was changes nothing (R9, R120, R121). -/
def changeReasonsQuietly (i : Fin 8) (f : PauseReasons → PauseReasons) (s : State) : State :=
  let r := s.session i
  if r.state.isLive = false ∨ f r.reasons = r.reasons then s
  else
    let changed := s.setSession i (r.withReasons (f r.reasons))
    let left := leftActive i s changed
    plannerSessionChanged left (if left then post .sessionPaused changed else changed)

/-- `changeReasonsQuietly` on the live session, if one is live. -/
def changeLiveQuietly (f : PauseReasons → PauseReasons) (s : State) : State :=
  match liveSlot s with
  | none => s
  | some i => changeReasonsQuietly i f s

/-! ### Confirming and clearing (R147, R148) -/

/-- The next revision, wrapping from 255 to 0 (R146). -/
def nextRevision (v : Nat) : Nat := (v + 1) % 256

/-- A record as its raising cause finds it FREE or CLEARED (R147); an ACTIVE record is unchanged. -/
def FaultRecord.confirmed (minute reading : Option Nat) (f : FaultRecord) : FaultRecord :=
  match f.state with
  | .free => { f with
      state := .active, occurrences := 1, revision := nextRevision f.revision, firstMinute := minute,
      firstReading := reading, worstReading := reading }
  | .cleared => { f with
      state := .active, occurrences := min (f.occurrences + 1) 255, revision := nextRevision f.revision }
  | .active => f

/-- A raising cause reaches a record: it is confirmed and FAULT_ACTIVE posted, or nothing if it is ACTIVE (R147). -/
def confirmFault (k : Fin 12) (reading : Option Nat) (s : State) : State :=
  if (s.fault k).state = .active then s
  else post .faultActive (s.setFault k ((s.fault k).confirmed s.tariff.calendar reading))

/-- A clearing cause reaches a record: an ACTIVE one goes to CLEARED and FAULT_CLEARED is posted (R148). -/
def clearFault (k : Fin 12) (s : State) : State :=
  if (s.fault k).state = .active then
    post .faultCleared (s.setFault k { s.fault k with state := .cleared, revision := nextRevision (s.fault k).revision })
  else s

/-! ### The isolation condition and verdicts (R149, R150) -/

/-- Hands a change of the isolation condition to the Session Table (R14, R150). -/
def handIsolation (before : Bool) (s : State) : State :=
  if isolationCondition s = before then s
  else changeLiveQuietly (fun p => { p with isolation := isolationCondition s }) s

/-- A verdict written to a record: the revision rises, and a CHARGER verdict stands (R149). -/
def FaultRecord.withVerdict (v : Verdict) (f : FaultRecord) : FaultRecord :=
  { f with
    revision := nextRevision f.revision
    verdict := if f.verdict = some .charger then some .charger else some v }

/-- The Isolation Monitor takes a verdict write whole (R149). -/
def writeVerdict (rail : Rail) (v : Verdict) (s : State) : State :=
  handIsolation (isolationCondition s) (s.setFault (warnKey rail) ((s.fault (warnKey rail)).withVerdict v))

end Sys2Proof.Machine
end

