-- ==== Sys2Proof/Machine/Localization.lean ====
section
/-! DEFINITION. Chapter 10: starting a localization, its steps, the dwell, verdicts and aborts. -/

namespace Sys2Proof.Machine

/-- The suspect that a verdict of recovery names (R164). -/
def Suspect.verdict : Suspect → Verdict
  | .charger => .charger
  | .zone z => .zone z

/-- A suspect is energizable (the table of R162). -/
def energizable (s : State) : Suspect → Bool
  | .charger =>
    match liveSlot s with
    | none => false
    | some i => (s.session i).state == .active
  | .zone z =>
    ((s.zone z).mode == .auto || ((s.zone z).mode == .direct && (s.zone z).drive)) && !(s.zone z).excluded

/-- Releases the suspect under test: a zone's mark is cleared and its demand recomputed, the charger is released;
either is an addition (R164, R167). -/
def releaseSuspect (s : State) : State :=
  let freed := match s.localizer.suspect with
    | some (.zone z) => clearUnderTest z s
    | some .charger => s
    | none => s
  freed.setLocalizer { freed.localizer with suspect := none }

/-- The verdict's own effect (the table of R165). -/
def verdictEffect (v : Verdict) (s : State) : State :=
  match v with
  | .zone z => clearUnderTest z (excludeZone z s)
  | .charger => s
  | .packSide => s
  | .unresolved => releaseSuspect s

/-- The localizer record when a localization has ended with `v` (R165, steps 3 and 4). -/
def Localizer.ended (v : Verdict) (l : Localizer) : Localizer :=
  { l with
    state := .idle
    target := none
    suspect := none
    stack := []
    dwellCount := 0
    readings := []
    lastOutcome := match l.target with
      | some rail => some (rail, v)
      | none => l.lastOutcome }

/-- A localization ends with one verdict, in the order of R165. -/
def deliverVerdict (v : Verdict) (s : State) : State :=
  let written := match s.localizer.target with
    | some rail => writeVerdict rail v s
    | none => s
  let done := verdictEffect v written
  post .localizeDone (done.setLocalizer (done.localizer.ended v))

/-- The first step on a suspect: it is under test, the dwell starts afresh, and it is withdrawn (R162). -/
def beginStep (x : Suspect) (rest : List Suspect) (s : State) : State :=
  let begun := s.setLocalizer { s.localizer with
    state := .dwell, suspect := some x, stack := rest, dwellCount := 0, readings := []
    stepLength := s.isolation.settings.dwell }
  match x with
  | .zone z => putUnderTest z begun
  | .charger => begun.setPlanner begun.planner.withdrawCharger

/-- Takes suspects from the top until one is energizable; with none left the verdict is PACK_SIDE (R162). The list is
top first. -/
def takeSuspect : List Suspect → State → State
  | [], s => deliverVerdict .packSide (s.setLocalizer { s.localizer with stack := [] })
  | x :: below, s => if energizable s x then beginStep x below.reverse s else takeSuspect below s

/-- The next step of a localization (R162). -/
def nextStep (s : State) : State := takeSuspect s.localizer.stack.reverse s

/-- The stack of suspects, bottom first: the charger if any entry of the plan commands it, then the zones with a
granted count above 0, ascending (R161). -/
def suspectStack (s : State) : List Suspect :=
  (if (List.finRange 16).any fun k => 0 < (s.planner.plan[k]).command then [.charger] else []) ++
  ((List.finRange 6).filter fun z => 0 < (s.zone z).granted).map Suspect.zone

/-- A localization starts with the warning record of a rail as its target (R160). -/
def startLocalization (rail : Rail) (s : State) : State :=
  nextStep (s.setLocalizer { s.localizer with target := some rail, stack := suspectStack s })

/-- A confirmed warning reaches the Localizer: a localization starts if it is IDLE (R151, R160). -/
def warningConfirmed (rail : Rail) (s : State) : State :=
  if s.isolation.settings.autoLocalize = true ∧ s.localizer.state = .idle then startLocalization rail s else s

/-- The suspect under test is restored, or released as not tested, and the next step is made (R164, R167). -/
def advanceSuspect (s : State) : State := nextStep (releaseSuspect s)

/-- A dwell is aborted with the verdict UNRESOLVED; nothing while IDLE (R166). -/
def abortDwell (s : State) : State := if s.localizer.state = .dwell then deliverVerdict .unresolved s else s

/-- The Session Table reports that its live session has left ACTIVE: a charger step ends as not tested (R167). -/
def localizerSessionLeft (s : State) : State :=
  if s.localizer.state = .dwell ∧ s.localizer.suspect = some .charger then advanceSuspect s else s

/-- A zone has been set OFF or driven off, or its votes have excluded it: where it is the suspect under test, its step ends
as not tested (R167; log 36). -/
def localizerZoneOff (z : Fin 6) (s : State) : State :=
  if s.localizer.state = .dwell ∧ s.localizer.suspect = some (.zone z) then advanceSuspect s else s

/-- A reading that clears a level: four times the reading is at or above five times the level (R144, R164). -/
def clearsLevel (level reading : Nat) : Bool := 5 * level ≤ 4 * reading

/-- The evaluation of a step whose dwell is complete (R164). -/
def evaluateStep (s : State) : State :=
  match s.localizer.suspect with
  | none => s
  | some x =>
    if s.localizer.readings.all (clearsLevel (Config.referenceLevel s.isolation.settings.warning)) then
      deliverVerdict x.verdict s
    else advanceSuspect s

/-- The reading of a rail in a frame, in kΩ (R78, R159). -/
def MeterFrame.reading (f : MeterFrame) : Rail → Nat
  | .pos => f.insulationPos.toNat
  | .neg => f.insulationNeg.toNat

/-- Bit 0 of the status word: the insulation words are fresh (R78, R144). -/
def MeterFrame.insulationValid (f : MeterFrame) : Bool := f.status.getLsbD 0

/-- The localizer record after counting a reading of its target rail, the last four kept (R163). -/
def Localizer.counted (reading : Nat) (l : Localizer) : Localizer :=
  let longer := l.readings ++ [reading]
  { l with dwellCount := l.dwellCount + 1, readings := longer.drop (longer.length - 4) }

/-- The Localizer takes an accepted frame: a valid insulation frame counts toward the dwell (R163). -/
def localizerFrame (f : MeterFrame) (s : State) : State :=
  match s.localizer.state, s.localizer.target with
  | .dwell, some rail =>
    if f.insulationValid then
      let counted := s.setLocalizer (s.localizer.counted (f.reading rail))
      if counted.localizer.stepLength ≤ counted.localizer.dwellCount then evaluateStep counted else counted
    else s
  | _, _ => s

end Sys2Proof.Machine
end

