-- ==== Sys2Proof/Machine/Sessions.lean ====
section
/-! DEFINITION. Chapter 1 without its requests, and the parts of chapter 2 that a session's life calls: holds, going
live, completion, void, settlement and close. -/

namespace Sys2Proof.Machine

/-! ### Pause reasons, with the Localizer's hand-off -/

/-- What the other blocks do when the live session of slot `i` has changed: the planner, then the Localizer if it
has left ACTIVE (R2, R120, R121, R167). -/
def sessionChanged (left : Bool) (s : State) : State :=
  let planned := plannerSessionChanged left s
  if left then localizerSessionLeft planned else planned

/-- Changes the pause reasons of a live session, with every hand-off (R9). -/
def changeReasons (i : Fin 8) (f : PauseReasons → PauseReasons) (s : State) : State :=
  let changed := changeReasonsQuietly i f s
  if leftActive i s changed then localizerSessionLeft changed else changed

/-- `changeReasons` on the live session, if one is live. -/
def changeLive (f : PauseReasons → PauseReasons) (s : State) : State :=
  match liveSlot s with
  | none => s
  | some i => changeReasons i f s

/-! ### Holds (R38 to R42) -/

/-- The two holds a session may have (section 2.4). -/
inductive HoldRole where
  | charge | heat
  deriving DecidableEq, Repr

/-- The account a hold is kept against. -/
def Session.accountOf (r : Session) : HoldRole → Option (Fin 16)
  | .charge => some r.chargeAccount
  | .heat => r.heatAccount

/-- The amount of a hold, absent for the heat hold of a session without a heat account. -/
def Session.holdOf (r : Session) : HoldRole → Option Nat
  | .charge => some r.chargeHold
  | .heat => r.heatHold

/-- The cost a hold covers (R70). -/
def Session.coveredCost (r : Session) : HoldRole → Nat
  | .charge => if r.heatAccount.isSome then r.chargeCost else r.chargeCost + r.heatCost
  | .heat => r.heatCost

/-- A session record with a hold raised by a grant (R39). -/
def Session.raiseHold (r : Session) (role : HoldRole) (grant : Nat) : Session :=
  match role with
  | .charge => { r with chargeHold := r.chargeHold + grant }
  | .heat => { r with heatHold := r.heatHold.map (· + grant) }

/-- A hold of one step is taken from an account and its session count rises (R38). -/
def takeHold (a : Fin 16) (s : State) : State :=
  let r := s.account a
  s.setAccount a { r with held := r.held + r.holdStep, sessionCount := r.sessionCount + 1 }

/-- A hold is released at a void and the session count falls (R41). -/
def releaseHold (a : Fin 16) (hold : Nat) (s : State) : State :=
  let r := s.account a
  s.setAccount a { r with held := r.held - hold, sessionCount := r.sessionCount - 1 }

/-- An account is debited and a hold leaves its held amount; the session count stays (R42). -/
def settleAccount (a : Fin 16) (cost hold : Nat) (s : State) : State :=
  let r := s.account a
  s.setAccount a { r with balance := saturateMoney (r.balance - cost), held := r.held - hold }

/-- The settlement of a session that reaches CLOSED; both its holds then are 0 (R42). -/
def settle (i : Fin 8) (s : State) : State :=
  let r := s.session i
  let charged := settleAccount r.chargeAccount (r.coveredCost .charge) r.chargeHold s
  let heated := match r.heatAccount with
    | none => charged
    | some h => settleAccount h r.heatCost (r.heatHold.getD 0) charged
  heated.setSession i { heated.session i with chargeHold := 0, heatHold := r.heatHold.map fun _ => 0 }

/-! ### Top-up (R39) and its judgement (R11) -/

/-- The grant of a top-up (the table of R39, then the reduction to what held can still take). -/
def topUpGrant (a : Account) : Nat :=
  if a.state ≠ .opened then 0
  else
    let wanted := match available a with
      | none => a.holdStep
      | some v => if (a.holdStep : Int) ≤ v then a.holdStep else v.toNat
    min wanted (Config.moneyMax - a.held)

/-- Each of the session's holds is above the cost it covers (R11). -/
def Session.holdsAboveCosts (r : Session) : Bool :=
  decide (r.coveredCost .charge < r.chargeHold) &&
  match r.heatHold with
  | none => true
  | some h => decide (r.coveredCost .heat < h)

/-- The Session Table judges CREDIT from a top-up's answer, for a live session (R11). -/
def judgeCredit (i : Fin 8) (role : HoldRole) (grant : Nat) (s : State) : State :=
  let r := s.session i
  if r.state.isLive = false then s
  else if grant = 0 then
    if (r.holdOf role).getD 0 ≤ r.coveredCost role then
      changeReasons i (fun p => { p with credit := true }) (if r.reasons.credit then s else post .creditLow s)
    else s
  else if r.holdsAboveCosts then changeReasons i (fun p => { p with credit := false }) s
  else s

/-- A top-up of one hold of a session is asked and answered whole, and its answer judged (R11, R39). -/
def askTopUp (i : Fin 8) (role : HoldRole) (s : State) : State :=
  match (s.session i).accountOf role with
  | none => s
  | some a =>
    let grant := topUpGrant (s.account a)
    let granted := s.setAccount a { s.account a with held := (s.account a).held + grant }
    judgeCredit i role grant (granted.setSession i ((s.session i).raiseHold role grant))

/-- A hold of a session is below low-water: its unused part is below one quarter of its account's step (R40). -/
def belowLowWater (i : Fin 8) (role : HoldRole) (s : State) : Bool :=
  match (s.session i).accountOf role, (s.session i).holdOf role with
  | some a, some hold =>
    decide ((hold : Int) - ((s.session i).coveredCost role : Nat) < ((s.account a).holdStep / 4 : Nat))
  | _, _ => false

/-- One hold's part of the low-water check (R71). -/
def checkHold (i : Fin 8) (role : HoldRole) (s : State) : State :=
  if belowLowWater i role s then askTopUp i role s else s

/-- The low-water check after a cost increase: the charge hold, then the heat hold (R71). -/
def checkLowWater (i : Fin 8) (s : State) : State := checkHold i .heat (checkHold i .charge s)

/-- One session's part of the credit retry of account `a` (R33). -/
def retrySession (a : Fin 16) (s : State) (i : Fin 8) : State :=
  let asked (role : HoldRole) (t : State) : State :=
    if (t.session i).accountOf role = some a then checkHold i role t else t
  if (s.session i).state.isLive && (s.session i).reasons.credit then asked .heat (asked .charge s) else s

/-- The credit retry of an account, over the slots in ascending order (R33). -/
def creditRetry (a : Fin 16) (s : State) : State := (List.finRange 8).foldl (retrySession a) s

/-! ### Completion (R16) -/

/-- A session enters COMPLETE, its pause reasons kept, and the other blocks are told (R16). -/
def enterComplete (i : Fin 8) (s : State) : State :=
  let done := s.setSession i { s.session i with state := .complete }
  sessionChanged (leftActive i s done) done

/-! ### Going live (R8) -/

/-- The pause reasons of a session that goes live, from the conditions of the moment (the second table of R8). -/
def reasonsAtLive (s : State) : PauseReasons where
  host := false
  credit := false
  cold := admissionNow s == 0
  offer := s.supply.state == .plugged || s.supply.state == .faulted
  isolation := isolationCondition s
  meter := !s.meter.state.isGood

/-- A present energy target that the whole Wh of charge energy have reached (R8, R16, R17). -/
def Session.targetReached (r : Session) : Bool :=
  match r.energyTarget with
  | none => false
  | some t => decide (t ≤ r.chargeEnergy.wh)

/-- The state of a live session that is not held COMPLETE by a mark: by its target, then by its reasons (R8, R17). -/
def Session.judgedState (r : Session) : SessionState :=
  if r.targetReached then .complete else if r.reasons.isEmpty then .active else .paused

/-- The record of a session as it goes live (R8). -/
def Session.gone (s : State) (r : Session) : Session :=
  let live := { r with
    liveMinute := some (minuteNow s), queuedMinutes := none
    currentBand := coveringBand s.tariff r.chain (minuteNow s), reasons := reasonsAtLive s }
  { live with state := live.judgedState }

/-- The head of the authorization queue goes live; nothing with an empty queue (R8). -/
def goLive (s : State) : State :=
  match s.sessions.queue with
  | [] => s
  | i :: rest =>
    let dequeued := s.setSessions { s.sessions with queue := rest }
    post .sessionLive (dequeued.setSession i ((s.session i).gone s))

/-- The handover after a close: the head goes live if the supply is not UNPLUGGED (R24). -/
def handOver (s : State) : State := if s.supply.state = .unplugged then s else goLive s

/-! ### Void (R18) -/

/-- An AUTHORIZED session is voided (R18, R41). -/
def voidSession (i : Fin 8) (s : State) : State :=
  let r := s.session i
  let charged := releaseHold r.chargeAccount r.chargeHold s
  let heated := match r.heatAccount with
    | none => charged
    | some h => releaseHold h (r.heatHold.getD 0) charged
  let unlocked := unlockChain r.chain heated
  let gone := unlocked.setSessions { unlocked.sessions with queue := unlocked.sessions.queue.erase i }
  post .sessionVoid (gone.setSession i .free)

/-! ### Close (R22 to R24) -/

/-- A session reaches CLOSED: end minute, reasons emptied, band dropped, settled, its chain unlocked, SESSION_CLOSED
posted. A close reason that STOP recorded is kept (R22, R24). -/
def closeRecord (reason : CloseReason) (i : Fin 8) (s : State) : State :=
  let r := s.session i
  let closed := s.setSession i { r with
    state := .closed, reasons := .empty, currentBand := none, endMinute := some (minuteNow s)
    closeReason := some (r.closeReason.getD reason) }
  post .sessionClosed (unlockChain r.chain (settle i closed))

/-- A session reaches CLOSED, with the hand-offs to the planner and the Localizer where it was live (R24, R120). -/
def closeSession (reason : CloseReason) (i : Fin 8) (s : State) : State :=
  let closed := closeRecord reason i s
  if (s.session i).state.isLive then sessionChanged (leftActive i s closed) closed else closed

/-- A meter period event ends the CLOSING session, and the head of the queue takes over (R22, R24). Its close reason
is the one STOP recorded. -/
def endClosing (s : State) : State :=
  match closingSlot s with
  | none => s
  | some i => handOver (closeSession .stoppedControl i s)

/-- The unplug event closes the live session, or the CLOSING one with its own reason; no handover (R23). -/
def sessionsUnplugged (s : State) : State :=
  match accruingSlot s with
  | none => s
  | some i => closeSession .unplugged i s

/-- The lost timeout closes the live session with METER_LOST and hands over (R23). -/
def sessionsMeterLost (s : State) : State :=
  match liveSlot s with
  | none => s
  | some i => handOver (closeSession .meterLost i s)

/-- The reset closes live and CLOSING sessions without handover (R27). -/
def sessionsReset (s : State) : State :=
  match accruingSlot s with
  | none => s
  | some i => closeRecord .reset i s

/-! ### COLD at a cycle boundary (R12) -/

/-- The COLD judgement from the stored admission limit and coldest temperature (R12): 1.0 °C is two steps. -/
def judgeCold (s : State) : State :=
  if s.heating.admissionLimit = 0 then changeLive (fun p => { p with cold := true }) s
  else match s.heating.coldest with
    | none => s
    | some t => if firstThreshold s.heating + 2 ≤ t then changeLive (fun p => { p with cold := false }) s else s

/-- The admission evaluation of a cycle boundary, taken whole (R132). -/
def evaluateAdmission (s : State) : State := recomputeDemands (judgeCold (storeAdmission s))

/-! ### The supply and the link (R13, R15) -/

/-- A change of supply state among PLUGGED, OFFERING and FAULTED reaches the live session (R13, R102). -/
def sessionsSupply (s : State) : State :=
  changeLive (fun p => { p with offer := s.supply.state == .plugged || s.supply.state == .faulted }) s

/-- The METER reason at the entry to SYNCED (R15). -/
def sessionsSynced (s : State) : State := changeLive (fun p => { p with meter := false }) s

end Sys2Proof.Machine
end

