-- ==== Sys2Proof/Machine/Accrual.lean ====
section
/-! DEFINITION. Chapter 4: the powers of a meter period event, the energy fields and their carry, pricing,
occupancy and completion. -/

namespace Sys2Proof.Machine

/-- The powers of one event in mW: supply power and grid heat power (R62 to R64). -/
structure Powers where
  supply : Nat
  heat : Nat
  deriving DecidableEq, Repr

/-- A product of a voltage word and a signed current word, as a power in mW, zero when negative (R62). -/
def powerOf (voltage current : Word) : Nat := ((voltage.toNat : Int) * current.toInt).toNat

/-- The powers of a frame's words, the heater power counted only in a slot of a GRID cycle; `source` is the source
of the slot that was running when the event arrived (R62 to R64). -/
def powersOf (f : MeterFrame) (source : Option BudgetSource) : Powers :=
  let supply := powerOf f.supplyVoltage f.supplyCurrent
  let heater := if source = some .grid then powerOf f.packVoltage f.heaterCurrent else 0
  ⟨supply, min heater supply⟩

/-- The charge power (R64). -/
def Powers.charge (p : Powers) : Nat := p.supply - p.heat

/-- The whole Wh that an addition carries out of the remainder (R65). -/
def Energy.carry (e : Energy) (power : Nat) : Nat := (e.rem + power) / Config.framesPerWh

/-- An energy field after an addition and its carry (R65). -/
def Energy.plus (e : Energy) (power : Nat) : Energy :=
  ⟨e.wh + e.carry power, (e.rem + power) % Config.framesPerWh⟩

/-- The session record after the three additions of an accrued event, a held one counted (R65, R68). -/
def Session.accrued (p : Powers) (held : Bool) (r : Session) : Session :=
  { r with
    supplyEnergy := r.supplyEnergy.plus p.supply
    heatEnergy := r.heatEnergy.plus p.heat
    chargeEnergy := r.chargeEnergy.plus p.charge
    heldFrames := if held then min (r.heldFrames + 1) Config.countMax else r.heldFrames }

/-- The rate of one Wh in the session's current band (R57, R69). -/
def currentRate (role : HoldRole) (r : Session) (s : State) : Nat :=
  match r.currentBand, role with
  | none, _ => 0
  | some b, .charge => (s.band b).chargeRate
  | some b, .heat => (s.band b).heatRate

/-- A session record with a cost raised, saturating (R69). -/
def Session.addCost (r : Session) (role : HoldRole) (amount : Nat) : Session :=
  match role with
  | .charge => { r with chargeCost := min (r.chargeCost + amount) Config.moneyMax }
  | .heat => { r with heatCost := min (r.heatCost + amount) Config.moneyMax }

/-- Prices one carried Wh: one cost increase and its low-water check (R69, R71). -/
def priceOne (i : Fin 8) (role : HoldRole) (s : State) : State :=
  checkLowWater i (s.setSession i ((s.session i).addCost role (currentRate role (s.session i) s)))

/-- Prices `n` carried Wh one after another (R69). -/
def priceMany (i : Fin 8) (role : HoldRole) : Nat → State → State
  | 0, s => s
  | n + 1, s => priceMany i role n (priceOne i role s)

/-- Completion is judged after the pricing (R74). -/
def judgeCompletion (i : Fin 8) (s : State) : State :=
  let r := s.session i
  if (r.state = .active ∨ r.state = .paused) ∧ r.targetReached = true then enterComplete i s else s

/-- The addition would carry the supply energy past its range (R67). -/
def pastRange (p : Powers) (r : Session) : Bool := Config.countMax < (r.supplyEnergy.plus p.supply).wh

/-- Steps 3 and 4 for the accruing session: energies, charge carries priced, then heat carries (R65, R69). An event past
the range is not accrued, and no later one is: the energies stand for the rest of the session's life (R67), and the held
frames with them (log 37). -/
def accrueEnergy (i : Fin 8) (p : Powers) (held : Bool) (s : State) : State :=
  let r := s.session i
  if r.energyFrozen || pastRange p r then s.setSession i { r with energyFrozen := true }
  else
    priceMany i .heat (r.heatEnergy.carry p.heat)
      (priceMany i .charge (r.chargeEnergy.carry p.charge) (s.setSession i (r.accrued p held)))

/-- An accepted or held event is accrued to the accruing session, if there is one (R61, R74). -/
def accrue (held : Bool) (source : Option BudgetSource) (s : State) : State :=
  match accruingSlot s, s.meter.frame with
  | some i, some f => judgeCompletion i (accrueEnergy i (powersOf f source) held s)
  | _, _ => s

/-- Occupancy of a minute event: the COMPLETE live session pays the rate of `band`, the band that was current before
the band step (R57, R73). -/
def chargeOccupancy (i : Fin 8) (rate : Nat) (s : State) : State :=
  let r := s.session i
  checkLowWater i (s.setSession i { r.addCost .charge rate with
    occupancyMinutes := min (r.occupancyMinutes + 1) Config.countMax })

end Sys2Proof.Machine
end

