-- ==== Sys2Proof/Machine/Cycle.lean ====
section
/-! DEFINITION. Chapter 7, the building of a plan at a cycle boundary (R111 to R116) and the planner's part of a
meter period event (R109, R110, R118, R125). -/

namespace Sys2Proof.Machine

/-! ### Source, budget and heater cap (R112, R113) -/

/-- The session condition of a GRID source: COMPLETE without CREDIT, ACTIVE, or PAUSED with COLD alone (R112). -/
def drawsGrid (r : Session) : Bool :=
  match r.state with
  | .complete => !r.reasons.credit
  | .active => true
  | .paused => r.reasons.cold && r.reasons.onlyCold
  | .free => false
  | .authorized => false
  | .closing => false
  | .closed => false

/-- The budget source of the cycle that begins (R112). -/
def cycleSource (s : State) : BudgetSource :=
  match liveSlot s with
  | none => .pack
  | some i => if s.supply.state = .offering ∧ drawsGrid (s.session i) = true then .grid else .pack

/-- The power cap of the live session's current band, where there is one (R112, step 2). -/
def bandCap (s : State) : Option Nat :=
  match liveSlot s with
  | none => none
  | some i =>
    match (s.session i).currentBand with
    | none => none
    | some b => (s.band b).cap

/-- The live session is ACTIVE (R113, R116). -/
def liveActive (s : State) : Bool :=
  match liveSlot s with
  | none => false
  | some i => (s.session i).state == .active

/-- The cycle cap recorded at the boundary (R112). -/
def cycleCapOf (s : State) : Option Nat :=
  match cycleSource s with
  | .grid => bandCap s
  | .pack => none

/-- The cycle budget P (R112). -/
def cycleBudget (s : State) : Nat :=
  match cycleSource s with
  | .grid => gridBudget (bandCap s) s
  | .pack => s.heating.packBudget

/-- The heater cap (R113). -/
def heaterCapOf (s : State) : Nat :=
  if cycleSource s = .grid ∧ liveActive s = true then cycleBudget s * s.heating.share / 100 else cycleBudget s

/-! ### Placement (R114, R115) -/

/-- A plan as it is being built: its entries, the placement order, and each zone's granted count and deferred flag. -/
structure Draft where
  plan : Vector PlanEntry 16
  order : List (Fin 6)
  granted : Vector Nat 6
  deferred : Vector Bool 6

/-- The draft before any zone is placed: every slot's budget is P (R113). -/
def Draft.start (budget : Nat) : Draft where
  plan := Vector.replicate 16 { PlanEntry.empty with budget := budget }
  order := []
  granted := Vector.replicate 6 0
  deferred := Vector.replicate 6 false

/-- A zone is eligible for direct placement (R114). -/
def Zone.eligible (z : Zone) : Bool := z.mode == .direct && z.drive && !z.excluded && !z.underTest

/-- The heater power DIRECT placement has put into every slot so far (R114): that of slot 0. -/
def Draft.directPower (d : Draft) : Nat := (d.plan[(0 : Fin 16)]).heaterPower

/-- One zone's part of the direct placement (R114). -/
def placeDirect (cap : Nat) (zones : Vector Zone 6) (d : Draft) (z : Fin 6) : Draft :=
  if zones[z].eligible then
    if d.directPower + zones[z].rated ≤ cap then
      { d with
        plan := mapIndexed (fun _ e => e.add z zones[z].rated) d.plan
        order := d.order ++ [z], granted := d.granted.set z 16 }
    else { d with deferred := d.deferred.set z true }
  else d

/-- A slot that can take a zone: it does not hold it, and has room under the heater cap (R115). -/
def canTake (cap : Nat) (z : Fin 6) (rated : Nat) (e : PlanEntry) : Bool :=
  !e.holds z && decide (e.heaterPower + rated ≤ cap)

/-- The slot with the lowest heater power among those that can take the zone, the earliest of equal ones (R115). -/
def bestSlot (cap : Nat) (z : Fin 6) (rated : Nat) (plan : Vector PlanEntry 16) : Option (Fin 16) :=
  (List.finRange 16).foldl (fun best k =>
    if canTake cap z rated plan[k] then
      match best with
      | none => some k
      | some b => if (plan[k]).heaterPower < (plan[b]).heaterPower then some k else best
    else best) none

/-- Places a zone up to `n` times, one slot at a time; the plan and how many slots it got (R115). -/
def placeSlots (cap : Nat) (z : Fin 6) (rated : Nat) : Nat → Vector PlanEntry 16 → Vector PlanEntry 16 × Nat
  | 0, plan => (plan, 0)
  | n + 1, plan =>
    match bestSlot cap z rated plan with
    | none => (plan, 0)
    | some k =>
      let rest := placeSlots cap z rated n (plan.set k (plan[k].add z rated))
      (rest.1, rest.2 + 1)

/-- An AUTO zone takes part when its demand is above 0 (R115). -/
def Zone.takesPart (z : Zone) : Bool := z.mode == .auto && decide (0 < z.demand)

/-- Zone `a` comes before zone `b` in the AUTO placement: colder, or as cold with the lower index (R115). -/
def comesBefore (zones : Vector Zone 6) (a b : Fin 6) : Bool :=
  let ta := zones[a].temperature.getD 0
  let tb := zones[b].temperature.getD 0
  decide (ta < tb) || (ta == tb && decide (a < b))

/-- Puts a zone into a list that is in placement order. -/
def insertZone (zones : Vector Zone 6) (z : Fin 6) : List (Fin 6) → List (Fin 6)
  | [] => [z]
  | y :: rest => if comesBefore zones z y then z :: y :: rest else y :: insertZone zones z rest

/-- The zones that take part in AUTO placement, coldest first, equal temperatures in ascending index (R115). -/
def autoOrder (zones : Vector Zone 6) : List (Fin 6) :=
  ((List.finRange 6).filter fun z => zones[z].takesPart).foldr (insertZone zones) []

/-- One zone's part of the AUTO placement (R115). -/
def placeAuto (cap : Nat) (zones : Vector Zone 6) (d : Draft) (z : Fin 6) : Draft :=
  let placed := placeSlots cap z zones[z].rated zones[z].demand d.plan
  { d with
    plan := placed.1
    order := if 0 < placed.2 then d.order ++ [z] else d.order
    granted := d.granted.set z placed.2 }

/-- The heater part of the plan: DIRECT zones in ascending index, then AUTO zones (R114, R115). -/
def placeZones (budget cap : Nat) (zones : Vector Zone 6) : Draft :=
  (autoOrder zones).foldl (placeAuto cap zones)
    ((List.finRange 6).foldl (placeDirect cap zones) (Draft.start budget))

/-! ### Charger commands and the plan (R116) -/

/-- The charger command of a slot (R116). -/
def chargerCommand (s : State) (budget heaterPower : Nat) : Nat :=
  if cycleSource s = .grid ∧ liveActive s = true ∧ s.localizer.suspect ≠ some .charger then
    min (budget - heaterPower) s.heating.admissionLimit
  else 0

/-- A slot of the plan has heater power or a charger command above 0 (R116). -/
def drawsPower (plan : Vector PlanEntry 16) : Bool :=
  (List.finRange 16).any fun k => decide (0 < (plan[k]).heaterPower) || decide (0 < (plan[k]).command)

/-- The new plan's record, from the state that stands after the admission evaluation (R112 to R116). -/
def plannedCycle (s : State) : Planner :=
  let budget := cycleBudget s
  let draft := placeZones budget (heaterCapOf s) s.heating.zones
  let plan := mapIndexed (fun _ e => { e with command := chargerCommand s budget e.heaterPower }) draft.plan
  { s.planner with
    state := .running, source := some (cycleSource s), budget := budget, heaterCap := heaterCapOf s
    cycleCap := cycleCapOf s, order := draft.order, plan := plan
    request := cycleSource s == .grid && drawsPower plan }

/-- Every zone's granted count and deferred flag from the placement (R114, R115). -/
def grantZones (s : State) (h : HeatController) : HeatController :=
  let draft := placeZones (cycleBudget s) (heaterCapOf s) s.heating.zones
  { h with zones := mapIndexed (fun k z => { z with granted := draft.granted[k], deferred := draft.deferred[k] }) h.zones }

/-- The building of the plan from the state after the admission evaluation, and the instruction for the Request
Line (R111, R116). -/
def buildPlan (s : State) : State :=
  let planned := (s.setPlanner (plannedCycle s)).setHeating (grantZones s s.heating)
  instructRequestLine planned.planner.request planned

/-- A cycle boundary: the admission evaluation, the new plan, and slot 0 on the outputs (R110, R111, R117, R132). -/
def cycleBoundary (s : State) : State :=
  let built := buildPlan (evaluateAdmission s)
  built.setPlanner (built.planner.startSlot 0)

/-! ### The planner takes an event -/

/-- An accepted or held event ends the running slot: the next slot begins, or slot 15 ends and a cycle boundary
comes (R110). -/
def endSlot (s : State) : State :=
  match s.planner.slot with
  | none => s
  | some k => if h : k.val + 1 < 16 then s.setPlanner (s.planner.startSlot ⟨k.val + 1, h⟩) else cycleBoundary s

/-- The planner takes a held event (R109, R110). -/
def plannerHeld (s : State) : State :=
  match s.planner.state with
  | .running => endSlot s
  | .idle => s
  | .halted => s

/-- The running slot of a planner is slot 15, so the event that ends it is a cycle boundary (R110). -/
def atLastSlot (p : Planner) : Bool := p.slot == some 15

/-- The planner takes an accepted frame (R109, R110, R118, R125). `haltedBefore` says that it was HALTED when the
frame arrived, `entered` that the frame brought the entry to SYNCED: a planner HALTED on arrival starts no cycle at
this frame. -/
def plannerAccepted (f : MeterFrame) (haltedBefore entered : Bool) (s : State) : State :=
  let before := s.planner.derate
  let after := nextDerate before f.inlet.toInt
  let derated := s.setPlanner { s.planner with derate := after }
  match derated.planner.state with
  | .halted => if haltedBefore && entered then releasePlanner derated else derated
  | .idle =>
    if haltedBefore = false ∧ s.meter.state = .synced ∧ tripHeld s = false then cycleBoundary derated else derated
  | .running =>
    if atLastSlot s.planner then cycleBoundary derated
    else
      let begun := endSlot derated
      if isStepDown before after then cutBudget begun else begun

end Sys2Proof.Machine
end

