-- ==== Sys2Proof/Machine/Isolation.lean ====
section
/-! DEFINITION. Chapter 9: the rail comparators, trips and warnings, the heater mismatch votes (R143 to R153). -/

namespace Sys2Proof.Machine

/-! ### Comparators (R144, R145) -/

/-- The two comparators of a rail. -/
inductive CompareKind where
  | warning | trip
  deriving DecidableEq, Repr

/-- The comparator of a kind on a rail. -/
def IsolationMonitor.comparator (m : IsolationMonitor) : CompareKind → Rail → Comparator
  | .warning, .pos => m.warnPos
  | .trip, .pos => m.tripPos
  | .warning, .neg => m.warnNeg
  | .trip, .neg => m.tripNeg

/-- Writes a comparator. -/
def IsolationMonitor.setComparator (m : IsolationMonitor) (k : CompareKind) (r : Rail) (c : Comparator) : IsolationMonitor :=
  match k, r with
  | .warning, .pos => { m with warnPos := c }
  | .trip, .pos => { m with tripPos := c }
  | .warning, .neg => { m with warnNeg := c }
  | .trip, .neg => { m with tripNeg := c }

/-- The level of a comparator in kΩ (R143). -/
def IsolationSettings.level (t : IsolationSettings) : CompareKind → Nat
  | .warning => Config.referenceLevel t.warning
  | .trip => Config.referenceLevel t.trip

/-- A comparator counts a reading (the table of R144). -/
def Comparator.count (persistence level reading : Nat) (c : Comparator) : Comparator :=
  if reading < level then ⟨min (c.below + 1) persistence, 0⟩
  else if clearsLevel level reading then ⟨0, min (c.above + 1) persistence⟩
  else ⟨0, 0⟩

/-- The key that a comparator feeds (R145). -/
def feedKey : CompareKind → Rail → Fin 12
  | .warning, r => warnKey r
  | .trip, r => tripKey r

/-- A non-FREE ISO record takes a reading below its worst reading (R147). -/
def FaultRecord.followed (reading : Nat) (f : FaultRecord) : FaultRecord :=
  if f.nonFree then { f with worstReading := f.worstReading.map (min reading) } else f

/-- The hand-offs of a trip confirmation: the planner halts, the isolation condition goes to the Session Table, and
a dwell is aborted (R150, R166; log 8). `before` is the condition before the confirmation. -/
def tripConfirmed (before : Bool) (s : State) : State := abortDwell (handIsolation before (haltPlanner s))

/-- The hand-offs of a confirmation by a comparator (R150, R151). -/
def confirmedHandOff (k : CompareKind) (r : Rail) (before : Bool) (s : State) : State :=
  match k with
  | .warning => warningConfirmed r s
  | .trip => tripConfirmed before s

/-- What a comparator does to its record after counting (the table of R145). -/
def actOnRecord (k : CompareKind) (r : Rail) (reading : Nat) (s : State) : State :=
  let c := s.isolation.comparator k r
  let f := s.fault (feedKey k r)
  if f.state = .active then
    if s.isolation.settings.persistence ≤ c.above then clearFault (feedKey k r) s else s
  else if s.isolation.settings.persistence ≤ c.below then
    confirmedHandOff k r (isolationCondition s) (confirmFault (feedKey k r) (some reading) s)
  else s

/-- One comparator takes its rail's reading: it counts, its record follows the rail, and it acts (R144, R145,
R147). -/
def comparatorWork (k : CompareKind) (r : Rail) (reading : Nat) (s : State) : State :=
  let c := (s.isolation.comparator k r).count s.isolation.settings.persistence (s.isolation.settings.level k) reading
  let counted := s.setIsolation (s.isolation.setComparator k r c)
  actOnRecord k r reading
    (counted.setFault (feedKey k r) ((counted.fault (feedKey k r)).followed reading))

/-- One rail's comparators, the warning before the trip (R145). -/
def railWork (r : Rail) (reading : Nat) (s : State) : State :=
  comparatorWork .trip r reading (comparatorWork .warning r reading s)

/-! ### Heater mismatch (R152, R153) -/

/-- The expected heater bus current of an entry in 0.01 A, for a pack voltage word above 0 (R152, step 1). -/
def expectedCurrent (e : PlanEntry) (packVoltage : Nat) : Nat := e.heaterPower * 1000 / packVoltage

/-- Measured and expected current differ by more than a quarter of the expected one plus 1.0 A (R152, step 3). -/
def isMismatch (expected : Nat) (measured : Int) : Bool :=
  decide (((expected / 4 + 100 : Nat) : Int) < ((measured - (expected : Int)).natAbs : Int))

/-- The vote count of a zone after a judgement (the table of R152); an excluded zone gains none (log 25). -/
def voted (mismatch on excluded : Bool) (votes : Nat) : Nat :=
  if on then if mismatch then (if excluded then votes else min (votes + 1) 8) else 0 else votes

/-- The votes of the six zones are updated by the judgement of an ended slot (R152). -/
def countVotes (e : PlanEntry) (mismatch : Bool) (s : State) : State :=
  s.setIsolation { s.isolation with
    votes := mapIndexed (fun z v => voted mismatch (e.holds z) (s.zone z).excluded v) s.isolation.votes }

/-- A zone whose votes have reached 8 has its HEATER_ZONE record confirmed and is excluded (R153). Where the zone is the
suspect under test, because its step began at this frame and the entry judged is that of its arrival, it is energizable no
longer and its step ends as not tested (R162, R167; log 36). -/
def judgeVotes (s : State) (z : Fin 6) : State :=
  if s.isolation.votes[z] = 8 then
    let confirmed := confirmFault (heaterKey z) none s
    localizerZoneOff z (excludeZone z
      (confirmed.setIsolation { confirmed.isolation with votes := confirmed.isolation.votes.set z 0 }))
  else s

/-- The heater mismatch judgement of an accepted frame that ends a running slot, whose entry is `ended` as the frame
arrived; none where no slot was running (R152, R153). -/
def mismatchWork (f : MeterFrame) (ended : Option PlanEntry) (s : State) : State :=
  match ended with
  | none => s
  | some e =>
    if f.packVoltage.toNat = 0 then s
    else
      let mismatch := isMismatch (expectedCurrent e f.packVoltage.toNat) f.heaterCurrent.toInt
      (List.finRange 6).foldl judgeVotes (countVotes e mismatch s)

/-- The Isolation Monitor takes an accepted frame, in the order of R145. -/
def isolationFrame (f : MeterFrame) (ended : Option PlanEntry) (s : State) : State :=
  let railed := if f.insulationValid then railWork .neg (f.reading .neg) (railWork .pos (f.reading .pos) s) else s
  mismatchWork f ended railed

end Sys2Proof.Machine
end

