-- ==== Sys2Proof/Machine/Meter.lean ====
section
/-! DEFINITION. Chapter 5: framing and acceptance, the link states, meter period events and their takers, the
overdue and lost timers, LOOK_METER. -/

namespace Sys2Proof.Machine

/-! ### The frame (R78, R80) -/

/-- The sum of a frame's words modulo 65,536 (R78). -/
def wordSum (ws : List Word) : Word := ws.foldl (· + ·) 0

/-- The 15 words of a complete frame by their meaning, the check word left out (R78). -/
def frameOf : List Word → Option MeterFrame
  | [status, sv, sc, pv, hc, ip, im, t0, t1, t2, t3, t4, t5, inlet, _] =>
    some ⟨status, sv, sc, pv, hc, ip, im, #v[t0, t1, t2, t3, t4, t5], inlet⟩
  | _ => none

/-- A complete frame is accepted when its sum is 0 and the front-end fault bit is clear (R80). -/
def acceptedFrame (ws : List Word) : Option MeterFrame :=
  match frameOf ws with
  | none => none
  | some f => if wordSum ws = 0 ∧ f.status.getLsbD 1 = false then some f else none

/-! ### The slot an event ends, as it stood on arrival (R63, R152) -/

/-- What the blocks read of the planner as it was when the event arrived: the entry and source of the running slot,
whether the event is a cycle boundary, whether the planner was HALTED. -/
structure Arrival where
  ended : Option PlanEntry
  source : Option BudgetSource
  boundary : Bool
  halted : Bool

/-- The planner as an event finds it (R63). In IDLE the event may start a cycle, so it counts as a boundary. -/
def arrivalOf (p : Planner) : Arrival where
  ended := if p.state = .running then some (p.entry p.slot) else none
  source := if p.state = .running then p.source else none
  boundary := p.state == .idle || (p.state == .running && atLastSlot p)
  halted := p.state == .halted

/-- At a cycle boundary the planner comes last, because the plan is built from the state that the Session Table, the Heat
Controller and the Localizer leave (R111); that it follows the Isolation Monitor too is log 38. -/
def plannerLast (order : List Taker) : List Taker := order.filter (· != .planner) ++ [.planner]

/-- The five takers of an accepted event (R82), in the order they act in where no other is chosen: a frame that starts
a localization is not counted in its dwell, as in the worked example of section 10.7 (log 6). -/
def acceptedTakers : List Taker := [.accrual, .heat, .planner, .localizer, .isolation]

/-- The two takers of a held event (section 5.4). -/
def heldTakers : List Taker := [.accrual, .planner]

/-- One taker's part of an accepted event. -/
def takeAccepted (f : MeterFrame) (a : Arrival) (entered : Bool) (s : State) : Taker → State
  | .accrual => endClosing (accrue false a.source s)
  | .heat => heatFrame f s
  | .planner => plannerAccepted f a.halted entered s
  | .isolation => isolationFrame f a.ended s
  | .localizer => localizerFrame f s
  | .occupancy => s
  | .ageing => s

/-- One taker's part of a held event. -/
def takeHeld (a : Arrival) (s : State) : Taker → State
  | .accrual => endClosing (accrue true a.source s)
  | .planner => plannerHeld s
  | .heat => s
  | .isolation => s
  | .localizer => s
  | .occupancy => s
  | .ageing => s

/-- The order of the takers of an accepted event (log 6), the planner last at a boundary (R111; log 38). -/
def acceptedOrder (a : Arrival) (s : State) : List Taker :=
  let order := openOrder acceptedTakers s
  if a.boundary then plannerLast order else order

/-- The order of the takers of a held event (log 6), the planner last at a boundary (R111). -/
def heldOrder (a : Arrival) (s : State) : List Taker :=
  let order := openOrder heldTakers s
  if a.boundary then plannerLast order else order

/-! ### Link states (R83 to R87) -/

/-- The link state and counts after an accepted frame (the table of R85). -/
def linkAfterFrame (m : MeterLink) : LinkState × Nat :=
  match m.state with
  | .synced => (.synced, 0)
  | .holding => (.synced, 0)
  | .searching => (.recovering, 1)
  | .lost => (.recovering, 1)
  | .recovering => if m.goodCount < 2 then (.recovering, m.goodCount + 1) else (.synced, 0)

/-- The link record after an accepted frame: the new current frame, the timer restarted (R80, R83, R85). -/
def MeterLink.accepted (f : MeterFrame) (m : MeterLink) : MeterLink :=
  { m with
    state := (linkAfterFrame m).1, goodCount := (linkAfterFrame m).2, heldCount := 0
    frame := some f, frameAge := 0, overdue := Config.overdueAfterFrame }

/-- The frame brings an entry to SYNCED (R87). -/
def entersSynced (m : MeterLink) : Bool := m.state != .synced && (linkAfterFrame m).1 == .synced

/-- The hand-offs of an entry to SYNCED but the planner's, which it takes with the frame's event (R87, R125). -/
def enterSynced (s : State) : State :=
  clearFault meterLostKey (sessionsSynced (post .meterState (s.setMeter { s.meter with lost := none })))

/-- An accepted frame: the link record, the hand-offs of an entry to SYNCED, then the event, taken by the five
blocks (R80, R82, R85, R87; log 6, log 7). -/
def acceptFrame (f : MeterFrame) (s : State) : State :=
  let a := arrivalOf s.planner
  let entered := entersSynced s.meter
  let linked := s.setMeter (s.meter.accepted f)
  let ready := if entered then enterSynced linked else linked
  (acceptedOrder a s).foldl (takeAccepted f a entered) (dropChoice ready)

/-- A data word reaches the assembly (R79); the 15th completes the frame and has it judged (R80). -/
def takeDataWord (w : Word) (s : State) : State :=
  match s.meter.assembly with
  | none => s
  | some ws =>
    if ws.length < 14 then s.setMeter { s.meter with assembly := some (ws ++ [w]) }
    else
      let ended := s.setMeter { s.meter with assembly := none }
      match acceptedFrame (ws ++ [w]) with
      | none => ended
      | some f => acceptFrame f ended

/-- A frame sync starts a new assembly with no words (R79). -/
def takeFrameSync (s : State) : State := s.setMeter { s.meter with assembly := some [] }

/-! ### Overdue expiries (R83, R84, R86) -/

/-- A held event (R84). -/
def heldEvent (s : State) : State :=
  let a := arrivalOf s.planner
  (heldOrder a s).foldl (takeHeld a) (dropChoice s)

/-- A lost event ends the CLOSING session and nothing else (R22, R82). -/
def lostEvent (s : State) : State := endClosing s

/-- The METER reason at the entry to LOST; the Localizer's part is the abort that follows (R15, R86; log 8). -/
def sessionsLost (s : State) : State := changeLiveQuietly (fun p => { p with meter := true }) s

/-- The entry to LOST and its hand-offs (R86). -/
def enterLost (s : State) : State :=
  let lost := s.setMeter { s.meter with state := .lost, heldCount := 5, lost := some Config.lostPeriod }
  abortDwell (confirmFault meterLostKey none (sessionsLost (haltPlanner (post .meterState lost))))

/-- The overdue timer rearmed at its expiry (R83). -/
def rearmOverdue (s : State) : State := s.setMeter { s.meter with overdue := Config.overdueAfterExpiry }

/-- An overdue expiry (the table of R83). -/
def takeOverdue (s : State) : State :=
  let r := rearmOverdue s
  match r.meter.state with
  | .synced => heldEvent (r.setMeter { r.meter with state := .holding, heldCount := 1 })
  | .holding =>
    if r.meter.heldCount < 4 then heldEvent (r.setMeter { r.meter with heldCount := r.meter.heldCount + 1 })
    else lostEvent (enterLost r)
  | .lost => lostEvent r
  | .searching => lostEvent r
  | .recovering => lostEvent (r.setMeter { r.meter with goodCount := 0 })

/-- The expiry of the lost timer; nothing while it is stopped (R88). -/
def takeLostExpiry (s : State) : State :=
  match s.meter.lost with
  | none => s
  | some _ => sessionsMeterLost (s.setMeter { s.meter with lost := none })

/-! ### LOOK_METER (R90) -/

/-- LOOK_METER (R90). -/
def requestLookMeter (s : State) : Reply :=
  let m := s.meter
  let age := m.frame.map fun _ => min (m.frameAge / 1000) 65535
  accept s (byte (mask [m.frame.isSome, age.isSome, m.lost.isSome]) ++ byte m.state.code ++ byte m.heldCount ++
    byte m.goodCount ++ frameBytes m.frame ++ half ((age.getD 0 : Nat)) ++ half (((m.lost.map fun us => us / 1000).getD 0 : Nat)))

end Sys2Proof.Machine
end

