-- ==== Sys2Proof/Machine/Supply.lean ====
section
/-! DEFINITION. Chapter 6: capture of a period, the offered current, the level class, the supply state and its
hand-offs, LOOK_SUPPLY. Voltages are in 0.1 V. -/

namespace Sys2Proof.Machine

/-! ### Judging a period (R95, R97) -/

/-- The duty of a period in per-mille (R95). -/
def dutyOf (length high : Nat) : Nat := high * 1000 / length

/-- Whether a period carries an offer, and of how much (R95). -/
def judgePeriod (length high : Nat) : Judgement :=
  if length < 900 ∨ 1100 < length then .invalid
  else if dutyOf length high < 100 ∨ 900 < dutyOf length high then .noOffer
  else .offer (dutyOf length high - 100)

/-- The class of a high plateau or a steady level (R97). -/
def classOfLevel (level : Int) : LevelClass :=
  if 100 ≤ level then .opened
  else if 75 ≤ level then .connected
  else if 45 ≤ level then .requesting
  else .fault

/-- The class of a complete period (R97). -/
def classOfPeriod (low high : Int) : LevelClass := if -80 < low then .fault else classOfLevel high

/-! ### Adopting an offer (R96) -/

/-- The values of a run differ by more than 1.0 A, from the highest to the lowest (R96). -/
def spreadTooWide (run : List Nat) : Bool := run.any fun a => run.any fun b => decide (b + 10 < a)

/-- Removes values from the head of the run while it is too long or too wide (R96, step 3). -/
def trimRun : List Nat → List Nat
  | [] => []
  | v :: rest => if 3 < (v :: rest).length ∨ spreadTooWide (v :: rest) = true then trimRun rest else v :: rest

/-- The offer adoption of a period or overflow (R96). -/
def OfferMonitor.adoptOffer (offer : Option Nat) (m : OfferMonitor) : OfferMonitor :=
  match offer with
  | some v =>
    let run := trimRun (m.run ++ [v])
    { m with noOffer := 0, run := run, offered := if run.length = 3 then some v else m.offered }
  | none =>
    let count := min (m.noOffer + 1) 3
    { m with run := [], noOffer := count, offered := if count = 3 then none else m.offered }

/-! ### Adopting a class (R98) and the supply state (R99) -/

/-- The class adoption of a period or overflow (R98). -/
def OfferMonitor.adoptClass (cls : LevelClass) (m : OfferMonitor) : OfferMonitor :=
  if cls = m.level then { m with candidate := none, classCount := 0 }
  else if m.candidate = some cls then
    if 4 ≤ m.classCount + 1 then { m with level := cls, candidate := none, classCount := 0 }
    else { m with classCount := m.classCount + 1 }
  else { m with candidate := some cls, classCount := 1 }

/-- The supply state of a level class and an offered current (R99). -/
def supplyOf (level : LevelClass) (offered : Option Nat) : SupplyState :=
  match level, offered with
  | .opened, _ => .unplugged
  | .fault, _ => .faulted
  | .connected, none => .plugged
  | .requesting, none => .plugged
  | .connected, some _ => .offering
  | .requesting, some _ => .offering

/-- What the monitor does to its own record at a change of supply state: at the unplug event the line, the offer, the
run and the no-offer count, at the entry to FAULTED the line (R101, R105). -/
def OfferMonitor.settled (before : SupplyState) (m : OfferMonitor) : OfferMonitor :=
  if before ≠ .unplugged ∧ m.state = .unplugged then
    { m with requestLine := false, offered := none, run := [], noOffer := 0 }
  else if before ≠ .faulted ∧ m.state = .faulted then { m with requestLine := false }
  else m

/-- The monitor's record after a period or overflow: both adoptions, then the supply state (R96, R98, R99). -/
def OfferMonitor.taken (offer : Option Nat) (cls : LevelClass) (last : LastPeriod) (m : OfferMonitor) : OfferMonitor :=
  let adopted := ({ m with last := some last }.adoptOffer offer).adoptClass cls
  { adopted with state := supplyOf adopted.level adopted.offered }.settled m.state

/-! ### Hand-offs (R100 to R104) -/

/-- The hand-off to the Session Table: plug event, unplug event or a change of OFFER (R100 to R102). -/
def handSupplyToSessions (before : SupplyState) (s : State) : State :=
  if before = s.supply.state then s
  else if before = .unplugged then goLive s
  else if s.supply.state = .unplugged then sessionsUnplugged s
  else sessionsSupply s

/-- The hand-off to the Isolation Monitor: the entry to FAULTED and the exit from it (R104). -/
def handSupplyToFaults (before : SupplyState) (s : State) : State :=
  if before = s.supply.state then s
  else if s.supply.state = .faulted then confirmFault offerFaultKey none s
  else if before = .faulted then clearFault offerFaultKey s
  else s

/-- PLUG is posted at the plug and unplug events (R100, R101). -/
def postPlug (before : SupplyState) (s : State) : State :=
  if before ≠ s.supply.state ∧ (before = .unplugged ∨ s.supply.state = .unplugged) then post .plug s else s

/-- A period or overflow is taken: the record, then the hand-offs of the changes it made (R99 to R104). -/
def takePeriod (offer : Option Nat) (cls : LevelClass) (last : LastPeriod) (s : State) : State :=
  let before := s.supply
  let taken := s.setSupply (s.supply.taken offer cls last)
  let told := offeredChanged before.offered (handSupplyToSessions before.state taken)
  postPlug before.state (handSupplyToFaults before.state told)

/-! ### Capture (R93, R94) -/

/-- Every edge and every overflow restarts the overflow timer (R93, R94). -/
def restartOverflow (s : State) : State := s.setSupply { s.supply with overflow := Config.overflowPeriod }

/-- Sets the capture field. -/
def setCapture (c : Capture) (s : State) : State := s.setSupply { s.supply with capture := c }

/-- The offer a judgement carries. -/
def Judgement.offered : Judgement → Option Nat
  | .offer v => some v
  | .noOffer => none
  | .invalid => none

/-- A complete period is judged and taken (R95, R97). -/
def completePeriod (length high : Nat) (highPlateau lowPlateau : Word) (s : State) : State :=
  let j := judgePeriod length high
  let cls := classOfPeriod lowPlateau.toInt highPlateau.toInt
  takePeriod j.offered cls (.period length high (dutyOf length high) j cls) s

/-- A rising edge (R93). One that comes before its period's falling edge cannot be formed; it starts a period and
judges none (log 17). -/
def takeRisingEdge (lowPlateau : Word) (s : State) : State :=
  let next := setCapture (.timing 0 none) (restartOverflow s)
  match s.supply.capture with
  | .waiting => next
  | .timing _ none => next
  | .timing length (some (high, plateau)) => completePeriod length high plateau lowPlateau next

/-- A falling edge (R93). -/
def takeFallingEdge (highPlateau : Word) (s : State) : State :=
  match s.supply.capture with
  | .waiting => restartOverflow s
  | .timing length _ => setCapture (.timing length (some (length, highPlateau))) (restartOverflow s)

/-- A capture overflow: the period is abandoned and the line judged by its steady level (R94). -/
def takeOverflow (steadyLevel : Word) (s : State) : State :=
  let cls := classOfLevel steadyLevel.toInt
  takePeriod none cls (.overflow steadyLevel cls) (setCapture .waiting (restartOverflow s))

/-! ### LOOK_SUPPLY (R106) -/

/-- LOOK_SUPPLY (R106; the layout is log 11). -/
def requestLookSupply (s : State) : Reply :=
  let m := s.supply
  accept s (byte (mask [m.offered.isSome, m.candidate.isSome, m.last.isSome]) ++ byte m.state.code ++ byte m.level.code ++
    half ((m.offered.getD 0 : Nat)) ++ byte (bit m.requestLine) ++ byte ((m.candidate.map LevelClass.code).getD 0) ++
    byte m.classCount ++ positions 3 2 (m.run.map fun v => half v) ++ byte m.noOffer ++ lastPeriodBytes m.last)

end Sys2Proof.Machine
end

