-- ==== Sys2Proof/Machine/Minute.lean ====
section
/-! DEFINITION. The minute event (R20, R54, R56, R73). -/

namespace Sys2Proof.Machine

/-- An AUTHORIZED session's queued minutes rise by one, to at most 1,440 (R20). -/
def Session.aged (r : Session) : Session :=
  if r.state = .authorized then { r with queuedMinutes := r.queuedMinutes.map fun q => min (q + 1) 1440 } else r

/-- An AUTHORIZED session's queued minutes have reached a lifetime other than 0 (R20). -/
def Session.expired (lifetime : Nat) (r : Session) : Bool :=
  r.state == .authorized && lifetime != 0 && decide (lifetime ≤ r.queuedMinutes.getD 0)

/-- Voids the session of a slot if its lifetime has run out (R20). -/
def voidIfExpired (s : State) (i : Fin 8) : State :=
  if (s.session i).expired s.tariff.lifetime then voidSession i s else s

/-- The ageing of the AUTHORIZED sessions and the voids of those whose lifetime has run out (R20). -/
def ageSessions (s : State) : State :=
  let aged := s.setSessions { s.sessions with records := mapIndexed (fun _ r => r.aged) s.sessions.records }
  (List.finRange 8).foldl voidIfExpired aged

/-- The occupancy rate of a session's current band, read before the band step (R57, R73). -/
def occupancyRate (r : Session) (s : State) : Nat :=
  match r.currentBand with
  | none => 0
  | some b => (s.band b).occupancyRate

/-- The COMPLETE live session and the occupancy rate it pays at this minute event (R73). -/
def occupancyDue (s : State) : Option (Fin 8 × Nat) :=
  match liveSlot s with
  | none => none
  | some i => if (s.session i).state = .complete then some (i, occupancyRate (s.session i) s) else none

/-- The occupancy charge of a minute event (R73). -/
def payOccupancy (due : Option (Fin 8 × Nat)) (s : State) : State :=
  match due with
  | none => s
  | some (i, rate) => chargeOccupancy i rate s

/-- The two takers of a minute event whose order is open (R54; log 6). -/
def minuteTakers : List Taker := [.ageing, .occupancy]

/-- One taker's part of a minute event. -/
def takeMinutePart (due : Option (Fin 8 × Nat)) (s : State) : Taker → State
  | .ageing => ageSessions s
  | .occupancy => payOccupancy due s
  | .accrual => s
  | .heat => s
  | .planner => s
  | .isolation => s
  | .localizer => s

/-- The calendar advances, the minute timer starts its next period, and the bands step (R54, R56). -/
def advanceCalendar (m : Nat) (s : State) : State :=
  let t := { s.tariff with calendar := some (nextMinute m), minuteTimer := some Config.minutePeriod }
  updateBands (steppedBand t (nextMinute m)) (s.setTariff t)

/-- A minute event; nothing while the calendar is UNSET, when the timer is stopped (R54). -/
def takeMinute (s : State) : State :=
  match s.tariff.calendar with
  | none => s
  | some m =>
    (openOrder minuteTakers s).foldl (takeMinutePart (occupancyDue s)) (dropChoice (advanceCalendar m s))

end Sys2Proof.Machine
end

