-- ==== Sys2Proof/Machine/Reset.lean ====
section
/-! DEFINITION. The two resets, block by block (R27, R44, R60, R91, R107, R127, R142, R158, R169, R179, R180). -/

namespace Sys2Proof.Machine

/-- Both pending sets are cleared, the masks kept (R179). -/
def resetAttention (s : State) : State := s.setAttention { s.attention with pendingCp := 0, pendingBp := 0 }

/-- The link record returns to its power-on values (R91). -/
def resetMeter (s : State) : State := s.setMeter State.reset.meter

/-- Comparator and vote counts go to 0; records and settings are kept (R158). -/
def resetIsolation (s : State) : State :=
  s.setIsolation { IsolationMonitor.powerOn with settings := s.isolation.settings, faults := s.isolation.faults }

/-- The Offer Monitor returns to its power-on values; an exit from FAULTED is handed to the Isolation Monitor
(R107). -/
def resetSupply (s : State) : State :=
  let fresh := s.setSupply State.reset.supply
  if s.supply.state = .faulted then clearFault offerFaultKey fresh else fresh

/-- A zone record at warm reset (R142). -/
def Zone.warm (z : Zone) : Zone :=
  { Zone.powerOn with
    mode := if z.mode = .direct then .off else z.mode
    target := z.target, rated := z.rated, excluded := z.excluded }

/-- The Heat Controller keeps what the host configured (R142). -/
def resetHeating (s : State) : State :=
  s.setHeating { s.heating with
    zones := mapIndexed (fun _ z => z.warm) s.heating.zones
    admissionLimit := 0, coldest := none, coldestZone := none }

/-- The planner's record takes its reset values, outputs off, one charger command of 0 sent (R127). -/
def resetPlanner (s : State) : State :=
  s.setPlanner { Planner.powerOn with messages := s.planner.messages + 1 }

/-- The ports at warm reset (R179). A response that was being transmitted is cut short. -/
def resetPorts (s : State) : State :=
  let c := s.setControl { s.control with buffer := none, overrun := false }
  c.setBilling ⟨none, false, [], none, false⟩

/-- The warm reset: the Attention Unit first, then the blocks, the Offer Monitor after the Isolation Monitor (R107,
R179; log 29). -/
def warmReset (s : State) : State :=
  let sessions := sessionsReset (abortDwell (resetAttention s))
  let measured := resetSupply (resetIsolation (resetMeter sessions))
  resetPorts (resetPlanner (resetHeating measured))

/-- Power-on: every block takes its power-on values and the ports begin their start. The queue and the model's own
fields are not part of the VQ40 (R180). -/
def powerOnState (s : State) : State :=
  { State.reset with choices := s.choices, freeCount := s.freeCount, pending := s.pending }

/-- The ports' start completes; taken once after power-on (R180; log 18). -/
def completeStart (s : State) : State :=
  if s.portsStarted then s
  else
    let a := (s.setAttention ⟨0, 0, 0, 0⟩).setControl { s.control with buffer := none, overrun := false }
    (a.setBilling ⟨none, false, [], none, false⟩).setStarted true

end Sys2Proof.Machine
end

