-- ==== Sys2Proof/Machine/SessionRequests.lean ====
section
/-! DEFINITION. The session requests (R5 to R7, R10, R16, R17, R19, R21, R25, R26). -/

namespace Sys2Proof.Machine

/-! ### Naming a session (R5) -/

/-- The session a request names by slot and serial: the slot, or the refusal (R5). -/
def nameSession (slot : Byte) (serial : BitVec 16) (s : State) : Except ResultCode (Fin 8) :=
  match index? 8 slot with
  | none => .error .badValue
  | some i =>
    if serial = 0 then .error .badValue
    else if (s.session i).state = .free ∨ (s.session i).serial ≠ serial.toNat then .error .stale
    else .ok i

/-- A request that names a session: refused as R5 gives, or taken by its own rule. -/
def onSession (slot : Byte) (serial : BitVec 16) (s : State) (rule : Fin 8 → Reply) : Reply :=
  match nameSession slot serial s with
  | .error code => refuse s code
  | .ok i => rule i

/-! ### AUTHORIZE (R6, R7) -/

/-- The fields of an AUTHORIZE in range. -/
structure Authorization where
  charge : Fin 16
  heat : Option (Fin 16)
  chain : Fin 4
  target : Option Nat
  deriving DecidableEq, Repr

/-- The field checks of R6: none is BAD_VALUE. -/
def authorization? (charge : Byte) (heat : Option Byte) (chain : Byte) (target : Option (BitVec 32)) :
    Option Authorization :=
  match index? 16 charge, present? (index? 16) heat, index? 4 chain,
      present? (fun w : BitVec 32 => within? 1 1000000 w.toNat) target with
  | some c, some h, some k, some t => if h = some c then none else some ⟨c, h, k, t⟩
  | _, _, _, _ => none

/-- The refusal of an account that is not OPEN (R6, check 3). -/
def accountRefusal (a : Account) : Option ResultCode :=
  match a.state with
  | .opened => none
  | .free => some .wrongState
  | .blocked => some .blocked

/-- The refusal of the heat account, if one is named (R6, check 3). -/
def heatRefusal (s : State) : Option (Fin 16) → Option ResultCode
  | none => none
  | some h => accountRefusal (s.account h)

/-- The lowest FREE slot (R7). -/
def freeSlot (s : State) : Option (Fin 8) := (List.finRange 8).find? fun i => (s.session i).state == .free

/-- An account can give one hold step (R6, check 5; R38). -/
def canHold (a : Account) : Bool := covers a a.holdStep

/-- Both initial holds can be taken (R6, check 5). -/
def holdsAvailable (s : State) (z : Authorization) : Bool :=
  canHold (s.account z.charge) &&
  match z.heat with
  | none => true
  | some h => canHold (s.account h)

/-- The checks of R6 in their order, after the fields: a refusal, or the slot to fill. -/
def authorizeChecks (z : Authorization) (s : State) : Except ResultCode (Fin 8) :=
  if s.tariff.calendar = none then .error .unset
  else if (s.chain z.chain).state ≠ .sealed then .error .wrongState
  else match accountRefusal (s.account z.charge) with
    | some code => .error code
    | none => match heatRefusal s z.heat with
      | some code => .error code
      | none => match freeSlot s with
        | none => .error .tableFull
        | some i => if holdsAvailable s z then .ok i else .error .noFunds

/-- The serial after `n` (R3). -/
def nextSerial (n : Nat) : Nat := if n < 65535 then n + 1 else 1

/-- The new record (R7). -/
def authorizedRecord (z : Authorization) (s : State) : Session :=
  { Session.free with
    serial := s.sessions.nextSerial, state := .authorized, chargeAccount := z.charge, heatAccount := z.heat
    chain := z.chain, energyTarget := z.target, authorizedMinute := minuteNow s, queuedMinutes := some 0
    chargeHold := (s.account z.charge).holdStep, heatHold := z.heat.map fun h => (s.account h).holdStep }

/-- The holds of the accounts a new session names (R7, R38). -/
def takeHolds (z : Authorization) (s : State) : State :=
  match z.heat with
  | none => takeHold z.charge s
  | some h => takeHold h (takeHold z.charge s)

/-- The session of slot `i` is authorized: record, serial, holds, lock and queue (R7). -/
def fillSlot (i : Fin 8) (z : Authorization) (s : State) : State :=
  let held := lockChain z.chain (takeHolds z (s.setSession i (authorizedRecord z s)))
  held.setSessions { held.sessions with
    queue := held.sessions.queue ++ [i], nextSerial := nextSerial held.sessions.nextSerial }

/-- After an AUTHORIZE the head goes live if the supply is not UNPLUGGED and no session is live or CLOSING (R7). -/
def liveAtOnce (s : State) : State :=
  if s.supply.state ≠ .unplugged ∧ accruingSlot s = none then goLive s else s

/-- AUTHORIZE (R6, R7). -/
def requestAuthorize (charge : Byte) (heat : Option Byte) (chain : Byte) (target : Option (BitVec 32)) (s : State) : Reply :=
  match authorization? charge heat chain target with
  | none => refuse s .badValue
  | some z =>
    match authorizeChecks z s with
    | .error code => refuse s code
    | .ok i =>
      let after := liveAtOnce (fillSlot i z s)
      accept after (byte i.val ++ half (after.session i).serial ++ byte (after.session i).state.code)

/-! ### CANCEL, STOP (R19, R21) -/

/-- CANCEL (R19). -/
def requestCancel (slot : Byte) (serial : BitVec 16) (s : State) : Reply :=
  onSession slot serial s fun i =>
    if (s.session i).state = .authorized then accept (voidSession i s) [] else refuse s .wrongState

/-- The close reason a STOP records (R21). -/
def stopReason : Port → CloseReason
  | .cp => .stoppedControl
  | .bp => .stoppedBilling

/-- A live session moves to CLOSING (R21). -/
def stopSession (p : Port) (i : Fin 8) (s : State) : State :=
  let stopped := s.setSession i { s.session i with
    state := .closing, reasons := .empty, closeReason := some (stopReason p) }
  sessionChanged (leftActive i s stopped) stopped

/-- STOP (R21). -/
def requestStop (p : Port) (slot : Byte) (serial : BitVec 16) (s : State) : Reply :=
  onSession slot serial s fun i =>
    if (s.session i).state.isLive then accept (stopSession p i s) (byte SessionState.closing.code)
    else refuse s .wrongState

/-! ### LOOK_SESSION, COLLECT, RELEASE (R5, R25, R26) -/

/-- LOOK_SESSION (R5). -/
def requestLookSession (slot : Byte) (s : State) : Reply :=
  match index? 8 slot with
  | none => refuse s .badValue
  | some i => accept s (sessionBytes i (s.session i))

/-- COLLECT: the record as it was, then collected by is set (R25). -/
def requestCollect (p : Port) (slot : Byte) (serial : BitVec 16) (s : State) : Reply :=
  onSession slot serial s fun i =>
    if (s.session i).state = .closed then
      accept (s.setSession i { s.session i with collectedBy := some p }) (sessionBytes i (s.session i))
    else refuse s .wrongState

/-- The session count of an account falls by one (R26). -/
def lowerCount (a : Fin 16) (s : State) : State :=
  s.setAccount a { s.account a with sessionCount := (s.account a).sessionCount - 1 }

/-- A CLOSED session is released: the slot is FREE and its accounts' session counts fall (R26). -/
def releaseSession (i : Fin 8) (s : State) : State :=
  let charged := lowerCount (s.session i).chargeAccount s
  let heated := match (s.session i).heatAccount with
    | none => charged
    | some h => lowerCount h charged
  heated.setSession i .free

/-- RELEASE (R26). -/
def requestRelease (p : Port) (slot : Byte) (serial : BitVec 16) (s : State) : Reply :=
  onSession slot serial s fun i =>
    if (s.session i).state = .closed then
      match (s.session i).collectedBy with
      | none => refuse s .wrongState
      | some q => if q = p then accept (releaseSession i s) [] else refuse s .stale
    else refuse s .wrongState

/-! ### PAUSE, RESUME, MARK_COMPLETE, SET_TARGET (R10, R16, R17) -/

/-- The state and pause-reason set of a session, as PAUSE and RESUME return them (R10). -/
def pauseData (i : Fin 8) (s : State) : List Byte := byte (s.session i).state.code ++ byte (s.session i).reasons.code

/-- PAUSE (R10). -/
def requestPause (slot : Byte) (serial : BitVec 16) (s : State) : Reply :=
  onSession slot serial s fun i =>
    if (s.session i).state.isLive then
      let after := changeReasons i (fun p => { p with host := true }) s
      accept after (pauseData i after)
    else refuse s .wrongState

/-- RESUME (R10). -/
def requestResume (slot : Byte) (serial : BitVec 16) (s : State) : Reply :=
  onSession slot serial s fun i =>
    if (s.session i).state.isLive then
      let after := changeReasons i (fun p => { p with host := false }) s
      accept after (pauseData i after)
    else refuse s .wrongState

/-- MARK_COMPLETE (R16). -/
def requestMarkComplete (slot : Byte) (serial : BitVec 16) (s : State) : Reply :=
  onSession slot serial s fun i =>
    match (s.session i).state with
    | .active => accept (enterComplete i s) []
    | .paused => accept (enterComplete i s) []
    | .complete => accept s []
    | .authorized => refuse s .wrongState
    | .closing => refuse s .wrongState
    | .closed => refuse s .wrongState
    | .free => refuse s .wrongState

/-- The energy target a SET_TARGET gives: 0 removes it; out of range is BAD_VALUE (R17). -/
def target? (w : BitVec 32) : Option (Option Nat) :=
  if w.toNat = 0 then some none else if w.toNat ≤ 1000000 then some (some w.toNat) else none

/-- A live session's state re-judged against a new target (R17). -/
def retarget (i : Fin 8) (t : Option Nat) (s : State) : State :=
  let r := { s.session i with energyTarget := t }
  let judged := s.setSession i { r with state := r.judgedState }
  sessionChanged (leftActive i s judged) judged

/-- SET_TARGET; its value is a field, judged before the record is looked at (R17, R170; log 10). -/
def requestSetTarget (slot : Byte) (serial : BitVec 16) (target : BitVec 32) (s : State) : Reply :=
  match target? target with
  | none => refuse s .badValue
  | some t =>
    onSession slot serial s fun i =>
      if (s.session i).state = .authorized then accept (s.setSession i { s.session i with energyTarget := t }) []
      else if (s.session i).state.isLive then accept (retarget i t s) []
      else refuse s .wrongState

end Sys2Proof.Machine
end

