-- ==== Sys2Proof/Machine/AccountRequests.lean ====
section
/-! DEFINITION. The account requests (R30 to R37). -/

namespace Sys2Proof.Machine

/-- The account a request names by index and id: the index, or the refusal (R30). -/
def nameAccount (index : Byte) (id : BitVec 32) (s : State) : Except ResultCode (Fin 16) :=
  match index? 16 index with
  | none => .error .badValue
  | some a =>
    if id = 0 then .error .badValue
    else if (s.account a).state = .free ∨ (s.account a).id ≠ id.toNat then .error .stale
    else .ok a

/-- A request that names an account: refused as R30 gives, or taken by its own rule. -/
def onAccount (index : Byte) (id : BitVec 32) (s : State) (rule : Fin 16 → Reply) : Reply :=
  match nameAccount index id s with
  | .error code => refuse s code
  | .ok a => rule a

/-- A limit in 0 to 549,755,813,887 (R34). -/
def limit? (w : BitVec 40) : Option Nat := if 0 ≤ w.toInt then some w.toInt.toNat else none

/-- A hold step in 1 to 2,000,000,000 (R31, R35). -/
def holdStep? (w : BitVec 40) : Option Nat :=
  if 1 ≤ w.toInt ∧ w.toInt ≤ 2000000000 then some w.toInt.toNat else none

/-- The limit of an OPEN_ACCOUNT: for CREDIT_LINE in range, for the other kinds 0, the record's then absent (R31). -/
def openLimit? (kind : AccountKind) (w : BitVec 40) : Option (Option Nat) :=
  match kind with
  | .creditLine => (limit? w).map some
  | .prepaid => if w = 0 then some none else none
  | .depot => if w = 0 then some none else none

/-- The record an OPEN_ACCOUNT gives, if its fields are in range (R31, check 1). -/
def openedAccount? (id : BitVec 32) (kind : Byte) (balance limit holdStep : BitVec 40) : Option Account :=
  match kind? kind with
  | none => none
  | some k =>
    match openLimit? k limit, holdStep? holdStep with
    | some l, some step =>
      if id = 0 then none else some ⟨.opened, id.toNat, some k, balance.toInt, l, 0, step, 0⟩
    | _, _ => none

/-- An id is in use by a record that is not FREE (R31, check 2). -/
def idInUse (id : Nat) (s : State) : Bool :=
  (List.finRange 16).any fun a => (s.account a).state != .free && (s.account a).id == id

/-- The lowest FREE account record (R31). -/
def freeAccount (s : State) : Option (Fin 16) := (List.finRange 16).find? fun a => (s.account a).state == .free

/-- OPEN_ACCOUNT (R31). -/
def requestOpenAccount (id : BitVec 32) (kind : Byte) (balance limit holdStep : BitVec 40) (s : State) : Reply :=
  match openedAccount? id kind balance limit holdStep with
  | none => refuse s .badValue
  | some r =>
    if idInUse r.id s then refuse s .duplicate
    else match freeAccount s with
      | none => refuse s .tableFull
      | some a => accept (s.setAccount a r) (byte a.val ++ money (availableReport r))

/-- The balance after an ADJUST (R32). -/
def adjustAccount (a : Fin 16) (sum : Int) (s : State) : State :=
  s.setAccount a { s.account a with balance := saturateMoney sum }

/-- ADJUST (R32): the flags are those of the account after the credit retry. -/
def requestAdjust (index : Byte) (id : BitVec 32) (amount : BitVec 40) (s : State) : Reply :=
  onAccount index id s fun a =>
    let sum := (s.account a).balance + amount.toInt
    let adjusted := adjustAccount a sum s
    let after := if (s.account a).balance < (adjusted.account a).balance then creditRetry a adjusted else adjusted
    accept after (money (after.account a).balance ++ money (availableReport (after.account a)) ++
      byte (adjustFlags (after.account a) sum))

/-- SET_LIMIT: its own rule, with the range of the limit first, applies once the account is named (R30, R34). -/
def requestSetLimit (index : Byte) (id : BitVec 32) (limit : BitVec 40) (s : State) : Reply :=
  onAccount index id s fun a =>
    match limit? limit with
    | none => refuse s .badValue
    | some l =>
      if (s.account a).kind = some .creditLine then
        let changed := s.setAccount a { s.account a with limit := some l }
        let after := if (s.account a).limit.getD 0 < l then creditRetry a changed else changed
        accept after (money (availableReport (after.account a)))
      else refuse s .wrongState

/-- SET_STEP: its own rule, with the range of the step, applies once the account is named (R30, R35). -/
def requestSetStep (index : Byte) (id : BitVec 32) (holdStep : BitVec 40) (s : State) : Reply :=
  onAccount index id s fun a =>
    match holdStep? holdStep with
    | none => refuse s .badValue
    | some step => accept (s.setAccount a { s.account a with holdStep := step }) []

/-- BLOCK (R36). -/
def requestBlock (index : Byte) (id : BitVec 32) (s : State) : Reply :=
  onAccount index id s fun a => accept (s.setAccount a { s.account a with state := .blocked }) []

/-- UNBLOCK (R36): a BLOCKED account is OPEN again and the credit retry is made. -/
def requestUnblock (index : Byte) (id : BitVec 32) (s : State) : Reply :=
  onAccount index id s fun a =>
    if (s.account a).state = .blocked then
      accept (creditRetry a (s.setAccount a { s.account a with state := .opened })) []
    else accept s []

/-- CLOSE_ACCOUNT (R37). -/
def requestCloseAccount (index : Byte) (id : BitVec 32) (s : State) : Reply :=
  onAccount index id s fun a =>
    if (s.account a).sessionCount = 0 then accept (s.setAccount a .free) (money (s.account a).balance)
    else refuse s .inUse

/-- LOOK_ACCOUNT (R30). How it shows a held amount past 549,755,813,887, which log 24 lets a record keep, is the model's
choice: the low 40 bits of the amount, so that it reads as a negative one (log 24). -/
def requestLookAccount (index : Byte) (s : State) : Reply :=
  match index? 16 index with
  | none => refuse s .badValue
  | some a =>
    let r := s.account a
    accept s (byte (mask [r.limit.isSome]) ++ byte a.val ++ byte r.state.code ++ quad r.id ++
      byte ((r.kind.map AccountKind.code).getD 0) ++ money r.balance ++ money ((r.limit.getD 0 : Nat)) ++ money r.held ++
      money r.holdStep ++ byte r.sessionCount ++ money (availableReport r) ++ byte (bit (r.kind == some .depot)))

end Sys2Proof.Machine
end

