-- ==== Sys2Proof/Machine/HeatRequests.lean ====
section
/-! DEFINITION. The heating requests (R134 to R141). -/

namespace Sys2Proof.Machine

/-! ### SET_ADMISSION, SET_HEATING (R134, R135) -/

/-- An entry of an admission table, if its fields are in range (R134). -/
def admissionEntry? (e : AdmissionOperand) : Option AdmissionEntry :=
  match temperature? e.threshold, within? 1 65535 e.limit.toNat with
  | some t, some l => some ⟨t, l⟩
  | _, _ => none

/-- The entries of a request, if every one is in range. -/
def admissionEntries? : List AdmissionOperand → Option (List AdmissionEntry)
  | [] => some []
  | e :: rest =>
    match admissionEntry? e, admissionEntries? rest with
    | some x, some xs => some (x :: xs)
    | _, _ => none

/-- The thresholds rise strictly from each entry to the next (R129). -/
def risingThresholds : List AdmissionEntry → Bool
  | [] => true
  | [_] => true
  | a :: b :: rest => decide (a.threshold < b.threshold) && risingThresholds (b :: rest)

/-- The admission table a SET_ADMISSION gives, if every field passes; positions beyond the count are ignored
(R134). -/
def admissionTable? (count : Byte) (entries : Vector AdmissionOperand 8) : Option (List AdmissionEntry) :=
  match within? 1 8 count.toNat with
  | none => none
  | some n =>
    match admissionEntries? (entries.toList.take n) with
    | none => none
    | some table => if risingThresholds table then some table else none

/-- SET_ADMISSION (R134). -/
def requestSetAdmission (count : Byte) (entries : Vector AdmissionOperand 8) (s : State) : Reply :=
  match admissionTable? count entries with
  | none => refuse s .badValue
  | some table => accept (s.setHeating { s.heating with admission := table }) (admissionBytes table)

/-- SET_HEATING (R135). -/
def requestSetHeating (share : Byte) (budget : BitVec 32) (preheat : BitVec 16) (s : State) : Reply :=
  match within? 0 100 share.toNat, within? 0 20000 budget.toNat, temperature? preheat with
  | some h, some b, some t =>
    accept (s.setHeating { s.heating with share := h, packBudget := b, preheat := t }) (byte h ++ quad b ++ half t)
  | _, _, _ => refuse s .badValue

/-! ### SET_ZONE (R136, R137) -/

/-- The zone record in a response, its presence mask first (R136, R140). -/
def zoneData (z : Fin 6) (s : State) : List Byte := byte (mask [(s.zone z).temperature.isSome]) ++ zoneFields z (s.zone z)

/-- The refusal of a mode by the zone's present mode and exclusion (R136, checks 2 and 3). -/
def modeRefusal (mode : ZoneMode) (z : Zone) : Option ResultCode :=
  if mode = .direct then
    if z.mode = .auto then some .wrongState else if z.excluded then some .blocked else none
  else none

/-- The drive after a SET_ZONE (the table of R137). -/
def driveAfter (mode : ZoneMode) (z : Zone) : Bool :=
  match z.mode, mode with
  | .direct, .direct => z.drive
  | .off, .auto => z.drive
  | .auto, .auto => z.drive
  | _, _ => false

/-- SET_ZONE hands the planner a zone withdrawal (the table of R137). -/
def withdrawsZone (mode : ZoneMode) (rated : Nat) (z : Zone) (inPlan : Bool) : Bool :=
  match z.mode, mode with
  | .off, _ => false
  | .auto, .off => true
  | .direct, .off => true
  | .direct, .auto => true
  | .auto, _ => rated != z.rated && inPlan
  | .direct, .direct => rated != z.rated && inPlan

/-- The withdrawal clears the deferred flag: a zone set OFF, or from DIRECT to AUTO (R122). -/
def clearsDeferred (mode : ZoneMode) (z : Zone) : Bool :=
  match z.mode, mode with
  | .off, _ => false
  | .auto, .off => true
  | .direct, .off => true
  | .direct, .auto => true
  | .auto, _ => false
  | .direct, .direct => false

/-- A SET_ZONE that passed its checks (R137). -/
def setZoneTo (z : Fin 6) (mode : ZoneMode) (target : Int) (rated : Nat) (s : State) : State :=
  let old := s.zone z
  let changed := recomputeDemand z (s.setZone z { old with
    mode := mode, target := target, rated := rated, drive := driveAfter mode old
    deferred := if clearsDeferred mode old then false else old.deferred })
  let planned :=
    if withdrawsZone mode rated old (s.planner.plans z) then changed.setPlanner (changed.planner.withdrawZone z)
    else changed
  if mode = .off then localizerZoneOff z planned else planned

/-- SET_ZONE (R136). -/
def requestSetZone (zone mode : Byte) (target : BitVec 16) (rated : BitVec 32) (s : State) : Reply :=
  match index? 6 zone, mode? mode, temperature? target, within? 0 8000 rated.toNat with
  | some z, some m, some t, some w =>
    match modeRefusal m (s.zone z) with
    | some code => refuse s code
    | none => accept (setZoneTo z m t w s) (zoneData z (setZoneTo z m t w s))
  | _, _, _, _ => refuse s .badValue

/-! ### DRIVE_ZONE (R138) -/

/-- A driven zone is driven off (R138). -/
def driveOff (z : Fin 6) (s : State) : State :=
  let off := s.setZone z { s.zone z with drive := false, deferred := false }
  localizerZoneOff z (off.setPlanner (off.planner.withdrawZone z))

/-- DRIVE_ZONE that passed its checks; a drive already as asked is unchanged (R138). -/
def driveZoneTo (z : Fin 6) (on : Bool) (s : State) : State :=
  if (s.zone z).drive = on then s
  else if on then s.setZone z { s.zone z with drive := true }
  else driveOff z s

/-- DRIVE_ZONE (R138). -/
def requestDriveZone (zone drive : Byte) (s : State) : Reply :=
  match index? 6 zone, onOff? drive with
  | some z, some on =>
    if (s.zone z).mode ≠ .direct then refuse s .wrongState
    else if on = true ∧ (s.zone z).excluded = true then refuse s .blocked
    else
      let after := driveZoneTo z on s
      let r := after.zone z
      accept after (byte r.mode.code ++ byte (bit r.drive) ++ byte r.granted ++ byte (bit r.deferred))
  | _, _ => refuse s .badValue

/-! ### RESTORE_ZONE, LOOK_ZONE (R140, R141) -/

/-- An excluded zone is restored, and its ACTIVE HEATER_ZONE record cleared (R140). -/
def restoreZone (z : Fin 6) (s : State) : State :=
  clearFault (heaterKey z) (recomputeDemand z (s.setZone z { s.zone z with excluded := false }))

/-- RESTORE_ZONE (R140). -/
def requestRestoreZone (zone : Byte) (s : State) : Reply :=
  match index? 6 zone with
  | none => refuse s .badValue
  | some z =>
    if (s.zone z).excluded then accept (restoreZone z s) (zoneData z (restoreZone z s)) else refuse s .wrongState

/-- LOOK_ZONE (R141). -/
def requestLookZone (zone : Byte) (s : State) : Reply :=
  match index? 6 zone with
  | none => refuse s .badValue
  | some z =>
    let h := s.heating
    accept s (byte (mask [(s.zone z).temperature.isSome, h.coldest.isSome, h.coldestZone.isSome]) ++
      zoneFields z (s.zone z) ++ admissionBytes h.admission ++ byte h.share ++ quad h.packBudget ++ half h.preheat ++
      quad h.admissionLimit ++ half (h.coldest.getD 0) ++ byte ((h.coldestZone.map Fin.val).getD 0) ++
      half (effectiveTarget (liveCold s) h.preheat (s.zone z)))

end Sys2Proof.Machine
end

