-- ==== Sys2Proof/Machine/FaultRequests.lean ====
section
/-! DEFINITION. The requests of the Isolation Monitor, the Localizer and the Attention Unit (R154 to R157, R160, R166,
R178), and WARM_RESET (R179). -/

namespace Sys2Proof.Machine

/-! ### LOOK_FAULT, TEST_FAULTS, RETIRE_FAULT (R154 to R156) -/

/-- The seen revision of a port is stored (R154). -/
def FaultRecord.seen (p : Port) (f : FaultRecord) : FaultRecord :=
  match p with
  | .cp => { f with seenCp := some f.revision }
  | .bp => { f with seenBp := some f.revision }

/-- LOOK_FAULT (R154). -/
def requestLookFault (p : Port) (key : Byte) (s : State) : Reply :=
  match key? key with
  | none => refuse s .badValue
  | some k => accept (s.setFault k ((s.fault k).seen p)) (faultBytes k ((s.fault k).seen p))

/-- The state filters of TEST_FAULTS (R155). -/
inductive FaultFilter where
  | active | nonFree
  deriving DecidableEq, Repr

/-- A filter by its code (section 11.1). -/
def filter? (b : Byte) : Option FaultFilter := if b = 0 then some .active else if b = 1 then some .nonFree else none

/-- A record matches a filter (R155). -/
def FaultFilter.matches (t : FaultFilter) (f : FaultRecord) : Bool :=
  match t with
  | .active => f.state == .active
  | .nonFree => f.nonFree

/-- The keys named by a mask whose records match a filter (R155). -/
def matchingKeys (m : BitVec 16) (t : FaultFilter) (s : State) : List Bool :=
  (List.finRange 12).map fun k => m.getLsbD k.val && t.matches (s.fault k)

/-- TEST_FAULTS (R155). -/
def requestTestFaults (m : BitVec 16) (filter : Byte) (s : State) : Reply :=
  match filter? filter with
  | none => refuse s .badValue
  | some t =>
    if 4096 ≤ m.toNat then refuse s .badValue
    else accept s (half (mask (matchingKeys m t s)) ++ byte ((matchingKeys m t s).count true))

/-- The record is the target of a dwell (R156, check 3). -/
def isDwellTarget (k : Fin 12) (s : State) : Bool :=
  s.localizer.state == .dwell &&
  match s.localizer.target with
  | none => false
  | some r => warnKey r == k

/-- The checks of RETIRE_FAULT in their order (R156). -/
def retireRefusal (k : Fin 12) (s : State) : Option ResultCode :=
  if (s.fault k).state ≠ .cleared then some .wrongState
  else if (s.fault k).seenCp ≠ some (s.fault k).revision then some .stale
  else if isDwellTarget k s then some .busy
  else none

/-- The record after its retirement (R156). -/
def FaultRecord.retired (f : FaultRecord) : FaultRecord :=
  { FaultRecord.powerOn with revision := nextRevision f.revision }

/-- Whether a key is an ISO_TRIP key. -/
def isTripKey (k : Fin 12) : Bool := k == tripKey .pos || k == tripKey .neg

/-- A record is retired, and the isolation condition and the release of the planner handed on (R125, R150, R156). -/
def retireFault (k : Fin 12) (s : State) : State :=
  let told := handIsolation (isolationCondition s) (s.setFault k (s.fault k).retired)
  if isTripKey k then releasePlanner told else told

/-- RETIRE_FAULT (R156). -/
def requestRetireFault (key : Byte) (s : State) : Reply :=
  match key? key with
  | none => refuse s .badValue
  | some k =>
    match retireRefusal k s with
    | some code => refuse s code
    | none => accept (retireFault k s) (byte k.val ++ byte ((retireFault k s).fault k).revision)

/-! ### SET_ISOLATION (R157) -/

/-- The isolation settings of a request, if every field is in range (R157). -/
def isolationSettings? (warning trip persistence autoLocalize dwell : Byte) : Option IsolationSettings :=
  match within? 0 7 warning.toNat, within? 0 7 trip.toNat, onOff? autoLocalize, within? 8 64 dwell.toNat with
  | some w, some t, some a, some d =>
    if t < w ∧ (persistence = 2 ∨ persistence = 4 ∨ persistence = 8 ∨ persistence = 16) then
      some ⟨w, t, persistence.toNat, a, d⟩
    else none
  | _, _, _, _ => none

/-- A level or the persistence differs (R157). -/
def changesLevels (old new : IsolationSettings) : Bool :=
  old.warning != new.warning || old.trip != new.trip || old.persistence != new.persistence

/-- The isolation settings are replaced; all eight counts become 0 where a level or the persistence changed
(R157). -/
def applyIsolation (new : IsolationSettings) (m : IsolationMonitor) : IsolationMonitor :=
  if changesLevels m.settings new then
    { IsolationMonitor.powerOn with settings := new, votes := m.votes, faults := m.faults }
  else { m with settings := new }

/-- SET_ISOLATION (R157). -/
def requestSetIsolation (warning trip persistence autoLocalize dwell : Byte) (s : State) : Reply :=
  match isolationSettings? warning trip persistence autoLocalize dwell with
  | none => refuse s .badValue
  | some new =>
    accept (s.setIsolation (applyIsolation new s.isolation))
      (byte new.warning ++ byte new.trip ++ byte new.persistence ++ byte (bit new.autoLocalize) ++ byte new.dwell)

/-! ### LOCALIZE, CANCEL_LOCALIZE (R160, R166) -/

/-- The rail whose ISO_WARN record a key code names. -/
def warnRail (k : Fin 12) : Option Rail := if k = warnKey .pos then some .pos else if k = warnKey .neg then some .neg else none

/-- LOCALIZE (R160). -/
def requestLocalize (key : Byte) (s : State) : Reply :=
  match key? key with
  | none => refuse s .badValue
  | some k =>
    if s.localizer.state = .dwell then refuse s .busy
    else match warnRail k with
      | none => refuse s .wrongState
      | some r =>
        if (s.fault k).state = .active then accept (startLocalization r s) (localizerBytes (startLocalization r s).localizer)
        else refuse s .wrongState

/-- CANCEL_LOCALIZE (R166). -/
def requestCancelLocalize (s : State) : Reply := accept (abortDwell s) (localizerBytes (abortDwell s).localizer)

/-! ### Attention requests (R178) -/

/-- A set of causes, if the mask names no bit above bit 9 (R178). -/
def causes? (m : BitVec 16) : Option (BitVec 10) := if m.toNat < 1024 then some (BitVec.ofNat 10 m.toNat) else none

/-- The pending set, mask and line state of a port, as the attention requests return them (R178). -/
def attentionData (p : Port) (s : State) : List Byte :=
  half (s.attention.pendingOf p).toNat ++ half (s.attention.maskOf p).toNat ++ byte (bit (lineActive p s))

/-- The enable mask of a port is replaced (R178). -/
def Attention.setMask (p : Port) (m : BitVec 10) (t : Attention) : Attention :=
  match p with
  | .cp => { t with maskCp := m }
  | .bp => { t with maskBp := m }

/-- Causes are removed from a port's pending set (R178). -/
def Attention.clear (p : Port) (m : BitVec 10) (t : Attention) : Attention :=
  match p with
  | .cp => { t with pendingCp := t.pendingCp &&& ~~~m }
  | .bp => { t with pendingBp := t.pendingBp &&& ~~~m }

/-- SET_ATTENTION (R178). -/
def requestSetAttention (p : Port) (m : BitVec 16) (s : State) : Reply :=
  match causes? m with
  | none => refuse s .badValue
  | some c =>
    let after := s.setAttention (s.attention.setMask p c)
    accept after (attentionData p after)

/-- READ_ATTENTION (R178). -/
def requestReadAttention (p : Port) (s : State) : Reply := accept s (attentionData p s)

/-- CLEAR_ATTENTION (R178). -/
def requestClearAttention (p : Port) (m : BitVec 16) (s : State) : Reply :=
  match causes? m with
  | none => refuse s .badValue
  | some c =>
    let after := s.setAttention (s.attention.clear p c)
    accept after (attentionData p after)

/-- WARM_RESET: its OK response, with no data, is what the buffer holds after the reset (R179). -/
def requestWarmReset (s : State) : Reply := accept (warmReset s) []

end Sys2Proof.Machine
end

