-- ==== Sys2Proof/Machine/Ports.lean ====
section
/-! DEFINITION. Chapter 11: permissions, the execution of a request, its response, the Control Port and the Billing
Port. -/

namespace Sys2Proof.Machine

/-! ### Permissions (R176) -/

/-- The permission table: a request may arrive on a port (R176). -/
def permitted : Port → Request → Bool
  | .cp, .authorize .. => false
  | .cp, .openAccount .. => false
  | .cp, .adjust .. => false
  | .cp, .setLimit .. => false
  | .cp, .setStep .. => false
  | .cp, .block .. => false
  | .cp, .unblock .. => false
  | .cp, .closeAccount .. => false
  | .cp, .writeBand .. => false
  | .cp, .freeBand .. => false
  | .cp, .sealChain .. => false
  | .cp, .unsealChain .. => false
  | .cp, _ => true
  | .bp, .pause .. => false
  | .bp, .resume .. => false
  | .bp, .markComplete .. => false
  | .bp, .setTarget .. => false
  | .bp, .setCalendar .. => false
  | .bp, .setLifetime .. => false
  | .bp, .setZone .. => false
  | .bp, .driveZone .. => false
  | .bp, .restoreZone .. => false
  | .bp, .setAdmission .. => false
  | .bp, .setHeating .. => false
  | .bp, .setIsolation .. => false
  | .bp, .retireFault .. => false
  | .bp, .localize .. => false
  | .bp, .cancelLocalize => false
  | .bp, .warmReset => false
  | .bp, _ => true

/-! ### Execution (R170) -/

/-- The owner block of a request takes it whole (R170, R176). -/
def serve (p : Port) (s : State) : Request → Reply
  | .authorize charge heat chain target => requestAuthorize charge heat chain target s
  | .cancel slot serial => requestCancel slot serial s
  | .stop slot serial => requestStop p slot serial s
  | .lookSession slot => requestLookSession slot s
  | .collect slot serial => requestCollect p slot serial s
  | .release slot serial => requestRelease p slot serial s
  | .pause slot serial => requestPause slot serial s
  | .resume slot serial => requestResume slot serial s
  | .markComplete slot serial => requestMarkComplete slot serial s
  | .setTarget slot serial target => requestSetTarget slot serial target s
  | .openAccount id kind balance limit holdStep => requestOpenAccount id kind balance limit holdStep s
  | .adjust index id amount => requestAdjust index id amount s
  | .setLimit index id limit => requestSetLimit index id limit s
  | .setStep index id holdStep => requestSetStep index id holdStep s
  | .block index id => requestBlock index id s
  | .unblock index id => requestUnblock index id s
  | .closeAccount index id => requestCloseAccount index id s
  | .lookAccount index => requestLookAccount index s
  | .writeBand band chain start chargeRate heatRate occupancyRate cap next =>
    requestWriteBand band chain start chargeRate heatRate occupancyRate cap next s
  | .freeBand band => requestFreeBand band s
  | .sealChain chain id => requestSealChain chain id s
  | .unsealChain chain id => requestUnsealChain chain id s
  | .lookBand band => requestLookBand band s
  | .lookChain chain => requestLookChain chain s
  | .lookCalendar => requestLookCalendar s
  | .setCalendar minute => requestSetCalendar minute s
  | .setLifetime minutes => requestSetLifetime minutes s
  | .setZone zone mode target rated => requestSetZone zone mode target rated s
  | .driveZone zone drive => requestDriveZone zone drive s
  | .restoreZone zone => requestRestoreZone zone s
  | .setAdmission count entries => requestSetAdmission count entries s
  | .setHeating share budget preheat => requestSetHeating share budget preheat s
  | .lookZone zone => requestLookZone zone s
  | .lookPlan => requestLookPlan s
  | .setIsolation warning trip persistence autoLocalize dwell =>
    requestSetIsolation warning trip persistence autoLocalize dwell s
  | .retireFault key => requestRetireFault key s
  | .lookFault key => requestLookFault p key s
  | .testFaults mask filter => requestTestFaults mask filter s
  | .localize key => requestLocalize key s
  | .cancelLocalize => requestCancelLocalize s
  | .lookSupply => requestLookSupply s
  | .lookMeter => requestLookMeter s
  | .setAttention mask => requestSetAttention p mask s
  | .readAttention => requestReadAttention p s
  | .clearAttention mask => requestClearAttention p mask s
  | .warmReset => requestWarmReset s

/-- A request at a port: DENIED where the table does not permit it, otherwise taken by its owner (R170, check 4). -/
def answer (p : Port) (r : Request) (s : State) : Reply := if permitted p r then serve p s r else refuse s .denied

/-- The response to a request (R170). -/
def responseTo (p : Port) (r : Request) (s : State) : Response := ⟨(answer p r s).result, r.code, (answer p r s).data⟩

/-- A MALFORMED response with the byte it echoes (R170). -/
def malformedResponse (echo : Byte) : Response := ⟨.malformed, echo, []⟩

/-- The status byte: the result code, the overrun mark in bit 7 (section 11.1). -/
def statusByte (overrun : Bool) (code : ResultCode) : Byte :=
  BitVec.ofNat 8 code.code ||| (if overrun then 128#8 else 0#8)

/-- The bytes of a response as a port sends them (section 11.1). -/
def Response.frame (overrun : Bool) (r : Response) : List Byte :=
  withCheck ([statusByte overrun r.result, r.code, BitVec.ofNat 8 r.data.length] ++ r.data)

/-! ### The Control Port (R171, R172) -/

/-- The filler byte (R171). -/
def filler : Byte := 0xFF

/-- The NOT_READY byte (R171). -/
def notReady : Byte := 0xFE

/-- The port shifts out `n` fillers (R171, R180). -/
def shiftFillers (n : Nat) (s : State) : State := s.setControl { s.control with shifted := List.replicate n filler }

/-- A response is placed in the buffer (R171). -/
def placeResponse (r : Response) (s : State) : State := s.setControl { s.control with buffer := some r }

/-- A request transaction that finds the buffer holding a response: the overrun mark is set (R171, R172). -/
def markOverrun (s : State) : State := s.setControl { s.control with overrun := true }

/-- A frame on the Control Port, the buffer empty: executed, or answered MALFORMED (R170, R171). -/
def controlFrame (bytes : List Byte) (s : State) : State :=
  match parseFrame bytes with
  | none => placeResponse (malformedResponse (bytes.headD 0)) s
  | some r => placeResponse (responseTo .cp r s) (answer .cp r s).state

/-- The bytes a fetch of `n` bytes shifts out (R171). -/
def fetchedBytes (n : Nat) (c : ControlPort) : List Byte :=
  match c.buffer with
  | none => ([filler, notReady] ++ List.replicate (n - 2) filler).take n
  | some r => ([filler] ++ r.frame c.overrun ++ List.replicate (n - 1) filler).take n

/-- Every byte of the held response has been shifted out when a fetch of `n` bytes is released (R171). -/
def fetchCompletes (n : Nat) (c : ControlPort) : Bool :=
  match c.buffer with
  | none => false
  | some r => decide ((r.frame c.overrun).length < n)

/-- A fetch transaction of `n` bytes, the fetch code included (R171, R180); one without bytes changes nothing. -/
def fetchTransaction (n : Nat) (s : State) : State :=
  if n = 0 then s
  else if s.portsStarted = false then shiftFillers n s
  else
    let c := { s.control with shifted := fetchedBytes n s.control }
    s.setControl (if fetchCompletes n s.control then { c with buffer := none, overrun := false } else c)

/-- A request transaction (R171, R172, R180); the fillers go out while its bytes come in. Its first byte is not the fetch code; a transaction with the fetch
code first is the fetch it makes (section 11.2). -/
def requestTransaction (bytes : List Byte) (s : State) : State :=
  match bytes with
  | [] => s
  | first :: _ =>
    if first = 0 then fetchTransaction bytes.length s
    else if s.portsStarted = false then shiftFillers bytes.length s
    else if s.control.buffer.isSome then shiftFillers bytes.length (markOverrun s)
    else shiftFillers bytes.length (controlFrame bytes s)

/-! ### The Billing Port (R173, R174) -/

/-- A response goes out with the overrun mark as it stands (R174). -/
def transmit (r : Response) (s : State) : State :=
  s.setBilling { s.billing with sending := some (r.frame s.billing.overrun) }

/-- A request taken with nothing in transmission: executed, and its response transmitted (R174). -/
def billingRequest (r : Request) (s : State) : State := transmit (responseTo .bp r s) (answer .bp r s).state

/-- An item taken with nothing in transmission: executed or answered MALFORMED (R173, R174). -/
def takeItem (i : BillingItem) (s : State) : State :=
  match i with
  | .malformed echo => transmit (malformedResponse echo) s
  | .frame bytes =>
    match parseFrame bytes with
    | none => transmit (malformedResponse (bytes.headD 0)) s
    | some r => billingRequest r s

/-- A completed frame, or a MALFORMED answer to make: taken at once, appended to the list, or discarded with the
overrun mark set (R174). -/
def completeItem (i : BillingItem) (s : State) : State :=
  match s.billing.sending with
  | none => takeItem i s
  | some _ =>
    if s.billing.waiting.length < 4 then s.setBilling { s.billing with waiting := s.billing.waiting ++ [i] }
    else s.setBilling { s.billing with overrun := true }

/-- The frame in assembly is discarded and answered MALFORMED, and the port ignores bytes until a gap (R173). -/
def discardFrame (ws : List Byte) (s : State) : State :=
  completeItem (.malformed (ws.headD 0)) (s.setBilling { s.billing with assembly := none, ignoring := true })

/-- A byte of a frame that is assembling, with the frame's bytes so far, this one included (R173). -/
def addByte (ws : List Byte) (s : State) : State :=
  let len := (ws.getD 1 0).toNat
  if ws.length = 2 ∧ 60 < len then discardFrame ws s
  else if 2 ≤ ws.length ∧ 3 + len ≤ ws.length then
    completeItem (.frame ws) (s.setBilling { s.billing with assembly := none })
  else s.setBilling { s.billing with assembly := some ws }

/-- A byte received on the Billing Port (R173, R180). -/
def takeByte (s : State) (b : Byte) : State :=
  if s.portsStarted = false ∨ s.billing.ignoring = true then s else addByte (s.billing.assembly.getD [] ++ [b]) s

/-- A framing error; outside a frame it does nothing (R173, R180). -/
def takeFramingError (s : State) : State :=
  match s.billing.assembly with
  | none => s
  | some ws => if s.portsStarted then discardFrame ws s else s

/-- A gap of more than 5 ms: a partial frame is discarded, and ignoring ends (R173). -/
def takeGap (s : State) : State := s.setBilling { s.billing with assembly := none, ignoring := false }

/-- The Billing Port when the response `sent` has been transmitted: the overrun mark clears if that response carried
it (R174; log 31). -/
def BillingPort.sentResponse (sent : List Byte) (b : BillingPort) : BillingPort :=
  { b with sending := none, overrun := b.overrun && !(sent.headD 0).getLsbD 7 }

/-- A transmission ends: the oldest waiting item is removed and taken (R174); nothing where none is in progress
(log 18). -/
def endTransmission (s : State) : State :=
  match s.billing.sending with
  | none => s
  | some sent =>
    let ended := s.setBilling (s.billing.sentResponse sent)
    match ended.billing.waiting with
    | [] => ended
    | i :: rest => takeItem i (ended.setBilling { ended.billing with waiting := rest })

/-! ### A request at its port (log 19) -/

/-- A request on the Control Port: the transaction of its frame (R171). -/
def controlRequest (r : Request) (s : State) : State :=
  if s.portsStarted = false then shiftFillers r.frame.length s
  else if s.control.buffer.isSome then shiftFillers r.frame.length (markOverrun s)
  else shiftFillers r.frame.length (placeResponse (responseTo .cp r s) (answer .cp r s).state)

/-- A request on the Billing Port: the bytes of its frame (R173, R174). Where they begin a frame and complete it with
nothing in transmission, the request is taken as it stands. -/
def billingFrame (r : Request) (s : State) : State :=
  if s.portsStarted ∧ s.billing.ignoring = false ∧ s.billing.assembly = none ∧ s.billing.sending = none then
    billingRequest r s
  else r.frame.foldl takeByte s

/-- A request arrives at a port (log 19). -/
def takeRequest (p : Port) (r : Request) (s : State) : State :=
  match p with
  | .cp => controlRequest r s
  | .bp => billingFrame r s

end Sys2Proof.Machine
end

