-- ==== Sys2Proof/Machine/RequestCommands.lean ====
section
/-! DEFINITION. The meanings of the 46 requests: each arrives as its frame at its port (section 11.1; log 19), and its
owner's part of it is the request operation that Ports.serve names. -/

namespace Sys2Proof.Machine

/-- AUTHORIZE (R6). -/
def execAuthorize (port : Port) (charge : Byte) (heat : Option Byte) (chain : Byte) (target : Option (BitVec 32)) (s : State) :
    Host.Outcome State Fault Refusal :=
  .next (takeRequest port (.authorize charge heat chain target) s)

/-- CANCEL (R19). -/
def execCancel (port : Port) (slot : Byte) (serial : BitVec 16) (s : State) : Host.Outcome State Fault Refusal :=
  .next (takeRequest port (.cancel slot serial) s)

/-- STOP (R21). -/
def execStop (port : Port) (slot : Byte) (serial : BitVec 16) (s : State) : Host.Outcome State Fault Refusal :=
  .next (takeRequest port (.stop slot serial) s)

/-- LOOK_SESSION (R5). -/
def execLookSession (port : Port) (slot : Byte) (s : State) : Host.Outcome State Fault Refusal :=
  .next (takeRequest port (.lookSession slot) s)

/-- COLLECT (R25). -/
def execCollect (port : Port) (slot : Byte) (serial : BitVec 16) (s : State) : Host.Outcome State Fault Refusal :=
  .next (takeRequest port (.collect slot serial) s)

/-- RELEASE (R26). -/
def execRelease (port : Port) (slot : Byte) (serial : BitVec 16) (s : State) : Host.Outcome State Fault Refusal :=
  .next (takeRequest port (.release slot serial) s)

/-- PAUSE (R10). -/
def execPause (port : Port) (slot : Byte) (serial : BitVec 16) (s : State) : Host.Outcome State Fault Refusal :=
  .next (takeRequest port (.pause slot serial) s)

/-- RESUME (R10). -/
def execResume (port : Port) (slot : Byte) (serial : BitVec 16) (s : State) : Host.Outcome State Fault Refusal :=
  .next (takeRequest port (.resume slot serial) s)

/-- MARK_COMPLETE (R16). -/
def execMarkComplete (port : Port) (slot : Byte) (serial : BitVec 16) (s : State) : Host.Outcome State Fault Refusal :=
  .next (takeRequest port (.markComplete slot serial) s)

/-- SET_TARGET (R17). -/
def execSetTarget (port : Port) (slot : Byte) (serial : BitVec 16) (target : BitVec 32) (s : State) :
    Host.Outcome State Fault Refusal :=
  .next (takeRequest port (.setTarget slot serial target) s)

/-- OPEN_ACCOUNT (R31). -/
def execOpenAccount (port : Port) (id : BitVec 32) (kind : Byte) (balance limit holdStep : BitVec 40) (s : State) :
    Host.Outcome State Fault Refusal :=
  .next (takeRequest port (.openAccount id kind balance limit holdStep) s)

/-- ADJUST (R32). -/
def execAdjust (port : Port) (index : Byte) (id : BitVec 32) (amount : BitVec 40) (s : State) :
    Host.Outcome State Fault Refusal :=
  .next (takeRequest port (.adjust index id amount) s)

/-- SET_LIMIT (R34). -/
def execSetLimit (port : Port) (index : Byte) (id : BitVec 32) (limit : BitVec 40) (s : State) :
    Host.Outcome State Fault Refusal :=
  .next (takeRequest port (.setLimit index id limit) s)

/-- SET_STEP (R35). -/
def execSetStep (port : Port) (index : Byte) (id : BitVec 32) (holdStep : BitVec 40) (s : State) :
    Host.Outcome State Fault Refusal :=
  .next (takeRequest port (.setStep index id holdStep) s)

/-- BLOCK (R36). -/
def execBlock (port : Port) (index : Byte) (id : BitVec 32) (s : State) : Host.Outcome State Fault Refusal :=
  .next (takeRequest port (.block index id) s)

/-- UNBLOCK (R36). -/
def execUnblock (port : Port) (index : Byte) (id : BitVec 32) (s : State) : Host.Outcome State Fault Refusal :=
  .next (takeRequest port (.unblock index id) s)

/-- CLOSE_ACCOUNT (R37). -/
def execCloseAccount (port : Port) (index : Byte) (id : BitVec 32) (s : State) : Host.Outcome State Fault Refusal :=
  .next (takeRequest port (.closeAccount index id) s)

/-- LOOK_ACCOUNT (R30). -/
def execLookAccount (port : Port) (index : Byte) (s : State) : Host.Outcome State Fault Refusal :=
  .next (takeRequest port (.lookAccount index) s)

/-- WRITE_BAND (R48). -/
def execWriteBand (port : Port) (band chain : Byte) (start chargeRate heatRate occupancyRate : BitVec 16) (cap : Option (BitVec 32)) (next : Byte) (s : State) :
    Host.Outcome State Fault Refusal :=
  .next (takeRequest port (.writeBand band chain start chargeRate heatRate occupancyRate cap next) s)

/-- FREE_BAND (R49). -/
def execFreeBand (port : Port) (band : Byte) (s : State) : Host.Outcome State Fault Refusal :=
  .next (takeRequest port (.freeBand band) s)

/-- SEAL_CHAIN (R50). -/
def execSealChain (port : Port) (chain : Byte) (id : BitVec 32) (s : State) : Host.Outcome State Fault Refusal :=
  .next (takeRequest port (.sealChain chain id) s)

/-- UNSEAL_CHAIN (R51). -/
def execUnsealChain (port : Port) (chain : Byte) (id : BitVec 32) (s : State) : Host.Outcome State Fault Refusal :=
  .next (takeRequest port (.unsealChain chain id) s)

/-- LOOK_BAND (R53). -/
def execLookBand (port : Port) (band : Byte) (s : State) : Host.Outcome State Fault Refusal :=
  .next (takeRequest port (.lookBand band) s)

/-- LOOK_CHAIN (R53). -/
def execLookChain (port : Port) (chain : Byte) (s : State) : Host.Outcome State Fault Refusal :=
  .next (takeRequest port (.lookChain chain) s)

/-- LOOK_CALENDAR (R59). -/
def execLookCalendar (port : Port) (s : State) : Host.Outcome State Fault Refusal :=
  .next (takeRequest port .lookCalendar s)

/-- SET_CALENDAR (R55). -/
def execSetCalendar (port : Port) (minute : BitVec 16) (s : State) : Host.Outcome State Fault Refusal :=
  .next (takeRequest port (.setCalendar minute) s)

/-- SET_LIFETIME (R58). -/
def execSetLifetime (port : Port) (minutes : BitVec 16) (s : State) : Host.Outcome State Fault Refusal :=
  .next (takeRequest port (.setLifetime minutes) s)

/-- SET_ZONE (R136). -/
def execSetZone (port : Port) (zone mode : Byte) (target : BitVec 16) (rated : BitVec 32) (s : State) :
    Host.Outcome State Fault Refusal :=
  .next (takeRequest port (.setZone zone mode target rated) s)

/-- DRIVE_ZONE (R138). -/
def execDriveZone (port : Port) (zone drive : Byte) (s : State) : Host.Outcome State Fault Refusal :=
  .next (takeRequest port (.driveZone zone drive) s)

/-- RESTORE_ZONE (R140). -/
def execRestoreZone (port : Port) (zone : Byte) (s : State) : Host.Outcome State Fault Refusal :=
  .next (takeRequest port (.restoreZone zone) s)

/-- SET_ADMISSION (R134). -/
def execSetAdmission (port : Port) (count : Byte) (entries : Vector AdmissionOperand 8) (s : State) :
    Host.Outcome State Fault Refusal :=
  .next (takeRequest port (.setAdmission count entries) s)

/-- SET_HEATING (R135). -/
def execSetHeating (port : Port) (share : Byte) (budget : BitVec 32) (preheat : BitVec 16) (s : State) :
    Host.Outcome State Fault Refusal :=
  .next (takeRequest port (.setHeating share budget preheat) s)

/-- LOOK_ZONE (R141). -/
def execLookZone (port : Port) (zone : Byte) (s : State) : Host.Outcome State Fault Refusal :=
  .next (takeRequest port (.lookZone zone) s)

/-- LOOK_PLAN (R126). -/
def execLookPlan (port : Port) (s : State) : Host.Outcome State Fault Refusal :=
  .next (takeRequest port .lookPlan s)

/-- SET_ISOLATION (R157). -/
def execSetIsolation (port : Port) (warning trip persistence autoLocalize dwell : Byte) (s : State) :
    Host.Outcome State Fault Refusal :=
  .next (takeRequest port (.setIsolation warning trip persistence autoLocalize dwell) s)

/-- RETIRE_FAULT (R156). -/
def execRetireFault (port : Port) (key : Byte) (s : State) : Host.Outcome State Fault Refusal :=
  .next (takeRequest port (.retireFault key) s)

/-- LOOK_FAULT (R154). -/
def execLookFault (port : Port) (key : Byte) (s : State) : Host.Outcome State Fault Refusal :=
  .next (takeRequest port (.lookFault key) s)

/-- TEST_FAULTS (R155). -/
def execTestFaults (port : Port) (mask : BitVec 16) (filter : Byte) (s : State) : Host.Outcome State Fault Refusal :=
  .next (takeRequest port (.testFaults mask filter) s)

/-- LOCALIZE (R160). -/
def execLocalize (port : Port) (key : Byte) (s : State) : Host.Outcome State Fault Refusal :=
  .next (takeRequest port (.localize key) s)

/-- CANCEL_LOCALIZE (R166). -/
def execCancelLocalize (port : Port) (s : State) : Host.Outcome State Fault Refusal :=
  .next (takeRequest port .cancelLocalize s)

/-- LOOK_SUPPLY (R106). -/
def execLookSupply (port : Port) (s : State) : Host.Outcome State Fault Refusal :=
  .next (takeRequest port .lookSupply s)

/-- LOOK_METER (R90). -/
def execLookMeter (port : Port) (s : State) : Host.Outcome State Fault Refusal :=
  .next (takeRequest port .lookMeter s)

/-- SET_ATTENTION (R178). -/
def execSetAttention (port : Port) (mask : BitVec 16) (s : State) : Host.Outcome State Fault Refusal :=
  .next (takeRequest port (.setAttention mask) s)

/-- READ_ATTENTION (R178). -/
def execReadAttention (port : Port) (s : State) : Host.Outcome State Fault Refusal :=
  .next (takeRequest port .readAttention s)

/-- CLEAR_ATTENTION (R178). -/
def execClearAttention (port : Port) (mask : BitVec 16) (s : State) : Host.Outcome State Fault Refusal :=
  .next (takeRequest port (.clearAttention mask) s)

/-- WARM_RESET (R179). -/
def execWarmReset (port : Port) (s : State) : Host.Outcome State Fault Refusal :=
  .next (takeRequest port .warmReset s)

end Sys2Proof.Machine
end

