-- ==== Sys2Proof/Machine/EventCommands.lean ====
section
/-! DEFINITION. The meanings of the 17 events that are not requests. The expiry of a timer implies that the time to it
has passed (log 2); an edge says how much has passed since the event before it (log 3). -/

namespace Sys2Proof.Machine

/-- POWER_ON (R180). -/
def execPowerOn (s : State) : Host.Outcome State Fault Refusal := .next (powerOnState s)

/-- PORT_START_COMPLETE (R180). -/
def execPortStartComplete (s : State) : Host.Outcome State Fault Refusal := .next (completeStart s)

/-- RESET_ASSERTION (R179). -/
def execResetAssertion (s : State) : Host.Outcome State Fault Refusal := .next (warmReset s)

/-- FRAME_SYNC (R79). -/
def execFrameSync (s : State) : Host.Outcome State Fault Refusal := .next (takeFrameSync s)

/-- DATA_WORD (R79, R80). -/
def execDataWord (word : Word) (s : State) : Host.Outcome State Fault Refusal := .next (takeDataWord word s)

/-- OVERDUE_EXPIRY (R83, R84). -/
def execOverdueExpiry (s : State) : Host.Outcome State Fault Refusal :=
  .next (takeOverdue (passTime s.meter.overdue s))

/-- LOST_TIMER_EXPIRY (R88): the time left on the lost timer has passed; nothing while it is stopped (log 18). -/
def execLostTimerExpiry (s : State) : Host.Outcome State Fault Refusal :=
  .next (takeLostExpiry (passTime (s.meter.lost.getD 0) s))

/-- RISING_EDGE (R93). -/
def execRisingEdge (elapsed : Nat) (lowPlateau : Word) (s : State) : Host.Outcome State Fault Refusal :=
  .next (takeRisingEdge lowPlateau (passTime elapsed s))

/-- FALLING_EDGE (R93). -/
def execFallingEdge (elapsed : Nat) (highPlateau : Word) (s : State) : Host.Outcome State Fault Refusal :=
  .next (takeFallingEdge highPlateau (passTime elapsed s))

/-- CAPTURE_OVERFLOW (R94). -/
def execCaptureOverflow (steadyLevel : Word) (s : State) : Host.Outcome State Fault Refusal :=
  .next (takeOverflow steadyLevel (passTime s.supply.overflow s))

/-- MINUTE_EVENT (R54): the time left on the minute timer has passed; nothing while it is stopped (log 18). -/
def execMinuteEvent (s : State) : Host.Outcome State Fault Refusal :=
  .next (takeMinute (passTime (s.tariff.minuteTimer.getD 0) s))

/-- CP_REQUEST_TRANSACTION (R171). -/
def execCpRequestTransaction (bytes : List Byte) (s : State) : Host.Outcome State Fault Refusal :=
  .next (requestTransaction bytes s)

/-- CP_FETCH_TRANSACTION (R171). -/
def execCpFetchTransaction (clocked : Nat) (s : State) : Host.Outcome State Fault Refusal :=
  .next (fetchTransaction clocked s)

/-- BP_BYTE_RECEIVED (R173). -/
def execBpByteReceived (byte : Byte) (s : State) : Host.Outcome State Fault Refusal := .next (takeByte s byte)

/-- BP_FRAMING_ERROR (R173). -/
def execBpFramingError (s : State) : Host.Outcome State Fault Refusal := .next (takeFramingError s)

/-- BP_GAP_TIMEOUT (R173). -/
def execBpGapTimeout (s : State) : Host.Outcome State Fault Refusal := .next (takeGap s)

/-- BP_TRANSMISSION_END (R174). -/
def execBpTransmissionEnd (s : State) : Host.Outcome State Fault Refusal := .next (endTransmission s)

end Sys2Proof.Machine
end

