-- ==== Sys2Proof/Machine/Dispatch.lean ====
section
/-! DEFINITION. One arm for each command. -/

namespace Sys2Proof.Machine

def exec (i : Instr) (s : State) : Host.Outcome State Fault Refusal :=
  match i with
  | .authorize port charge heat chain target => Sys2Proof.Machine.execAuthorize port charge heat chain target s
  | .cancel port slot serial => Sys2Proof.Machine.execCancel port slot serial s
  | .stop port slot serial => Sys2Proof.Machine.execStop port slot serial s
  | .lookSession port slot => Sys2Proof.Machine.execLookSession port slot s
  | .collect port slot serial => Sys2Proof.Machine.execCollect port slot serial s
  | .release port slot serial => Sys2Proof.Machine.execRelease port slot serial s
  | .pause port slot serial => Sys2Proof.Machine.execPause port slot serial s
  | .resume port slot serial => Sys2Proof.Machine.execResume port slot serial s
  | .markComplete port slot serial => Sys2Proof.Machine.execMarkComplete port slot serial s
  | .setTarget port slot serial target => Sys2Proof.Machine.execSetTarget port slot serial target s
  | .openAccount port id kind balance limit holdStep => Sys2Proof.Machine.execOpenAccount port id kind balance limit holdStep s
  | .adjust port index id amount => Sys2Proof.Machine.execAdjust port index id amount s
  | .setLimit port index id limit => Sys2Proof.Machine.execSetLimit port index id limit s
  | .setStep port index id holdStep => Sys2Proof.Machine.execSetStep port index id holdStep s
  | .block port index id => Sys2Proof.Machine.execBlock port index id s
  | .unblock port index id => Sys2Proof.Machine.execUnblock port index id s
  | .closeAccount port index id => Sys2Proof.Machine.execCloseAccount port index id s
  | .lookAccount port index => Sys2Proof.Machine.execLookAccount port index s
  | .writeBand port band chain start chargeRate heatRate occupancyRate cap next => Sys2Proof.Machine.execWriteBand port band chain start chargeRate heatRate occupancyRate cap next s
  | .freeBand port band => Sys2Proof.Machine.execFreeBand port band s
  | .sealChain port chain id => Sys2Proof.Machine.execSealChain port chain id s
  | .unsealChain port chain id => Sys2Proof.Machine.execUnsealChain port chain id s
  | .lookBand port band => Sys2Proof.Machine.execLookBand port band s
  | .lookChain port chain => Sys2Proof.Machine.execLookChain port chain s
  | .lookCalendar port => Sys2Proof.Machine.execLookCalendar port s
  | .setCalendar port minute => Sys2Proof.Machine.execSetCalendar port minute s
  | .setLifetime port minutes => Sys2Proof.Machine.execSetLifetime port minutes s
  | .setZone port zone mode target rated => Sys2Proof.Machine.execSetZone port zone mode target rated s
  | .driveZone port zone drive => Sys2Proof.Machine.execDriveZone port zone drive s
  | .restoreZone port zone => Sys2Proof.Machine.execRestoreZone port zone s
  | .setAdmission port count entries => Sys2Proof.Machine.execSetAdmission port count entries s
  | .setHeating port share budget preheat => Sys2Proof.Machine.execSetHeating port share budget preheat s
  | .lookZone port zone => Sys2Proof.Machine.execLookZone port zone s
  | .lookPlan port => Sys2Proof.Machine.execLookPlan port s
  | .setIsolation port warning trip persistence autoLocalize dwell => Sys2Proof.Machine.execSetIsolation port warning trip persistence autoLocalize dwell s
  | .retireFault port key => Sys2Proof.Machine.execRetireFault port key s
  | .lookFault port key => Sys2Proof.Machine.execLookFault port key s
  | .testFaults port mask filter => Sys2Proof.Machine.execTestFaults port mask filter s
  | .localize port key => Sys2Proof.Machine.execLocalize port key s
  | .cancelLocalize port => Sys2Proof.Machine.execCancelLocalize port s
  | .lookSupply port => Sys2Proof.Machine.execLookSupply port s
  | .lookMeter port => Sys2Proof.Machine.execLookMeter port s
  | .setAttention port mask => Sys2Proof.Machine.execSetAttention port mask s
  | .readAttention port => Sys2Proof.Machine.execReadAttention port s
  | .clearAttention port mask => Sys2Proof.Machine.execClearAttention port mask s
  | .warmReset port => Sys2Proof.Machine.execWarmReset port s
  | .powerOn => Sys2Proof.Machine.execPowerOn s
  | .portStartComplete => Sys2Proof.Machine.execPortStartComplete s
  | .resetAssertion => Sys2Proof.Machine.execResetAssertion s
  | .frameSync => Sys2Proof.Machine.execFrameSync s
  | .dataWord word => Sys2Proof.Machine.execDataWord word s
  | .overdueExpiry => Sys2Proof.Machine.execOverdueExpiry s
  | .lostTimerExpiry => Sys2Proof.Machine.execLostTimerExpiry s
  | .risingEdge elapsed lowPlateau => Sys2Proof.Machine.execRisingEdge elapsed lowPlateau s
  | .fallingEdge elapsed highPlateau => Sys2Proof.Machine.execFallingEdge elapsed highPlateau s
  | .captureOverflow steadyLevel => Sys2Proof.Machine.execCaptureOverflow steadyLevel s
  | .minuteEvent => Sys2Proof.Machine.execMinuteEvent s
  | .cpRequestTransaction bytes => Sys2Proof.Machine.execCpRequestTransaction bytes s
  | .cpFetchTransaction clocked => Sys2Proof.Machine.execCpFetchTransaction clocked s
  | .bpByteReceived byte => Sys2Proof.Machine.execBpByteReceived byte s
  | .bpFramingError => Sys2Proof.Machine.execBpFramingError s
  | .bpGapTimeout => Sys2Proof.Machine.execBpGapTimeout s
  | .bpTransmissionEnd => Sys2Proof.Machine.execBpTransmissionEnd s

end Sys2Proof.Machine
end

