-- ==== Sys2Proof/Machine/Step.lean ====
section
/-! DEFINITION. One step: the command at the front of the queue, or, with none waiting, one microsecond or the expiry
of a timer that has run out (log 1). -/

namespace Sys2Proof.Machine

/-- The expiries of the part's own timers that have run out (R54, R83, R88, R94). The steady level of an overflow is a
free value (log 5). -/
def dueExpiries (s : State) : List Instr :=
  (if s.meter.overdue = 0 then [.overdueExpiry] else []) ++
  (if s.meter.lost = some 0 then [.lostTimerExpiry] else []) ++
  (if s.tariff.minuteTimer = some 0 then [.minuteEvent] else []) ++
  (if s.supply.overflow = 0 then [.captureOverflow (Config.lineLevel s.freeCount)] else [])

/-- The expiry taken first of those due: a free value (log 4). -/
def pickDue (due : List Instr) (s : State) : Option Instr := due[Config.duePick s.freeCount % due.length]?

/-- With no command waiting: the due expiry is taken, or one microsecond passes (log 1). -/
def idle (s : State) : Host.Outcome State Fault Refusal :=
  match dueExpiries s with
  | [] => .next (passTime 1 s)
  | [c] => exec c (s.setFreeCount (s.freeCount + 1))
  | c :: d :: rest => exec ((pickDue (c :: d :: rest) s).getD c) (s.setFreeCount (s.freeCount + 1))

/-- Takes the command at the front of the queue. -/
def step (s : State) : Host.Outcome State Fault Refusal :=
  match s.pending with
  | [] => idle s
  | c :: rest => exec c (s.setPending rest)

/-- The state with the command of a table word at the front of its queue; no word spells one (log 33). -/
def State.withFetchWord (s : State) (nbits w : Nat) : State :=
  match decodeTableWord nbits w with
  | none => s
  | some c => s.setPending (c :: s.pending)

end Sys2Proof.Machine
end

