-- ==== Sys2Proof/Safety.lean ====
section
/-! DEFINITION. The vocabulary of the statements: a request at its port, the state that its response leaves, what
names a record, and the invariants of the blocks. -/

namespace Sys2Proof

/-- The command that brings a request to a port. -/
def Request.command (port : Port) : Request → Instr
  | .authorize charge heat chain target => .authorize port charge heat chain target
  | .cancel slot serial => .cancel port slot serial
  | .stop slot serial => .stop port slot serial
  | .lookSession slot => .lookSession port slot
  | .collect slot serial => .collect port slot serial
  | .release slot serial => .release port slot serial
  | .pause slot serial => .pause port slot serial
  | .resume slot serial => .resume port slot serial
  | .markComplete slot serial => .markComplete port slot serial
  | .setTarget slot serial target => .setTarget port slot serial target
  | .openAccount id kind balance limit holdStep => .openAccount port id kind balance limit holdStep
  | .adjust index id amount => .adjust port index id amount
  | .setLimit index id limit => .setLimit port index id limit
  | .setStep index id holdStep => .setStep port index id holdStep
  | .block index id => .block port index id
  | .unblock index id => .unblock port index id
  | .closeAccount index id => .closeAccount port index id
  | .lookAccount index => .lookAccount port index
  | .writeBand band chain start chargeRate heatRate occupancyRate cap next => .writeBand port band chain start chargeRate heatRate occupancyRate cap next
  | .freeBand band => .freeBand port band
  | .sealChain chain id => .sealChain port chain id
  | .unsealChain chain id => .unsealChain port chain id
  | .lookBand band => .lookBand port band
  | .lookChain chain => .lookChain port chain
  | .lookCalendar => .lookCalendar port
  | .setCalendar minute => .setCalendar port minute
  | .setLifetime minutes => .setLifetime port minutes
  | .setZone zone mode target rated => .setZone port zone mode target rated
  | .driveZone zone drive => .driveZone port zone drive
  | .restoreZone zone => .restoreZone port zone
  | .setAdmission count entries => .setAdmission port count entries
  | .setHeating share budget preheat => .setHeating port share budget preheat
  | .lookZone zone => .lookZone port zone
  | .lookPlan => .lookPlan port
  | .setIsolation warning trip persistence autoLocalize dwell => .setIsolation port warning trip persistence autoLocalize dwell
  | .retireFault key => .retireFault port key
  | .lookFault key => .lookFault port key
  | .testFaults mask filter => .testFaults port mask filter
  | .localize key => .localize port key
  | .cancelLocalize => .cancelLocalize port
  | .lookSupply => .lookSupply port
  | .lookMeter => .lookMeter port
  | .setAttention mask => .setAttention port mask
  | .readAttention => .readAttention port
  | .clearAttention mask => .clearAttention port mask
  | .warmReset => .warmReset port

namespace Machine

/-! ### A request at its port (R171, R173, R174) -/

/-- The port executes a request at once: it has started, and no response is held or going out (R171, R174). -/
def Ready : Port → State → Prop
  | .cp, s => s.portsStarted = true ∧ s.control.buffer = none
  | .bp, s => s.portsStarted = true ∧ s.billing.ignoring = false ∧ s.billing.assembly = none ∧ s.billing.sending = none

/-- The state `t` with a response on a port, after a request of `n` parameter bytes: on the Control Port it is in the
buffer and fillers have gone out, on the Billing Port its bytes are going out (R171, R174). -/
def answered (p : Port) (n : Nat) (r : Response) (t : State) : State :=
  match p with
  | .cp => { t with control := { t.control with buffer := some r, shifted := List.replicate (n + 3) 0xFF } }
  | .bp => { t with billing := { t.billing with sending := some (r.frame t.billing.overrun) } }

/-- A request is executed: the command answers a next state, the response goes out on its port, and the rest of the
part is as `t`. -/
def Executes (p : Port) (r : Request) (result : ResultCode) (data : List Byte) (s t : State) : Prop :=
  exec (r.command p) s = .next (answered p r.params.length ⟨result, r.code, data⟩ t)

/-- The byte that names record or code `v`. -/
def index (v : Nat) : Byte := BitVec.ofNat 8 v

/-- A slot and serial name the session of slot `i` (R5). -/
def NamesSession (s : State) (slot : Byte) (serial : BitVec 16) (i : Fin 8) : Prop :=
  slot = index i.val ∧ serial ≠ 0 ∧ (s.session i).state ≠ .free ∧ (s.session i).serial = serial.toNat

/-- An index and id name the account of index `a` (R30). -/
def NamesAccount (s : State) (b : Byte) (id : BitVec 32) (a : Fin 16) : Prop :=
  b = index a.val ∧ id ≠ 0 ∧ (s.account a).state ≠ .free ∧ (s.account a).id = id.toNat

/-- The blocks beside the sessions, the plan, the heating, the monitor, the Localizer and the attention causes are the
same in two states: what a change of a session's reasons or state never reaches (R9, R121, R167). -/
def SameOutside (s t : State) : Prop :=
  t.accounts = s.accounts ∧ t.tariff = s.tariff ∧ t.meter = s.meter ∧ t.supply = s.supply ∧
  t.portsStarted = s.portsStarted ∧ t.control = s.control ∧ t.billing = s.billing ∧ t.choices = s.choices ∧
  t.freeCount = s.freeCount ∧ t.pending = s.pending

/-- Every session but that of slot `i` is the same in two states, and so are the queue and the serial counter. -/
def OtherSessionsSame (i : Fin 8) (s t : State) : Prop :=
  (∀ j, j ≠ i → t.session j = s.session j) ∧ t.sessions.queue = s.sessions.queue ∧
  t.sessions.nextSerial = s.sessions.nextSerial

/-! ### A localization's course (chapter 10) -/

/-- From `u` to `t` the localization of the warning of `rail` ends with `v`: the record takes the verdict, where a CHARGER
verdict stands, and a new revision, the Localizer is IDLE with the outcome, and LOCALIZE_DONE is posted (R149, R165). -/
def EndsLocalization (rail : Rail) (v : Verdict) (u t : State) : Prop :=
  let f := u.fault (warnKey rail)
  t.localizer = { u.localizer with
    state := .idle, target := none, suspect := none, stack := [], dwellCount := 0, readings := []
    lastOutcome := some (rail, v) } ∧
  t.fault (warnKey rail) = { f with
    revision := (f.revision + 1) % 256, verdict := if f.verdict = some .charger then some .charger else some v } ∧
  (∀ k, k ≠ warnKey rail → t.fault k = u.fault k) ∧
  t.attention.pendingCp.getLsbD 8 = true ∧ t.attention.pendingBp.getLsbD 8 = true

/-- From `p` to `q` a zone is withdrawn at once: its line is off, it is out of the placement order, and out of the entry of
the running slot and of every slot not yet begun, with the rating it was placed with; the other entries, the commands and
the budgets stay (R123). -/
def LeavesAtOnce (z : Fin 6) (p q : Planner) : Prop :=
  q = { p with plan := q.plan, heaterLines := p.heaterLines.set z false, order := p.order.erase z } ∧
  (p.state ≠ .running ∨ p.slot = none → q.plan = p.plan) ∧
  ∀ now, p.state = .running → p.slot = some now → ∀ k : Fin 16,
    (k < now → q.plan[k] = p.plan[k]) ∧
    (now ≤ k → (p.plan[k]).zones[z] = none → q.plan[k] = p.plan[k]) ∧
    ∀ w, now ≤ k → (p.plan[k]).zones[z] = some w → q.plan[k] = { p.plan[k] with
      zones := (p.plan[k]).zones.set z none, heaterPower := (p.plan[k]).heaterPower - w }

/-- From `u` to `t` the localization of the warning of `rail` makes its next step with `stack`, bottom first: the top
energizable suspect is under test and withdrawn, those above it are dropped, and with none energizable the verdict is
PACK_SIDE (R123, R162, R165). -/
def TakesNextStep (rail : Rail) (stack : List Suspect) (u t : State) : Prop :=
  (t.sessions = u.sessions ∧ t.accounts = u.accounts ∧ t.tariff = u.tariff ∧ t.meter = u.meter ∧
    t.supply = u.supply ∧ t.control = u.control ∧ t.billing = u.billing ∧ t.pending = u.pending) ∧
  ((∀ x ∈ stack, energizable u x = false) →
    EndsLocalization rail .packSide u t ∧ t.planner = u.planner ∧ t.heating = u.heating) ∧
  ∀ below x above, stack = below ++ [x] ++ above → energizable u x = true → (∀ y ∈ above, energizable u y = false) →
    t.localizer = { u.localizer with
      state := .dwell, target := some rail, suspect := some x, stack := below, dwellCount := 0, readings := []
      stepLength := u.isolation.settings.dwell } ∧
    t.isolation = u.isolation ∧ t.attention = u.attention ∧
    (∀ z, x = .zone z → LeavesAtOnce z u.planner t.planner ∧
      t.heating = (u.setZone z { u.zone z with underTest := true, demand := 0, granted := 0 }).heating) ∧
    (x = .charger → t.heating = u.heating ∧ t.planner = u.planner.withdrawCharger)

/-- The state in which a suspect is out of test: a zone's mark cleared and its demand recomputed, no suspect named
(R164, R167). -/
def released (x : Suspect) (u : State) : State :=
  let freed := match x with
    | .charger => u
    | .zone z =>
      let r := { u.zone z with underTest := false }
      u.setZone z { r with demand := demandOf (liveCold u) u.heating.preheat r }
  freed.setLocalizer { u.localizer with suspect := none }

/-! ### Invariants -/

/-- The outputs are off: every Heater Drive line, the charger command last sent, and the Request Line (R124). -/
def OutputsOff (s : State) : Prop :=
  (∀ z : Fin 6, s.planner.heaterLines[z] = false) ∧ s.planner.lastCommand = 0 ∧ s.supply.requestLine = false

/-- The planner runs only on a good link with no trip record non-FREE, and drives nothing while it does not run
(R109, R124, R125). -/
def PlannerSafe (s : State) : Prop :=
  (s.planner.state = .running → s.meter.state.isGood = true ∧ tripHeld s = false) ∧
  (s.planner.state ≠ .running → OutputsOff s)

/-- The mW-frames of an energy field (R66). -/
def Energy.total (e : Energy) : Nat := e.wh * Config.framesPerWh + e.rem

/-- Supply energy equals charge energy plus heat energy, exactly, in every session (R66). -/
def EnergyBalanced (s : State) : Prop :=
  ∀ i, (s.session i).supplyEnergy.total = (s.session i).chargeEnergy.total + (s.session i).heatEnergy.total

/-- The sum of the rated powers of the zones on in an entry (R108). -/
def PlanEntry.ratedSum (e : PlanEntry) : Nat := (e.zones.toList.map fun z => z.getD 0).sum

/-- In every entry of the plan heater power plus charger command is within the slot budget, and the heater power is
that of the zones on (R108, R116); a zone in a slot not yet begun is in the placement order (R115, R120). -/
def PlanSound (s : State) : Prop :=
  (∀ k : Fin 16, (s.planner.plan[k]).heaterPower + (s.planner.plan[k]).command ≤ (s.planner.plan[k]).budget ∧
    (s.planner.plan[k]).heaterPower = (s.planner.plan[k]).ratedSum) ∧
  (∀ now, s.planner.state = .running → s.planner.slot = some now →
    ∀ k : Fin 16, now < k → ∀ z : Fin 6, (s.planner.plan[k]).holds z = true → z ∈ s.planner.order) ∧
  s.heating.share ≤ 100

/-- The authorization queue holds every AUTHORIZED session exactly once, and no other (R4). -/
def QueueExact (s : State) : Prop :=
  s.sessions.queue.Nodup ∧ ∀ i, i ∈ s.sessions.queue ↔ (s.session i).state = .authorized

/-- At most one session is live or CLOSING, and only while the supply is not UNPLUGGED (R2, R21). -/
def OneHoldsInlet (s : State) : Prop :=
  (∀ i j, (s.session i).state.accrues = true → (s.session j).state.accrues = true → i = j) ∧
  (∀ i, (s.session i).state.accrues = true → s.supply.state ≠ .unplugged)

/-- The state of each session agrees with its pause reasons (R2, R9). -/
def ReasonsFollow (s : State) : Prop :=
  ∀ i, match (s.session i).state with
    | .active => (s.session i).reasons = .empty
    | .paused => (s.session i).reasons ≠ .empty
    | .complete => True
    | .free => (s.session i).reasons = .empty
    | .authorized => (s.session i).reasons = .empty
    | .closing => (s.session i).reasons = .empty
    | .closed => (s.session i).reasons = .empty

/-- A session counts against its accounts while it is not FREE (R28). -/
def Session.names (r : Session) (a : Fin 16) : Bool :=
  r.state != .free && (r.chargeAccount == a || r.heatAccount == some a)

/-- The hold a session keeps against an account, by both roles (R28). -/
def Session.holdAgainst (r : Session) (a : Fin 16) : Nat :=
  if r.state = .free ∨ r.state = .closed then 0
  else (if r.chargeAccount = a then r.chargeHold else 0) + (if r.heatAccount = some a then r.heatHold.getD 0 else 0)

/-- Held is the sum of the holds, the session count the number of sessions that name the account, and an account that
sessions name is not FREE (R28); a session's two accounts differ, and it has a heat hold exactly when it has a heat
account (R1). -/
def LedgerExact (s : State) : Prop :=
  (∀ a, (s.account a).held = ((List.finRange 8).map fun i => (s.session i).holdAgainst a).sum ∧
    (s.account a).sessionCount = (List.finRange 8).countP (fun i => (s.session i).names a) ∧
    (0 < (s.account a).sessionCount → (s.account a).state ≠ .free)) ∧
  (∀ i, (s.session i).heatAccount ≠ some (s.session i).chargeAccount ∧
    ((s.session i).heatHold.isSome = (s.session i).heatAccount.isSome))

/-- A session is bound to a chain while AUTHORIZED, live or CLOSING (R52). -/
def Session.boundTo (r : Session) (c : Fin 4) : Bool := (r.state == .authorized || r.state.accrues) && r.chain == c

/-- A chain's lock count is the number of sessions bound to it, and a locked chain is SEALED (R52). -/
def LocksExact (s : State) : Prop :=
  ∀ c, (s.chain c).lockCount = (List.finRange 8).countP (fun i => (s.session i).boundTo c) ∧
    (0 < (s.chain c).lockCount → (s.chain c).state = .sealed)

/-- The localizer record is as R159 says, with its ranges and that of the dwell setting it copies (R143), and exactly the
zone under test carries the mark (R138, R159). -/
def LocalizerSound (s : State) : Prop :=
  (match s.localizer.state with
    | .idle => s.localizer.target = none ∧ s.localizer.suspect = none ∧ s.localizer.dwellCount = 0 ∧
        s.localizer.readings = [] ∧ s.localizer.stack = []
    | .dwell => s.localizer.target.isSome = true ∧ s.localizer.suspect.isSome = true ∧
        s.localizer.dwellCount < s.localizer.stepLength ∧
        s.localizer.stack.Nodup ∧ ∀ x ∈ s.localizer.suspect, x ∉ s.localizer.stack) ∧
  s.localizer.readings.length ≤ 4 ∧ 8 ≤ s.localizer.stepLength ∧ s.localizer.stepLength ≤ 64 ∧
  8 ≤ s.isolation.settings.dwell ∧ s.isolation.settings.dwell ≤ 64 ∧
  ∀ z, (s.zone z).underTest = true ↔ s.localizer.suspect = some (.zone z)

/-- The Offer Monitor's record is as R92, R96, R98, R99 and R105 say. -/
def SupplySound (s : State) : Prop :=
  s.supply.state = supplyOf s.supply.level s.supply.offered ∧
  (s.supply.candidate = none ↔ s.supply.classCount = 0) ∧ s.supply.classCount ≤ 3 ∧
  s.supply.candidate ≠ some s.supply.level ∧
  s.supply.noOffer ≤ 3 ∧ (s.supply.noOffer = 3 → s.supply.offered = none) ∧
  s.supply.run.length ≤ 3 ∧ (∀ v ∈ s.supply.run, v ≤ 800) ∧ (∀ v ∈ s.supply.offered, v ≤ 800) ∧
  (s.supply.requestLine = true → s.supply.state = .plugged ∨ s.supply.state = .offering)

/-- The link record is as R81 says. -/
def MeterSound (s : State) : Prop :=
  (match s.meter.state with
    | .searching => s.meter.heldCount = 0 ∧ s.meter.goodCount = 0 ∧ s.meter.frame = none ∧ s.meter.lost = none
    | .synced => s.meter.heldCount = 0 ∧ s.meter.goodCount = 0 ∧ s.meter.frame.isSome = true ∧ s.meter.lost = none
    | .holding => 1 ≤ s.meter.heldCount ∧ s.meter.heldCount ≤ 4 ∧ s.meter.goodCount = 0 ∧
        s.meter.frame.isSome = true ∧ s.meter.lost = none
    | .lost => s.meter.heldCount = 5 ∧ s.meter.goodCount = 0 ∧ s.meter.frame.isSome = true
    | .recovering => s.meter.heldCount = 0 ∧ s.meter.goodCount ≤ 2 ∧ s.meter.frame.isSome = true) ∧
  (∀ ws ∈ s.meter.assembly, ws.length ≤ 14) ∧ s.meter.overdue ≤ Config.overdueAfterFrame ∧
  ∀ us ∈ s.meter.lost, us ≤ Config.lostPeriod

/-- The ports' records are as R171 to R174 and R180 say: an overrun mark on the Control Port only beside a held response,
on the Billing Port only while a response that carries it goes out or is still to go out; at most four frames waiting,
and only behind a transmission; a frame in assembly short of its length; nothing at all before the start completes. -/
def PortsSound (s : State) : Prop :=
  (s.control.buffer = none → s.control.overrun = false) ∧ s.billing.waiting.length ≤ 4 ∧
  (s.billing.sending = none → s.billing.waiting = []) ∧
  (s.billing.overrun = true →
    s.billing.waiting ≠ [] ∨ ∃ sent ∈ s.billing.sending, (sent.headD 0).getLsbD 7 = true) ∧
  (∀ ws ∈ s.billing.assembly, ws ≠ [] ∧ s.billing.ignoring = false ∧
    (2 ≤ ws.length → (ws.getD 1 0).toNat ≤ 60 ∧ ws.length < 3 + (ws.getD 1 0).toNat)) ∧
  (s.portsStarted = false → s.control.buffer = none ∧ s.billing = ⟨none, false, [], none, false⟩)

/-- The calendar is UNSET exactly while the minute timer is stopped, and then no session exists; the ranges of the
calendar, the lifetime and the serial counter (R3, R54, R58). -/
def CalendarSound (s : State) : Prop :=
  (s.tariff.calendar = none ↔ s.tariff.minuteTimer = none) ∧
  (s.tariff.calendar = none → ∀ i, (s.session i).state = .free) ∧
  (∀ m ∈ s.tariff.calendar, m < 10080) ∧ s.tariff.lifetime ≤ 1440 ∧
  1 ≤ s.sessions.nextSerial ∧ s.sessions.nextSerial ≤ 65535

end Machine

end Sys2Proof
end

