-- ==== Sys2Proof/Certificates/Slice0/Obligations.lean ====
section
/-! DEFINITION. The statements for the provers, chapter by chapter: the queue and the ports, sessions, accounts,
tariffs, accrual and meter link, supply, planner and heating, isolation and localization, attention and resets, and
the invariants that every step keeps. -/

section

open Sys2Proof Sys2Proof.Machine

/-! ### The queue of commands -/

/-- A step takes the command at the front of the queue and executes it on the state with the queue's rest. -/
def Obligations.StepTakesTheFrontCommand : Prop :=
  ∀ (c : Instr) (rest : List Instr) (s : State),
    step { s with pending := c :: rest } = exec c { s with pending := rest }

/-! ### Frames and ports (chapter 11) -/

/-- The frame of every request spells that request; its bytes sum to 0, and it is three bytes longer than its
parameters, which are at most 60. -/
def Obligations.RequestFramesRoundTrip : Prop :=
  ∀ r : Request, parseFrame r.frame = some r ∧ byteSum r.frame = 0 ∧
    r.frame.length = r.params.length + 3 ∧ r.params.length ≤ 60

/-- A request command is its frame: the transaction of its bytes on the Control Port, its bytes one by one on the
Billing Port, from every state. That a request row of the command table stands for its frame arriving so is the model's
reading (log 19). -/
def Obligations.RequestCommandIsItsFrame : Prop :=
  ∀ (r : Request) (s : State),
    exec (r.command .cp) s = exec (.cpRequestTransaction r.frame) s ∧
    exec (r.command .bp) s = .next (r.frame.foldl takeByte s) ∧
    ∀ b, exec (.bpByteReceived b) s = .next (takeByte s b)

/-- A port that is ready executes every request at once and answers it, with the echoed code; a request that the
permission table admits is answered by its owner; one that is not answered OK changes nothing but the port's response
and carries data only for BAD_CHAIN. -/
def Obligations.ReadyPortAnswersEveryRequest : Prop :=
  ∀ (p : Port) (r : Request) (s : State), Ready p s →
    Executes p r (answer p r s).result (answer p r s).data s (answer p r s).state ∧
    (permitted p r = true → answer p r s = serve p s r) ∧
    ((answer p r s).result ≠ .ok → (answer p r s).state = s ∧
      ((answer p r s).result ≠ .badChain → (answer p r s).data = []))

/-- The permission table: by request code, what each port refuses, and the refusal is DENIED without effect. -/
def Obligations.PermissionTable : Prop :=
  (∀ r : Request, permitted .cp r = false ↔
    r.code.toNat ∈ [1, 16, 17, 18, 19, 20, 21, 22, 32, 33, 34, 35]) ∧
  (∀ r : Request, permitted .bp r = false ↔
    r.code.toNat ∈ [7, 8, 9, 10, 39, 40, 48, 49, 50, 51, 52, 80, 81, 84, 85, 120]) ∧
  ∀ (p : Port) (r : Request) (s : State), permitted p r = false → Ready p s → Executes p r .denied [] s s

/-- A request transaction on the Control Port: without bytes nothing; with a response held, the overrun mark alone;
otherwise a malformed frame is answered MALFORMED with its first byte, and any other is executed as the request it
spells. Which frames are malformed: too short, a byte count other than the length plus 3, a sum other than 0, an
unknown code, a length other than the request's. A fetch of `n` bytes: the filler while the fetch code comes in, then
NOT_READY and fillers from an empty buffer, or the held response and fillers; a fetch that has shifted out every byte
of the response empties the buffer and clears the overrun mark, a shorter one leaves both. -/
def Obligations.ControlPortTransactions : Prop :=
  (∀ s : State, exec (.cpRequestTransaction []) s = .next s) ∧
  (∀ (bytes : List Byte) (s : State), bytes ≠ [] → bytes.head? ≠ some 0 → s.portsStarted = true →
    (s.control.buffer.isSome = true → exec (.cpRequestTransaction bytes) s = .next { s with
      control := { s.control with overrun := true, shifted := List.replicate bytes.length (0xFF : Byte) } }) ∧
    (s.control.buffer = none → parseFrame bytes = none → exec (.cpRequestTransaction bytes) s = .next { s with
      control := { s.control with
        buffer := some ⟨.malformed, bytes.headD 0, []⟩, shifted := List.replicate bytes.length (0xFF : Byte) } }) ∧
    (∀ r, s.control.buffer = none → parseFrame bytes = some r →
      exec (.cpRequestTransaction bytes) s = exec (r.command .cp) s)) ∧
  (∀ bytes : List Byte, (parseFrame bytes).isSome = true ↔
    3 ≤ bytes.length ∧ bytes.length = (bytes.getD 1 0).toNat + 3 ∧ byteSum bytes = 0 ∧
    paramLength (bytes.getD 0 0) = some (bytes.getD 1 0).toNat) ∧
  ∀ (n : Nat) (s : State), 1 ≤ n → s.portsStarted = true →
    (s.control.buffer = none → exec (.cpFetchTransaction n) s = .next { s with
      control := { s.control with shifted := ([0xFF, 0xFE] ++ List.replicate n (0xFF : Byte)).take n } }) ∧
    ∀ r, s.control.buffer = some r →
      exec (.cpFetchTransaction n) s = .next { s with control :=
        { shifted := ([0xFF] ++ r.frame s.control.overrun ++ List.replicate n (0xFF : Byte)).take n
          buffer := if (r.frame s.control.overrun).length + 1 ≤ n then none else some r
          overrun := if (r.frame s.control.overrun).length + 1 ≤ n then false else s.control.overrun } }

/-- Bytes on the Billing Port once it has started: ignored while ignoring; otherwise added to the frame, which is
discarded and answered MALFORMED at a length above 60, and complete at its length plus 3. A framing error discards the
frame in assembly and does nothing outside one; a gap ends the assembly and the ignoring. -/
def Obligations.BillingPortAssembly : Prop :=
  (∀ (b : Byte) (s : State), s.portsStarted = true → s.billing.ignoring = true →
    exec (.bpByteReceived b) s = .next s) ∧
  (∀ (b : Byte) (ws : List Byte) (s : State), s.portsStarted = true → s.billing.ignoring = false →
    s.billing.assembly.getD [] ++ [b] = ws →
    (ws.length ≤ 1 ∨ (ws.length = 2 ∧ b.toNat ≤ 60) ∨ (3 ≤ ws.length ∧ ws.length < (ws.getD 1 0).toNat + 3) →
      exec (.bpByteReceived b) s = .next { s with billing := { s.billing with assembly := some ws } }) ∧
    (ws.length = 2 → 60 < b.toNat → exec (.bpByteReceived b) s = .next (completeItem (.malformed (ws.headD 0))
      { s with billing := { s.billing with assembly := none, ignoring := true } })) ∧
    (3 ≤ ws.length → (ws.getD 1 0).toNat + 3 ≤ ws.length → exec (.bpByteReceived b) s = .next (completeItem (.frame ws)
      { s with billing := { s.billing with assembly := none } }))) ∧
  (∀ s : State, s.portsStarted = true →
    (s.billing.assembly = none → exec .bpFramingError s = .next s) ∧
    ∀ ws, s.billing.assembly = some ws → exec .bpFramingError s = .next (completeItem (.malformed (ws.headD 0))
      { s with billing := { s.billing with assembly := none, ignoring := true } })) ∧
  ∀ s : State, exec .bpGapTimeout s = .next { s with billing := { s.billing with assembly := none, ignoring := false } }

/-- What a completed frame does: taken at once with nothing going out, appended to the list of at most four, or dropped
with the overrun mark set. What taking it does: its response, or a MALFORMED one, goes out with the overrun mark as it
stands. What the end of a transmission does: the overrun mark that it carried clears, and the oldest waiting frame is
taken. The clearing of a mark set again meanwhile is the model's reading (log 31), and that a transmission end with
nothing going out changes nothing is its choice (log 18). -/
def Obligations.BillingPortListAndTransmission : Prop :=
  (∀ (i : BillingItem) (s : State),
    (s.billing.sending = none → completeItem i s = takeItem i s) ∧
    (s.billing.sending ≠ none → s.billing.waiting.length < 4 → completeItem i s =
      { s with billing := { s.billing with waiting := s.billing.waiting ++ [i] } }) ∧
    (s.billing.sending ≠ none → 4 ≤ s.billing.waiting.length → completeItem i s =
      { s with billing := { s.billing with overrun := true } })) ∧
  (∀ (echo : Byte) (s : State), takeItem (.malformed echo) s =
    { s with billing := { s.billing with sending := some (Response.frame s.billing.overrun ⟨.malformed, echo, []⟩) } }) ∧
  (∀ (bytes : List Byte) (s : State),
    (parseFrame bytes = none → takeItem (.frame bytes) s = takeItem (.malformed (bytes.headD 0)) s) ∧
    ∀ r, parseFrame bytes = some r → ∃ t, t = (answer .bp r s).state ∧ takeItem (.frame bytes) s =
      { t with billing := { t.billing with
        sending := some (Response.frame t.billing.overrun ⟨(answer .bp r s).result, r.code, (answer .bp r s).data⟩) } }) ∧
  (∀ s : State, s.billing.sending = none → exec .bpTransmissionEnd s = .next s) ∧
  ∀ (s : State) (sent : List Byte), s.billing.sending = some sent →
    (s.billing.waiting = [] → exec .bpTransmissionEnd s = .next { s with billing := { s.billing with
      sending := none, overrun := s.billing.overrun && !(sent.headD 0).getLsbD 7 } }) ∧
    ∀ i rest, s.billing.waiting = i :: rest → exec .bpTransmissionEnd s = .next (takeItem i { s with
      billing := { s.billing with
        sending := none, waiting := rest, overrun := s.billing.overrun && !(sent.headD 0).getLsbD 7 } })

/-- The response frame: status byte with the overrun mark in bit 7, echoed code, data length, data, and a check byte
that makes the sum 0. The session record layout of 77 bytes and the
fault record layout of 14 bytes: each field at its place, with the presence mask that marks the optional ones. -/
def Obligations.ResponseFramesAndRecordLayouts : Prop :=
  (∀ (overrun : Bool) (r : Response), ∃ check,
    r.frame overrun = [statusByte overrun r.result, r.code, BitVec.ofNat 8 r.data.length] ++ r.data ++ [check] ∧
    byteSum (r.frame overrun) = 0 ∧ (statusByte overrun r.result).getLsbD 7 = overrun ∧
    ((statusByte overrun r.result).setWidth 7).toNat = r.result.code) ∧
  (∀ (slot : Fin 8) (r : Session), (sessionBytes slot r).length = 77 ∧
    ∀ f ∈ [(0, byte slot.val), (1, half r.serial), (3, byte r.state.code), (4, byte r.reasons.code),
      (5, half (mask [r.heatAccount.isSome, r.heatHold.isSome, r.currentBand.isSome, r.energyTarget.isSome,
        r.queuedMinutes.isSome, r.liveMinute.isSome, r.endMinute.isSome, r.closeReason.isSome, r.collectedBy.isSome])),
      (7, byte r.chargeAccount.val), (8, byte ((r.heatAccount.map Fin.val).getD 0)), (9, byte r.chain.val),
      (10, byte ((r.currentBand.map Fin.val).getD 0)), (11, quad (r.energyTarget.getD 0)), (15, half r.authorizedMinute),
      (17, half ((r.queuedMinutes.getD 0 : Nat))), (19, half ((r.liveMinute.getD 0 : Nat))),
      (21, half ((r.endMinute.getD 0 : Nat))),
      (23, quad r.supplyEnergy.wh), (27, quad r.supplyEnergy.rem), (31, quad r.chargeEnergy.wh),
      (35, quad r.chargeEnergy.rem), (39, quad r.heatEnergy.wh), (43, quad r.heatEnergy.rem),
      (47, money r.chargeHold), (52, money ((r.heatHold.getD 0 : Nat))), (57, money r.chargeCost), (62, money r.heatCost),
      (67, quad r.occupancyMinutes), (71, quad r.heldFrames),
      (75, byte ((r.closeReason.map CloseReason.code).getD 0)), (76, byte ((r.collectedBy.map portCode).getD 0))],
      ((sessionBytes slot r).drop f.1).take f.2.length = f.2) ∧
  ∀ (k : Fin 12) (f : FaultRecord), (faultBytes k f).length = 14 ∧
    ∀ g ∈ [(0, byte k.val), (1, byte f.state.code), (2, byte f.occurrences), (3, byte f.revision),
      (4, byte (mask [f.firstMinute.isSome, f.firstReading.isSome, f.worstReading.isSome, f.verdict.isSome,
        f.seenCp.isSome, f.seenBp.isSome])),
      (5, half ((f.firstMinute.getD 0 : Nat))), (7, half ((f.firstReading.getD 0 : Nat))),
      (9, half ((f.worstReading.getD 0 : Nat))), (11, byte ((f.verdict.map Verdict.code).getD 0)),
      (12, byte (f.seenCp.getD 0)), (13, byte (f.seenBp.getD 0))],
      ((faultBytes k f).drop g.1).take g.2.length = g.2

/-! ### Charging sessions (chapter 1) -/

/-- AUTHORIZE whose checks all pass: the lowest FREE slot takes the new record with the serial counter's value, each
account a hold of one step and a session, the chain a lock, the queue its slot at the tail; the counter moves on. The
head of the queue then goes live if the supply is not UNPLUGGED and no session is live or CLOSING. -/
def Obligations.AuthorizeFillsTheLowestFreeSlot : Prop :=
  ∀ (s : State) (c : Fin 16) (heat : Option (Fin 16)) (k : Fin 4) (target : Option (BitVec 32)) (m : Nat) (i : Fin 8),
    Ready .bp s → heat ≠ some c → (∀ w ∈ target, 1 ≤ w.toNat ∧ w.toNat ≤ 1000000) →
    s.tariff.calendar = some m → (s.chain k).state = .sealed →
    (s.account c).state = .opened → (∀ h ∈ heat, (s.account h).state = .opened) →
    (s.session i).state = .free → (∀ j, j < i → (s.session j).state ≠ .free) →
    covers (s.account c) (s.account c).holdStep = true →
    (∀ h ∈ heat, covers (s.account h) (s.account h).holdStep = true) →
    let placed := s.setSession i { Session.free with
      serial := s.sessions.nextSerial, state := .authorized, chargeAccount := c, heatAccount := heat, chain := k
      energyTarget := target.map BitVec.toNat, authorizedMinute := m, queuedMinutes := some 0
      chargeHold := (s.account c).holdStep, heatHold := heat.map fun h => (s.account h).holdStep }
    let held := fun (t : State) (a : Fin 16) => t.setAccount a { t.account a with
      held := (t.account a).held + (t.account a).holdStep, sessionCount := (t.account a).sessionCount + 1 }
    let ledger := match heat with
      | none => held placed c
      | some h => held (held placed c) h
    let locked := ledger.setChain k { s.chain k with lockCount := (s.chain k).lockCount + 1 }
    let filled := locked.setSessions { placed.sessions with
      queue := s.sessions.queue ++ [i]
      nextSerial := if s.sessions.nextSerial < 65535 then s.sessions.nextSerial + 1 else 1 }
    let after := if s.supply.state ≠ .unplugged ∧ ∀ j, (s.session j).state.accrues = false then goLive filled else filled
    Executes .bp (.authorize (index c.val) (heat.map fun h => index h.val) (index k.val) target) .ok
      (byte i.val ++ half s.sessions.nextSerial ++ byte (after.session i).state.code) s after

/-- The refusals of AUTHORIZE, each changing nothing, in the order in which they are judged: fields, calendar, chain,
charge account, heat account, a free slot, funds for the holds. -/
def Obligations.AuthorizeRefusals : Prop :=
  (∀ (s : State) (charge : Byte) (heat : Option Byte) (chain : Byte) (target : Option (BitVec 32)), Ready .bp s →
    (16 ≤ charge.toNat ∨ (∃ h ∈ heat, 16 ≤ h.toNat ∨ h = charge) ∨ 4 ≤ chain.toNat ∨
      ∃ w ∈ target, w.toNat = 0 ∨ 1000000 < w.toNat) →
    Executes .bp (.authorize charge heat chain target) .badValue [] s s) ∧
  ∀ (s : State) (c : Fin 16) (heat : Option (Fin 16)) (k : Fin 4) (target : Option (BitVec 32)),
    Ready .bp s → heat ≠ some c → (∀ w ∈ target, 1 ≤ w.toNat ∧ w.toNat ≤ 1000000) →
    let refused := fun code => Executes .bp
      (.authorize (index c.val) (heat.map fun h => index h.val) (index k.val) target) code [] s s
    if s.tariff.calendar = none then refused .unset
    else if (s.chain k).state ≠ .sealed then refused .wrongState
    else if (s.account c).state = .free then refused .wrongState
    else if (s.account c).state = .blocked then refused .blocked
    else if ∃ h ∈ heat, (s.account h).state = .free then refused .wrongState
    else if ∃ h ∈ heat, (s.account h).state = .blocked then refused .blocked
    else if ∀ i, (s.session i).state ≠ .free then refused .tableFull
    else covers (s.account c) (s.account c).holdStep = false ∨
        (∃ h ∈ heat, covers (s.account h) (s.account h).holdStep = false) → refused .noFunds

/-- Going live: the head leaves the queue; its record takes the live minute, the band that covers the minute, the pause
reasons of the moment and the state they give, and loses its queued minutes; SESSION_LIVE is posted. With an empty
queue nothing changes. -/
def Obligations.GoingLive : Prop :=
  (∀ s : State, s.sessions.queue = [] → goLive s = s) ∧
  ∀ (s : State) (i : Fin 8) (rest : List (Fin 8)) (m : Nat),
    s.sessions.queue = i :: rest → s.tariff.calendar = some m →
    let r := s.session i
    let reasons : PauseReasons :=
      { host := false, credit := false
        cold := decide (admissionNow s = 0)
        offer := decide (s.supply.state = .plugged ∨ s.supply.state = .faulted)
        isolation := decide ((s.fault 2).state ≠ .free ∨ (s.fault 3).state ≠ .free ∨
          ((s.fault 0).state ≠ .free ∧ (s.fault 0).verdict = some .charger) ∨
          ((s.fault 1).state ≠ .free ∧ (s.fault 1).verdict = some .charger))
        meter := decide (s.meter.state ≠ .synced ∧ s.meter.state ≠ .holding) }
    goLive s = post .sessionLive ((s.setSessions { s.sessions with queue := rest }).setSession i { r with
      liveMinute := some m, queuedMinutes := none, currentBand := coveringBand s.tariff r.chain m, reasons := reasons
      state := if ∃ w ∈ r.energyTarget, w ≤ r.chargeEnergy.wh then .complete
        else if reasons = .empty then .active else .paused })

/-- Every request that names a session or an account: a slot, index, serial or id out of range is BAD_VALUE; a FREE
record, or one with another serial or id, is STALE; nothing changes. For the account requests this comes before their
own rule, so a limit or a step out of range is STALE too where the name is; for SET_TARGET it is said of the targets in
range (log 10). -/
def Obligations.RecordNamingRefusals : Prop :=
  (∀ (s : State) (p : Port) (slot : Byte) (serial : BitVec 16) (r : Request), Ready p s → permitted p r = true →
    (r ∈ [.cancel slot serial, .stop slot serial, .collect slot serial, .release slot serial, .pause slot serial,
      .resume slot serial, .markComplete slot serial] ∨
      ∃ w : BitVec 32, w.toNat ≤ 1000000 ∧ r = .setTarget slot serial w) →
    (8 ≤ slot.toNat ∨ serial = 0 → Executes p r .badValue [] s s) ∧
    ∀ i : Fin 8, slot = index i.val → serial ≠ 0 →
      (s.session i).state = .free ∨ (s.session i).serial ≠ serial.toNat → Executes p r .stale [] s s) ∧
  ∀ (s : State) (b : Byte) (id : BitVec 32) (r : Request), Ready .bp s →
    (r ∈ [.block b id, .unblock b id, .closeAccount b id] ∨ (∃ v, r = .adjust b id v) ∨
      (∃ v, r = .setLimit b id v) ∨ (∃ v, r = .setStep b id v)) →
    (16 ≤ b.toNat ∨ id = 0 → Executes .bp r .badValue [] s s) ∧
    ∀ a : Fin 16, b = index a.val → id ≠ 0 →
      (s.account a).state = .free ∨ (s.account a).id ≠ id.toNat → Executes .bp r .stale [] s s

/-- CANCEL voids an AUTHORIZED session: its accounts' held amounts and session counts fall, its chain loses a lock, it
leaves the queue, its record is FREE again and SESSION_VOID is posted. In any other state it is WRONG_STATE. -/
def Obligations.CancelVoidsAnAuthorizedSession : Prop :=
  ∀ (p : Port) (s : State) (slot : Byte) (serial : BitVec 16) (i : Fin 8),
    Ready p s → NamesSession s slot serial i →
    let r := s.session i
    let lowered := fun (t : State) (a : Fin 16) (hold : Nat) => t.setAccount a { t.account a with
      held := (t.account a).held - hold, sessionCount := (t.account a).sessionCount - 1 }
    let ledger := match r.heatAccount with
      | none => lowered s r.chargeAccount r.chargeHold
      | some h => lowered (lowered s r.chargeAccount r.chargeHold) h (r.heatHold.getD 0)
    let unlocked := ledger.setChain r.chain { s.chain r.chain with lockCount := (s.chain r.chain).lockCount - 1 }
    let freed := (unlocked.setSession i .free).setSessions
      { records := (s.setSession i .free).sessions.records
        queue := s.sessions.queue.erase i, nextSerial := s.sessions.nextSerial }
    (r.state = .authorized → Executes p (.cancel slot serial) .ok [] s (post .sessionVoid freed)) ∧
    (r.state ≠ .authorized → Executes p (.cancel slot serial) .wrongState [] s s)

/-- STOP moves a live session to CLOSING with the reason of its port and no pause reasons; the rest of its record, the
other sessions and everything outside the plan, the heating, the monitor, the Localizer and the attention causes stay.
The planner, the Localizer and the causes follow as at every change of the live session: one that has left ACTIVE
withdraws the charger, a lost grid standing cuts the budget to 0, and a charger under test is handed to the Localizer;
where none is, attention causes, heating, monitor and Localizer stay as well. At a STOP the standing is lost, so in a
GRID cycle every slot not yet begun is left with nothing; that a slot whose budget was 0 before holds nothing is the
plan's invariant, and zones rated 0 W are left out (log 35). A session that is not live gives WRONG_STATE. -/
def Obligations.StopMovesALiveSessionToClosing : Prop :=
  (∀ (p : Port) (s : State) (slot : Byte) (serial : BitVec 16) (i : Fin 8),
    Ready p s → NamesSession s slot serial i →
    let active := (s.session i).state = .active
    let onCharger := s.localizer.state = .dwell ∧ s.localizer.suspect = some .charger
    let stopped : Session := { s.session i with
      state := .closing, reasons := .empty
      closeReason := some (match p with | .cp => .stoppedControl | .bp => .stoppedBilling) }
    ((s.session i).state.isLive = true → ∃ t, Executes p (.stop slot serial) .ok (byte 5) s t ∧
      t = sessionChanged (decide active) (s.setSession i stopped) ∧
      SameOutside s t ∧ OtherSessionsSame i s t ∧ t.session i = stopped ∧
      (¬ (active ∧ onCharger) → t.attention = s.attention ∧ t.heating = s.heating ∧ t.isolation = s.isolation ∧
        t.localizer = s.localizer) ∧
      (active → s.planner.state = .running → ∀ now, s.planner.slot = some now →
        ∀ k, now < k → (t.planner.plan[k]).command = 0) ∧
      ((∀ j, j ≠ i → (s.session j).state.isLive = false) →
        (¬ (active ∧ onCharger) →
          t.planner = (if active then s.planner.withdrawCharger else s.planner).cut 0) ∧
        (s.planner.source = some .grid → s.planner.state = .running → ∀ now, s.planner.slot = some now →
          ∀ k, now < k → (t.planner.plan[k]).budget = 0 ∧
            (PlanSound s → (t.planner.plan[k]).heaterPower = 0 ∧ (t.planner.plan[k]).command = 0)))) ∧
    ((s.session i).state.isLive = false → Executes p (.stop slot serial) .wrongState [] s s)) ∧
  ∀ (left : Bool) (s : State),
    let withdrawn := if left then s.planner.withdrawCharger else s.planner
    let stands := ∃ i, liveSlot s = some i ∧ (s.session i).reasons.offer = false ∧
      (((s.session i).state = .complete ∧ (s.session i).reasons.credit = false) ∨
        { (s.session i).reasons with cold := false } = PauseReasons.empty)
    ∃ planned, sessionChanged left s = (if left then localizerSessionLeft planned else planned) ∧
      (stands → planned = { s with planner := withdrawn }) ∧
      (¬ stands → planned = { s with planner := withdrawn.cut 0 })

/-- COLLECT returns the whole record of a CLOSED session as it stood and then marks it with the port; RELEASE from that
port frees the slot and lowers the session counts; without a COLLECT it is WRONG_STATE, after the other port's it is
STALE; a session that is not CLOSED gives WRONG_STATE to both. -/
def Obligations.CollectAndRelease : Prop :=
  ∀ (p : Port) (s : State) (slot : Byte) (serial : BitVec 16) (i : Fin 8),
    Ready p s → NamesSession s slot serial i →
    let r := s.session i
    let lowered := fun (t : State) (a : Fin 16) =>
      t.setAccount a { t.account a with sessionCount := (t.account a).sessionCount - 1 }
    let ledger := match r.heatAccount with
      | none => lowered s r.chargeAccount
      | some h => lowered (lowered s r.chargeAccount) h
    (r.state = .closed → Executes p (.collect slot serial) .ok (sessionBytes i r) s
      (s.setSession i { r with collectedBy := some p })) ∧
    (r.state = .closed → r.collectedBy = some p →
      Executes p (.release slot serial) .ok [] s (ledger.setSession i .free)) ∧
    (r.state = .closed → r.collectedBy = none → Executes p (.release slot serial) .wrongState [] s s) ∧
    (∀ q, r.state = .closed → r.collectedBy = some q → q ≠ p → Executes p (.release slot serial) .stale [] s s) ∧
    (r.state ≠ .closed → Executes p (.collect slot serial) .wrongState [] s s ∧
      Executes p (.release slot serial) .wrongState [] s s)

/-- PAUSE adds HOST to a live session's pause reasons and RESUME removes it, the state following (ACTIVE without
reasons, PAUSED with any, COMPLETE as it is); SESSION_PAUSED is posted when the session leaves ACTIVE, and planner and
Localizer follow the change (sessionChanged, said at STOP). A reason already as asked changes nothing. A session that is
not live gives WRONG_STATE. -/
def Obligations.PauseAndResume : Prop :=
  ∀ (s : State) (slot : Byte) (serial : BitVec 16) (i : Fin 8),
    Ready .cp s → NamesSession s slot serial i →
    (∀ (on : Bool) (q : Request), q = (if on then .pause slot serial else .resume slot serial) →
      ((s.session i).state.isLive = false → Executes .cp q .wrongState [] s s) ∧
      ((s.session i).state.isLive = true → ∃ t,
        Executes .cp q .ok (byte (t.session i).state.code ++ byte (t.session i).reasons.code) s t ∧
        SameOutside s t ∧ OtherSessionsSame i s t ∧
        ((s.session i).reasons.host = on → t = s) ∧
        ((s.session i).reasons.host ≠ on →
          let changed : Session := { s.session i with
            reasons := { (s.session i).reasons with host := on }
            state := if (s.session i).state = .complete then .complete
              else if ({ (s.session i).reasons with host := on } : PauseReasons) = .empty then .active else .paused }
          let left := (s.session i).state = .active ∧ changed.state = .paused
          t.session i = changed ∧
          t = sessionChanged (decide left)
            (if left then post .sessionPaused (s.setSession i changed) else s.setSession i changed) ∧
          (left → t.attention.pendingCp.getLsbD 2 = true ∧ t.attention.pendingBp.getLsbD 2 = true))))

/-- MARK_COMPLETE completes an ACTIVE or PAUSED session, its reasons kept, and leaves a COMPLETE one as it is.
SET_TARGET on an AUTHORIZED session writes the target; on a live one it also judges the state afresh: COMPLETE where
the charge energy has reached the target, else ACTIVE or PAUSED by the reasons. Planner and Localizer follow either change
(sessionChanged, said at STOP). Any other state is WRONG_STATE, and a target above 1,000,000 is BAD_VALUE, whatever
session is named (log 10). -/
def Obligations.MarkCompleteAndSetTarget : Prop :=
  (∀ (s : State) (slot : Byte) (serial : BitVec 16) (target : BitVec 32), Ready .cp s → 1000000 < target.toNat →
    Executes .cp (.setTarget slot serial target) .badValue [] s s) ∧
  ∀ (s : State) (slot : Byte) (serial : BitVec 16) (target : BitVec 32) (i : Fin 8),
    Ready .cp s → NamesSession s slot serial i → target.toNat ≤ 1000000 →
    let r := s.session i
    let wanted := if target.toNat = 0 then none else some target.toNat
    (r.state = .active ∨ r.state = .paused → ∃ t, Executes .cp (.markComplete slot serial) .ok [] s t ∧
      t = sessionChanged (decide (r.state = .active)) (s.setSession i { r with state := .complete }) ∧
      SameOutside s t ∧ OtherSessionsSame i s t ∧ t.session i = { r with state := .complete }) ∧
    (r.state = .complete → Executes .cp (.markComplete slot serial) .ok [] s s) ∧
    (r.state.isLive = false → Executes .cp (.markComplete slot serial) .wrongState [] s s) ∧
    (r.state = .authorized → Executes .cp (.setTarget slot serial target) .ok [] s
      (s.setSession i { r with energyTarget := wanted })) ∧
    (r.state.isLive = true → ∃ t, Executes .cp (.setTarget slot serial target) .ok [] s t ∧
      let judged := { r with
        energyTarget := wanted
        state := if ∃ w ∈ wanted, w ≤ r.chargeEnergy.wh then .complete
          else if r.reasons = .empty then .active else .paused }
      t = sessionChanged (decide (r.state = .active ∧ judged.state ≠ .active)) (s.setSession i judged) ∧
      SameOutside s t ∧ OtherSessionsSame i s t ∧ t.session i = judged) ∧
    (r.state = .closing ∨ r.state = .closed → Executes .cp (.setTarget slot serial target) .wrongState [] s s)

/-- A close: the record is CLOSED with its end minute and close reason, without pause reasons, band or holds; each
account is debited with what its hold covered, saturating, and loses the hold; the chain loses a lock;
SESSION_CLOSED is posted; nothing else changes. -/
def Obligations.SessionClose : Prop :=
  ∀ (reason : CloseReason) (i : Fin 8) (s : State) (m : Nat),
    s.tariff.calendar = some m → (s.session i).heatAccount ≠ some (s.session i).chargeAccount →
    let r := s.session i
    let t := closeRecord reason i s
    let debited := fun (a : Account) (cost hold : Nat) =>
      { a with balance := saturateMoney (a.balance - (cost : Int)), held := a.held - hold }
    t.session i = { r with
      state := .closed, reasons := .empty, currentBand := none, endMinute := some m
      closeReason := some (r.closeReason.getD reason), chargeHold := 0, heatHold := r.heatHold.map fun _ => 0 } ∧
    t.account r.chargeAccount = debited (s.account r.chargeAccount)
      (if r.heatAccount = none then r.chargeCost + r.heatCost else r.chargeCost) r.chargeHold ∧
    (∀ h, r.heatAccount = some h → t.account h = debited (s.account h) r.heatCost (r.heatHold.getD 0)) ∧
    (∀ a, a ≠ r.chargeAccount → r.heatAccount ≠ some a → t.account a = s.account a) ∧
    t.tariff = (s.setChain r.chain { s.chain r.chain with lockCount := (s.chain r.chain).lockCount - 1 }).tariff ∧
    t.attention = (post .sessionClosed s).attention ∧ OtherSessionsSame i s t ∧
    t.meter = s.meter ∧ t.supply = s.supply ∧ t.planner = s.planner ∧ t.heating = s.heating ∧
    t.isolation = s.isolation ∧ t.localizer = s.localizer ∧ t.control = s.control ∧ t.billing = s.billing ∧
    t.portsStarted = s.portsStarted ∧ t.choices = s.choices ∧ t.freeCount = s.freeCount ∧ t.pending = s.pending

/-! ### Accounts (chapter 2) -/

/-- The available amount: balance less held for PREPAID, plus the limit for CREDIT_LINE, without bound for DEPOT, where
it covers any amount; exact, and whatever the account's state. -/
def Obligations.AvailableAmount : Prop :=
  ∀ (a : Account) (need : Nat),
    (a.kind = some .prepaid → available a = some (a.balance - a.held) ∧
      (covers a need = true ↔ (need : Int) ≤ a.balance - a.held)) ∧
    (∀ l, a.kind = some .creditLine → a.limit = some l → available a = some (a.balance + l - a.held) ∧
      (covers a need = true ↔ (need : Int) ≤ a.balance + l - a.held)) ∧
    (a.kind = some .depot → available a = none ∧ covers a need = true) ∧
    ∀ st, available { a with state := st } = available a

/-- OPEN_ACCOUNT opens the lowest FREE record with the fields given and answers its index and available amount, in the form
that LOOK_ACCOUNT reports it in: that is the model's reading (log 34). It is BAD_VALUE for an id of 0, an unknown kind, a
hold step outside 1 to 2,000,000,000 or a limit that its kind does not take, DUPLICATE for an id in use, TABLE_FULL
without a FREE record. -/
def Obligations.OpenAccount : Prop :=
  (∀ (s : State) (id : BitVec 32) (kind : Byte) (balance limit holdStep : BitVec 40), Ready .bp s →
    (id = 0 ∨ 3 ≤ kind.toNat ∨ (kind = 1 ∧ limit.toInt < 0) ∨ (kind ≠ 1 ∧ limit ≠ 0) ∨ holdStep.toInt < 1 ∨
      2000000000 < holdStep.toInt) →
    Executes .bp (.openAccount id kind balance limit holdStep) .badValue [] s s) ∧
  ∀ (s : State) (id : BitVec 32) (kind : AccountKind) (balance limit holdStep : BitVec 40), Ready .bp s → id ≠ 0 →
    (if kind = .creditLine then 0 ≤ limit.toInt else limit = 0) → 1 ≤ holdStep.toInt → holdStep.toInt ≤ 2000000000 →
    let q := Request.openAccount id (index kind.code) balance limit holdStep
    ((∃ a, (s.account a).state ≠ .free ∧ (s.account a).id = id.toNat) → Executes .bp q .duplicate [] s s) ∧
    ((∀ a, (s.account a).state ≠ .free ∧ (s.account a).id ≠ id.toNat) → Executes .bp q .tableFull [] s s) ∧
    ∀ a, (∀ b, (s.account b).state ≠ .free → (s.account b).id ≠ id.toNat) →
      (s.account a).state = .free → (∀ b, b < a → (s.account b).state ≠ .free) →
      let r : Account :=
        { state := .opened, id := id.toNat, kind := some kind, balance := balance.toInt
          limit := if kind = .creditLine then some limit.toInt.toNat else none
          held := 0, holdStep := holdStep.toInt.toNat, sessionCount := 0 }
      Executes .bp q .ok (byte a.val ++ money (availableReport r)) s (s.setAccount a r)

/-- ADJUST moves the balance by the amount, saturating, and answers balance, available amount as LOOK_ACCOUNT reports it
(R32 itself says so; log 34 is of the other responses) and flags Z, N, V and C of the account as it then stands. A
balance that does not rise changes nothing else; one that rises is followed by the credit retry of the account, which
changes held amounts, holds and the live session, but no balance, limit, step, kind, id, state or session count, and no
block outside the hand-offs of a session's reasons. What the credit retry does is said at TopUp. -/
def Obligations.AdjustMovesTheBalance : Prop :=
  ∀ (s : State) (b : Byte) (id : BitVec 32) (amount : BitVec 40) (a : Fin 16),
    Ready .bp s → NamesAccount s b id a →
    let sum := (s.account a).balance + amount.toInt
    ∃ t, Executes .bp (.adjust b id amount) .ok (money (saturateMoney sum) ++ money (availableReport (t.account a)) ++
        byte (mask [decide (saturateMoney sum = 0), decide (saturateMoney sum < 0), decide (saturateMoney sum ≠ sum),
          match available (t.account a) with | none => false | some v => decide (v < 0)])) s t ∧
      (saturateMoney sum ≤ (s.account a).balance →
        t = s.setAccount a { s.account a with balance := saturateMoney sum }) ∧
      ((s.account a).balance < saturateMoney sum →
        t = creditRetry a (s.setAccount a { s.account a with balance := saturateMoney sum })) ∧
      (∀ c, (t.account c).balance = (if c = a then saturateMoney sum else (s.account c).balance) ∧
        (t.account c).limit = (s.account c).limit ∧ (t.account c).holdStep = (s.account c).holdStep ∧
        (t.account c).kind = (s.account c).kind ∧ (t.account c).id = (s.account c).id ∧
        (t.account c).state = (s.account c).state ∧ (t.account c).sessionCount = (s.account c).sessionCount ∧
        (s.account c).held ≤ (t.account c).held ∧ (c ≠ a → (t.account c).held = (s.account c).held)) ∧
      t.tariff = s.tariff ∧ t.meter = s.meter ∧ t.supply = s.supply ∧ t.control = s.control ∧
      t.portsStarted = s.portsStarted ∧ t.billing = s.billing ∧ t.choices = s.choices ∧ t.freeCount = s.freeCount ∧
      t.pending = s.pending

/-- The account requests that set one field, once the account is named. SET_LIMIT out of range is BAD_VALUE whatever the
kind, WRONG_STATE on a PREPAID or DEPOT account, and replaces the limit of a CREDIT_LINE account, with the credit retry
where it rose; that its response gives the available amount as LOOK_ACCOUNT reports it is the model's reading (log 34).
SET_STEP out of range is BAD_VALUE, and otherwise replaces the step. BLOCK and UNBLOCK move between OPEN and BLOCKED, UNBLOCK with the credit retry where it
moved. CLOSE_ACCOUNT frees an account without sessions and answers its balance, and is IN_USE otherwise. -/
def Obligations.AccountSettings : Prop :=
  (∀ (s : State) (b : Byte) (id : BitVec 32) (v : BitVec 40) (a : Fin 16), Ready .bp s → NamesAccount s b id a →
    (v.toInt < 0 → Executes .bp (.setLimit b id v) .badValue [] s s) ∧
    (v.toInt < 1 ∨ 2000000000 < v.toInt → Executes .bp (.setStep b id v) .badValue [] s s)) ∧
  ∀ (s : State) (b : Byte) (id : BitVec 32) (v : BitVec 40) (a : Fin 16),
    Ready .bp s → NamesAccount s b id a →
    let r := s.account a
    let limited := s.setAccount a { r with limit := some v.toInt.toNat }
    let opened := s.setAccount a { r with state := .opened }
    (r.kind ≠ some .creditLine → 0 ≤ v.toInt → Executes .bp (.setLimit b id v) .wrongState [] s s) ∧
    (∀ l, r.kind = some .creditLine → r.limit = some l → 0 ≤ v.toInt →
      let after := if (l : Int) < v.toInt then creditRetry a limited else limited
      Executes .bp (.setLimit b id v) .ok (money (availableReport (after.account a))) s after) ∧
    (1 ≤ v.toInt → v.toInt ≤ 2000000000 →
      Executes .bp (.setStep b id v) .ok [] s (s.setAccount a { r with holdStep := v.toInt.toNat })) ∧
    Executes .bp (.block b id) .ok [] s (s.setAccount a { r with state := .blocked }) ∧
    (r.state = .blocked → Executes .bp (.unblock b id) .ok [] s (creditRetry a opened)) ∧
    (r.state = .opened → Executes .bp (.unblock b id) .ok [] s s) ∧
    (r.sessionCount = 0 → Executes .bp (.closeAccount b id) .ok (money r.balance) s (s.setAccount a .free)) ∧
    (r.sessionCount ≠ 0 → Executes .bp (.closeAccount b id) .inUse [] s s)

/-- A top-up of one hold. The grant: nothing from an account that is not OPEN or has nothing available, one step where
that much is available, else all of it, and never more than held can still take. The effect: held and the hold rise
by the grant. For a live session a grant of 0 with the cost at or above the hold adds CREDIT, posting CREDIT_LOW where
it is new, and a grant that leaves every hold above its cost removes CREDIT; a grant of 0 with the cost below the hold,
and one that leaves a hold at or below its cost, change no reason and post nothing. The credit retry of an account: for
the live session that holds CREDIT, each of its holds against the account that is below low-water is topped up, the
charge hold first; without such a session nothing changes. -/
def Obligations.TopUp : Prop :=
  (∀ a : Account,
    (a.state ≠ .opened → topUpGrant a = 0) ∧
    (∀ v, a.state = .opened → available a = some v →
      topUpGrant a = min (if (a.holdStep : Int) ≤ v then a.holdStep else v.toNat) (549755813887 - a.held)) ∧
    (a.state = .opened → available a = none → topUpGrant a = min a.holdStep (549755813887 - a.held))) ∧
  (∀ (i : Fin 8) (role : HoldRole) (a : Fin 16) (s : State), (s.session i).accountOf role = some a →
    let g := topUpGrant (s.account a)
    let t := askTopUp i role s
    t.account a = { s.account a with held := (s.account a).held + g } ∧
    (∀ b, b ≠ a → t.account b = s.account b) ∧
    (t.session i).chargeHold = (s.session i).chargeHold + (if role = .charge then g else 0) ∧
    (t.session i).heatHold = (s.session i).heatHold.map (· + if role = .heat then g else 0) ∧
    (t.session i).chargeCost = (s.session i).chargeCost ∧ (t.session i).heatCost = (s.session i).heatCost ∧
    ((s.session i).state.isLive = true → g = 0 →
      ((s.session i).holdOf role).getD 0 ≤ (s.session i).coveredCost role →
      (t.session i).reasons = { (s.session i).reasons with credit := true } ∧
      ((s.session i).reasons.credit = false → t.attention.pendingCp.getLsbD 5 = true)) ∧
    ((s.session i).state.isLive = true → 0 < g → (t.session i).holdsAboveCosts = true →
      (t.session i).reasons = { (s.session i).reasons with credit := false }) ∧
    ((s.session i).state.isLive = false ∨
      (g = 0 ∧ (s.session i).coveredCost role < ((s.session i).holdOf role).getD 0) ∨
      (0 < g ∧ (t.session i).holdsAboveCosts = false) →
      (t.session i).reasons = (s.session i).reasons ∧ (t.session i).state = (s.session i).state ∧
      t.attention = s.attention ∧ t.planner = s.planner ∧ t.localizer = s.localizer)) ∧
  (∀ (i : Fin 8) (s : State),
    let r := s.session i
    (s.session i).accountOf .charge = some r.chargeAccount ∧ (s.session i).accountOf .heat = r.heatAccount ∧
    (s.session i).holdOf .charge = some r.chargeHold ∧ (s.session i).holdOf .heat = r.heatHold ∧
    r.coveredCost .heat = r.heatCost ∧
    r.coveredCost .charge = (if r.heatAccount = none then r.chargeCost + r.heatCost else r.chargeCost) ∧
    (r.holdsAboveCosts = true ↔ r.coveredCost .charge < r.chargeHold ∧ ∀ h ∈ r.heatHold, r.heatCost < h) ∧
    ∀ role, (belowLowWater i role s = true ↔ ∃ a hold, r.accountOf role = some a ∧ r.holdOf role = some hold ∧
      hold < r.coveredCost role + (s.account a).holdStep / 4)) ∧
  ∀ (a : Fin 16) (s : State),
    let asks := fun i => (s.session i).state.isLive = true ∧ (s.session i).reasons.credit = true
    let named := fun i => (s.session i).chargeAccount = a ∨ (s.session i).heatAccount = some a
    ((∀ i, asks i → ¬ named i) → creditRetry a s = s) ∧
    ∀ i, asks i → (∀ j, j ≠ i → (s.session j).state.isLive = false) →
      let low := fun (role : HoldRole) (t : State) =>
        if (t.session i).accountOf role = some a ∧ belowLowWater i role t = true then askTopUp i role t else t
      creditRetry a s = low .heat (low .charge s)

/-! ### Tariffs and the calendar (chapter 3) -/

/-- WRITE_BAND writes a band and counts it in its chain, which opens with it as head where it was EMPTY; FREE_BAND frees
a band, and its chain is EMPTY without it or takes the lowest band left as head. Both answer the chain's state, head and
band count. The refusals: a field out of range, a SEALED chain, a band of another chain. A FREE band is freed again
without effect; that answer carries no data by the model's choice (log 13), and that the head is an optional field of the
other answers, with a presence mask, is its reading (log 11). -/
def Obligations.WriteAndFreeBand : Prop :=
  (∀ (s : State) (b c n : Byte) (m cr hr occ : BitVec 16) (cap : Option (BitVec 32)), Ready .bp s →
    (32 ≤ b.toNat ∨ 4 ≤ c.toNat ∨ 32 ≤ n.toNat ∨ 10079 < m.toNat ∨ ∃ w ∈ cap, 65535 < w.toNat) →
    Executes .bp (.writeBand b c m cr hr occ cap n) .badValue [] s s) ∧
  (∀ (s : State) (b n : Fin 32) (c : Fin 4) (m cr hr occ : BitVec 16) (cap : Option (BitVec 32)), Ready .bp s →
    m.toNat ≤ 10079 → (∀ w ∈ cap, w.toNat ≤ 65535) →
    let q := Request.writeBand (index b.val) (index c.val) m cr hr occ cap (index n.val)
    let old := s.band b
    let chain := s.chain c
    let after : Chain := { chain with
      state := .opened, head := if chain.state = .empty then some b else chain.head
      bandCount := if old.state = .free then chain.bandCount + 1 else chain.bandCount }
    if chain.state = .sealed then Executes .bp q .wrongState [] s s
    else if old.state = .used ∧ (s.chain old.tag).state = .sealed then Executes .bp q .wrongState [] s s
    else if old.state = .used ∧ old.tag ≠ c then Executes .bp q .inUse [] s s
    else Executes .bp q .ok (chainSummary after) s ((s.setBand b
      ⟨.used, c, m.toNat, cr.toNat, hr.toNat, occ.toNat, cap.map BitVec.toNat, n⟩).setChain c after)) ∧
  (∀ (s : State) (b : Byte), Ready .bp s → 32 ≤ b.toNat → Executes .bp (.freeBand b) .badValue [] s s) ∧
  ∀ (s : State) (b : Fin 32), Ready .bp s →
    let c := (s.band b).tag
    let chain := s.chain c
    let left := (List.finRange 32).filter fun x =>
      decide (x ≠ b ∧ (s.band x).state = .used ∧ (s.band x).tag = c)
    let after : Chain :=
      if chain.bandCount ≤ 1 then { chain with bandCount := 0, state := .empty, head := none }
      else { chain with
        bandCount := chain.bandCount - 1, head := if chain.head = some b then left.head? else chain.head }
    if (s.band b).state = .free then Executes .bp (.freeBand (index b.val)) .ok [] s s
    else if chain.state = .sealed then Executes .bp (.freeBand (index b.val)) .wrongState [] s s
    else Executes .bp (.freeBand (index b.val)) .ok (chainSummary after) s ((s.setBand b .free).setChain c after)

/-- SEAL_CHAIN validates an OPEN chain: a failure is BAD_CHAIN with its kind and band and changes nothing; a valid chain
is SEALED with the id, its lowest-start band as head and no lock, and its starts then rise from the head on. The
validation follows next from the head: the first step that fails its check gives LINK_OUT or LOOP at the band it began
at; where none fails, one descent gives the band it lands at as head, and any other number of descents gives ORDER, at
the second descent (the model's reading, log 12). A chain validates only as one cycle through its bands, each USED and
tagged with it. UNSEAL_CHAIN opens a SEALED chain again, refused with WRONG_STATE, STALE or IN_USE in that order. The
presence masks and the optional head of both responses are the model's reading (log 11). -/
def Obligations.SealAndUnsealChain : Prop :=
  (∀ (s : State) (c : Byte) (id : BitVec 32), Ready .bp s → 4 ≤ c.toNat ∨ id = 0 →
    Executes .bp (.sealChain c id) .badValue [] s s ∧ Executes .bp (.unsealChain c id) .badValue [] s s) ∧
  (∀ (s : State) (c : Fin 4) (id : BitVec 32), Ready .bp s → id ≠ 0 →
    let r := s.chain c
    let q := Request.sealChain (index c.val) id
    let u := Request.unsealChain (index c.val) id
    (r.state ≠ .opened → Executes .bp q .wrongState [] s s) ∧
    (∀ k b, r.state = .opened → validateChain s.tariff c = .inl (k, b) →
      Executes .bp q .badChain (byte k.code ++ byte b.val) s s) ∧
    (∀ h, r.state = .opened → validateChain s.tariff c = .inr h →
      let t := s.setChain c { r with state := .sealed, id := some id.toNat, head := some h, lockCount := 0 }
      Executes .bp q .ok (byte 3 ++ byte h.val ++ byte r.bandCount ++ quad id.toNat) s t ∧
      (cycleBands t.tariff c).length = r.bandCount ∧ h ∈ cycleBands t.tariff c ∧
      (cycleBands t.tariff c).Pairwise (fun x y => (t.band x).start < (t.band y).start)) ∧
    (if r.state ≠ .sealed then Executes .bp u .wrongState [] s s
      else if r.id ≠ some id.toNat then Executes .bp u .stale [] s s
      else if r.lockCount ≠ 0 then Executes .bp u .inUse [] s s
      else Executes .bp u .ok (byte (if r.head.isSome then 1 else 0) ++ byte 1 ++ byte ((r.head.map Fin.val).getD 0)) s
        (s.setChain c { r with state := .opened, id := none }))) ∧
  (∀ (t : TariffStore) (c : Fin 4) (h : Fin 32), validateChain t c = .inr h →
    (cycleBands t c).Nodup ∧ (cycleBands t c).length = t.chains[c].bandCount ∧
    (∀ b ∈ cycleBands t c, t.bands[b].state = .used ∧ t.bands[b].tag = c ∧ t.bands[b].next ∈ cycleBands t c) ∧
    ∃ d, (cycleBands t c).filter (fun b => decide (t.bands[t.bands[b].next].start ≤ t.bands[b].start)) = [d] ∧
      h = t.bands[d].next) ∧
  ∀ (t : TariffStore) (c : Fin 4) (head : Fin 32), t.chains[c].head = some head →
    let n := t.chains[c].bandCount
    let reached : Nat → Fin 32 := fun j => (fun b : Fin 32 => t.bands[b].next)^[j] head
    let within := fun j => t.bands[reached j].state = .used ∧ t.bands[reached j].tag = c
    let fresh := fun j => if j = n then reached j = head else ∀ k, k < j → reached j ≠ reached k
    let descents := (List.range n).filter fun j =>
      decide (t.bands[reached (j + 1)].start ≤ t.bands[reached j].start)
    cycleBands t c = (List.range n).map reached ∧
    (∀ j, 1 ≤ j → j ≤ n → (∀ k, 1 ≤ k → k < j → within k ∧ fresh k) →
      (¬ within j → validateChain t c = .inl (.linkOut, reached (j - 1))) ∧
      (within j → ¬ fresh j → validateChain t c = .inl (.loop, reached (j - 1)))) ∧
    ((∀ j, 1 ≤ j → j ≤ n → within j ∧ fresh j) →
      (∀ j, descents = [j] → validateChain t c = .inr (reached (j + 1))) ∧
      (∀ i j rest, descents = i :: j :: rest → validateChain t c = .inl (.order, reached j)) ∧
      (descents = [] → ∃ b, validateChain t c = .inl (.order, b)))

/-- SET_CALENDAR sets the calendar, restarts the minute timer and searches the band of each live or CLOSING session
afresh; SET_LIFETIME replaces the lifetime; either is BAD_VALUE out of its range. The band that covers a minute: of a
chain whose starts rise from the head on, the one with the latest start at or before the minute, else the last in cycle
order. That the current band in the response is an optional field is the model's reading (log 11). -/
def Obligations.SetCalendarAndLifetime : Prop :=
  (∀ (s : State) (m : BitVec 16), Ready .cp s → 10079 < m.toNat → Executes .cp (.setCalendar m) .badValue [] s s) ∧
  (∀ (s : State) (m : BitVec 16), Ready .cp s → 1440 < m.toNat → Executes .cp (.setLifetime m) .badValue [] s s) ∧
  (∀ (s : State) (m : BitVec 16), Ready .cp s → m.toNat ≤ 1440 →
    Executes .cp (.setLifetime m) .ok (half m.toNat) s { s with tariff := { s.tariff with lifetime := m.toNat } }) ∧
  (∀ (t : TariffStore) (c : Fin 4) (m : Nat),
    let bands := cycleBands t c
    let start := fun b : Fin 32 => t.bands[b].start
    bands ≠ [] → bands.Pairwise (fun x y => start x < start y) → ∃ b, b ∈ bands ∧ coveringBand t c m = some b ∧
      ((∃ x ∈ bands, start x ≤ m) → start b ≤ m ∧ ∀ x ∈ bands, start x ≤ m → start x ≤ start b) ∧
      ((∀ x ∈ bands, m < start x) → bands.getLast? = some b)) ∧
  ∀ (s : State) (m : BitVec 16), Ready .cp s → m.toNat ≤ 10079 →
    let records := Vector.ofFn fun i : Fin 8 =>
      if (s.session i).state.accrues then
        { s.session i with currentBand := coveringBand s.tariff (s.session i).chain m.toNat }
      else s.session i
    let t := { s with
      tariff := { s.tariff with calendar := some m.toNat, minuteTimer := some 60000000 }
      sessions := { s.sessions with records := records } }
    let band := (liveSlot s).bind fun i => (t.session i).currentBand
    Executes .cp (.setCalendar m) .ok
      (byte (if band.isSome then 1 else 0) ++ half m.toNat ++ byte ((band.map Fin.val).getD 0)) s t

/-- A minute event: the calendar advances, the timer starts afresh; a live or CLOSING session's band steps where the next
band of its chain starts at the new minute. Then, in either order, every AUTHORIZED session ages by a minute and each
whose lifetime has run out is voided as at CANCEL, in ascending slots; and the COMPLETE live session pays the occupancy
rate of the band that was current before, each hold below low-water then being topped up, the charge hold first. An
account that no AUTHORIZED session and no COMPLETE live session names, and the chain of none, stay. That the time left on
the timer passes on the others is the model's choice (log 2), as is that without a set calendar only time passes (log 18)
and how the open order is held (log 6). -/
def Obligations.MinuteEvents : Prop :=
  (∀ s : State, s.tariff.calendar = none →
    exec .minuteEvent s = .next (passTime (s.tariff.minuteTimer.getD 0) s)) ∧
  ∀ (s : State) (m : Nat), s.tariff.calendar = some m →
    let m' := if m < 10079 then m + 1 else 0
    let passed := passTime (s.tariff.minuteTimer.getD 0) s
    let stepped := fun b : Fin 32 =>
      if (s.band (s.band b).next).start = m' ∧ (s.band b).next ≠ b then (s.band b).next else b
    let banded := Vector.ofFn fun i : Fin 8 =>
      if (s.session i).state.accrues then { s.session i with currentBand := (s.session i).currentBand.map stepped }
      else s.session i
    let start := { passed with
      choices := s.choices.tail
      tariff := { s.tariff with calendar := some m', minuteTimer := some 60000000 }
      sessions := { s.sessions with records := banded } }
    let runOut := fun r : Session =>
      decide (r.state = .authorized ∧ s.tariff.lifetime ≠ 0 ∧ s.tariff.lifetime ≤ r.queuedMinutes.getD 0)
    let voided := fun (u : State) (i : Fin 8) =>
      let r := u.session i
      let lowered := fun (v : State) (a : Fin 16) (hold : Nat) => v.setAccount a { v.account a with
        held := (v.account a).held - hold, sessionCount := (v.account a).sessionCount - 1 }
      let ledger := match r.heatAccount with
        | none => lowered u r.chargeAccount r.chargeHold
        | some h => lowered (lowered u r.chargeAccount r.chargeHold) h (r.heatHold.getD 0)
      let unlocked := ledger.setChain r.chain { u.chain r.chain with lockCount := (u.chain r.chain).lockCount - 1 }
      let freed := (unlocked.setSession i .free).setSessions
        { records := (u.setSession i .free).sessions.records
          queue := u.sessions.queue.erase i, nextSerial := u.sessions.nextSerial }
      if runOut r then post .sessionVoid freed else u
    let older := fun r : Session => { r with queuedMinutes := r.queuedMinutes.map fun q => min (q + 1) 1440 }
    let aged := fun (u : State) =>
      let records := Vector.ofFn fun i : Fin 8 =>
        if (u.session i).state = .authorized then older (u.session i) else u.session i
      { u with sessions := { u.sessions with records := records } }
    let occupied := fun (u : State) => match liveSlot s with
      | none => u
      | some i =>
        let checked := fun (role : HoldRole) (v : State) =>
          if belowLowWater i role v = true then askTopUp i role v else v
        let rate := match (s.session i).currentBand with
          | none => 0
          | some b => (s.band b).occupancyRate
        if (s.session i).state = .complete then
          checked .heat (checked .charge (u.setSession i { u.session i with
            occupancyMinutes := min ((u.session i).occupancyMinutes + 1) 4294967295
            chargeCost := min ((u.session i).chargeCost + rate) 549755813887 }))
        else u
    let ageing := fun (u : State) => (List.finRange 8).foldl voided (aged u)
    ∃ t, exec .minuteEvent s = .next t ∧
      (t = occupied (ageing start) ∨ t = ageing (occupied start)) ∧
      t.tariff.calendar = some m' ∧ t.tariff.minuteTimer = some 60000000 ∧ t.tariff.lifetime = s.tariff.lifetime ∧
      t.tariff.bands = s.tariff.bands ∧ t.meter = passed.meter ∧ t.supply = passed.supply ∧ t.control = s.control ∧
      t.billing = s.billing ∧ t.portsStarted = s.portsStarted ∧ t.pending = s.pending ∧ t.freeCount = s.freeCount ∧
      t.sessions.nextSerial = s.sessions.nextSerial ∧
      (∀ i, (s.session i).state = .authorized →
        (runOut (older (s.session i)) = true → t.session i = .free ∧ t.attention.pendingCp.getLsbD 4 = true) ∧
        (runOut (older (s.session i)) = false → t.session i = older (s.session i))) ∧
      (∀ i b, (s.session i).state.accrues = true → (s.session i).currentBand = some b →
        (t.session i).currentBand = some (stepped b)) ∧
      (∀ i b, liveSlot s = some i → (s.session i).state = .complete → (s.session i).currentBand = some b →
        (t.session i).occupancyMinutes = min ((s.session i).occupancyMinutes + 1) 4294967295 ∧
        (t.session i).chargeCost = min ((s.session i).chargeCost + (s.band b).occupancyRate) 549755813887) ∧
      (∀ i, (s.session i).state ≠ .authorized → (liveSlot s ≠ some i ∨ (s.session i).state ≠ .complete) →
        (t.session i).state = (s.session i).state ∧ (t.session i).chargeCost = (s.session i).chargeCost ∧
        (t.session i).occupancyMinutes = (s.session i).occupancyMinutes) ∧
      (∀ a, (∀ i, (s.session i).state = .authorized ∨ (liveSlot s = some i ∧ (s.session i).state = .complete) →
        (s.session i).chargeAccount ≠ a ∧ (s.session i).heatAccount ≠ some a) → t.account a = s.account a) ∧
      ∀ c, (∀ i, (s.session i).state = .authorized → (s.session i).chain ≠ c) → t.chain c = s.chain c

/-! ### Accrual and the meter link (chapters 4 and 5) -/

/-- The powers of an event: a product of voltage and current, zero when negative; the grid heat power is the smaller of
the heater power, counted only under a GRID slot, and the supply power, and the charge power is the rest. -/
def Obligations.GridHeatPower : Prop :=
  ∀ (f : MeterFrame) (source : Option BudgetSource),
    let supply := ((f.supplyVoltage.toNat : Int) * f.supplyCurrent.toInt).toNat
    let heater := if source = some .grid then ((f.packVoltage.toNat : Int) * f.heaterCurrent.toInt).toNat else 0
    let p := powersOf f source
    p.supply = supply ∧ p.heat = min heater supply ∧ p.charge = supply - min heater supply ∧
    p.heat ≤ p.supply ∧ p.charge ≤ p.supply ∧ p.charge + p.heat = p.supply ∧
    (supply ≤ heater → p.charge = 0) ∧ (heater = 0 → p.heat = 0 ∧ p.charge = p.supply)

/-- An accepted or held event accrues to the session that is live or CLOSING: each energy field takes its power and
carries whole Wh, by the source of the slot running as the event arrived, and a held event counts in the held frames; no
other session's energies change. An event that would carry the supply energy past its range changes none of these, and from
then on no event does: the session's energies stand, which the model holds by energyFrozen; that a later held event is not
counted either is the model's reading (log 37).
Then every carried charge Wh and after them every carried heat Wh is priced: the cost rises by the current band's rate,
saturating, and each hold that is below low-water is topped up, the charge hold first. At the end an ACTIVE or PAUSED
session whose charge energy has reached its target goes to COMPLETE. Without such a session or a frame nothing changes. -/
def Obligations.AcceptedFrameEnergies : Prop :=
  let plus := fun (e : Energy) (power : Nat) =>
    (⟨e.wh + (e.rem + power) / 180000000, (e.rem + power) % 180000000⟩ : Energy)
  let stands := fun (r : Session) (p : Powers) =>
    r.energyFrozen = true ∨ 4294967295 < (plus r.supplyEnergy p.supply).wh
  let accrued := fun (held : Bool) (f : MeterFrame) (s t : State) =>
    let p := powersOf f (if s.planner.state = .running then s.planner.source else none)
    (∀ i, accruingSlot s = some i → ¬ stands (s.session i) p →
      (t.session i).supplyEnergy = plus (s.session i).supplyEnergy p.supply ∧
      (t.session i).heatEnergy = plus (s.session i).heatEnergy p.heat ∧
      (t.session i).chargeEnergy = plus (s.session i).chargeEnergy p.charge ∧
      (t.session i).heldFrames =
        (if held then min ((s.session i).heldFrames + 1) 4294967295 else (s.session i).heldFrames) ∧
      (t.session i).energyFrozen = false) ∧
    (∀ i, accruingSlot s = some i → stands (s.session i) p → (t.session i).energyFrozen = true) ∧
    (∀ i, accruingSlot s ≠ some i → (t.session i).energyFrozen = (s.session i).energyFrozen) ∧
    ∀ i, (accruingSlot s ≠ some i ∨ stands (s.session i) p) →
      (t.session i).supplyEnergy = (s.session i).supplyEnergy ∧
      (t.session i).heatEnergy = (s.session i).heatEnergy ∧
      (t.session i).chargeEnergy = (s.session i).chargeEnergy ∧ (t.session i).heldFrames = (s.session i).heldFrames
  (∀ (s : State) (ws : List Word) (w : Word) (f : MeterFrame),
    s.meter.assembly = some ws → ws.length = 14 → acceptedFrame (ws ++ [w]) = some f →
    ∃ t, exec (.dataWord w) s = .next t ∧ accrued false f s t) ∧
  (∀ (s : State) (f : MeterFrame), s.meter.frame = some f →
    s.meter.state = .synced ∨ (s.meter.state = .holding ∧ s.meter.heldCount < 4) →
    ∃ t, exec .overdueExpiry s = .next t ∧ accrued true f s t) ∧
  (∀ (held : Bool) (source : Option BudgetSource) (s : State),
    accruingSlot s = none ∨ s.meter.frame = none → accrue held source s = s) ∧
  ∀ (held : Bool) (source : Option BudgetSource) (s : State) (i : Fin 8) (f : MeterFrame),
    accruingSlot s = some i → s.meter.frame = some f →
    let r := s.session i
    let p := powersOf f source
    let checked := fun (role : HoldRole) (t : State) => if belowLowWater i role t = true then askTopUp i role t else t
    let priced := fun (role : HoldRole) (t : State) =>
      let rate := match (t.session i).currentBand with
        | none => 0
        | some b => match role with
          | .charge => (t.band b).chargeRate
          | .heat => (t.band b).heatRate
      checked .heat (checked .charge (t.setSession i (match role with
        | .charge => { t.session i with chargeCost := min ((t.session i).chargeCost + rate) 549755813887 }
        | .heat => { t.session i with heatCost := min ((t.session i).heatCost + rate) 549755813887 })))
    let accounted := (priced .heat)^[(r.heatEnergy.rem + p.heat) / 180000000]
      ((priced .charge)^[(r.chargeEnergy.rem + p.charge) / 180000000] (s.setSession i { r with
        supplyEnergy := plus r.supplyEnergy p.supply, heatEnergy := plus r.heatEnergy p.heat
        chargeEnergy := plus r.chargeEnergy p.charge
        heldFrames := if held then min (r.heldFrames + 1) 4294967295 else r.heldFrames }))
    let t := if stands r p then s.setSession i { r with energyFrozen := true } else accounted
    let reached := ((t.session i).state = .active ∨ (t.session i).state = .paused) ∧
      ∃ w ∈ (t.session i).energyTarget, w ≤ (t.session i).chargeEnergy.wh
    (¬ reached → accrue held source s = t) ∧
    (reached → accrue held source s = sessionChanged (decide ((t.session i).state = .active))
      (t.setSession i { t.session i with state := .complete }))

/-- The assembly of frames: a sync starts afresh; a word without an assembly is ignored, one of the first fourteen is
added, and the fifteenth ends the assembly, with no other effect where the sum is not 0 or the front-end fault bit is
set. Which frames are accepted, with what words. -/
def Obligations.FrameAssembly : Prop :=
  (∀ s : State, exec .frameSync s = .next { s with meter := { s.meter with assembly := some [] } }) ∧
  (∀ (s : State) (w : Word), s.meter.assembly = none → exec (.dataWord w) s = .next s) ∧
  (∀ (s : State) (w : Word) (ws : List Word), s.meter.assembly = some ws → ws.length < 14 →
    exec (.dataWord w) s = .next { s with meter := { s.meter with assembly := some (ws ++ [w]) } }) ∧
  (∀ (s : State) (w : Word) (ws : List Word), s.meter.assembly = some ws → ws.length = 14 →
    acceptedFrame (ws ++ [w]) = none → exec (.dataWord w) s = .next { s with meter := { s.meter with assembly := none } }) ∧
  ∀ (ws : List Word), ws.length = 15 →
    ((acceptedFrame ws).isSome = true ↔ ws.foldl (· + ·) 0 = 0 ∧ (ws.headD 0).getLsbD 1 = false) ∧
    ∀ f, acceptedFrame ws = some f → f.words = ws.take 14

/-- An accepted frame: the link record takes the table of R85, the frame as the current one and 30 ms to the next
expiry, the lost timer stopping at the entry to SYNCED alone, with METER_STATE, the METER reason removed and METER_LOST
cleared. Then the five takers of R82 act, each once, the planner last at a cycle boundary: its plan sees what the Session
Table, the Heat Controller and the Localizer have made of the frame. That it then follows the Isolation Monitor too is the
model's choice (log 38), as is any other order (log 6, log 7). What each does: the accrual is made and a CLOSING
session ends, with its handover; each zone takes its temperature word, a missing reading raising the streak and
dropping the temperature at the sixteenth, and its demand is recomputed; the four comparators take a valid reading in
their order, and the mismatch is judged against the entry as the frame found it; the Localizer takes the frame; the
planner sets the derate by R118 and starts the next slot, a cycle, or leaves HALTED. What the frame does not reach
stays. -/
def Obligations.AcceptedFrame : Prop :=
  ∀ (s : State) (ws : List Word) (w : Word) (f : MeterFrame),
    s.meter.assembly = some ws → ws.length = 14 → acceptedFrame (ws ++ [w]) = some f →
    let good := match s.meter.state with
      | .recovering => decide (2 ≤ s.meter.goodCount)
      | .synced => true
      | .holding => true
      | .searching => false
      | .lost => false
    let link : MeterLink := { s.meter with
      assembly := none, frame := some f, frameAge := 0, overdue := 30000, heldCount := 0
      state := if good then .synced else .recovering
      goodCount := if good then 0 else if s.meter.state = .recovering then s.meter.goodCount + 1 else 1
      lost := if good = true ∧ s.meter.state ≠ .synced then none else s.meter.lost }
    let entered := good = true ∧ s.meter.state ≠ .synced
    let derateOf := fun (d : Derate) =>
      if f.inlet.toInt = -32768 then (if d = .zero then .zero else .half)
      else if f.inlet.toInt < 130 then .full
      else if f.inlet.toInt < 140 then (if d = .full then .full else .half)
      else if f.inlet.toInt < 160 then .half
      else if f.inlet.toInt < 170 then (if d = .zero then .zero else .half)
      else Derate.zero
    let running := s.planner.state = .running
    let boundary := s.planner.state = .idle ∨ (running ∧ s.planner.slot = some 15)
    let ended := if running then some (match s.planner.slot with | none => .empty | some k => s.planner.plan[k]) else none
    let isolated := fun (u : State) => mismatchWork f ended
      (if f.status.getLsbD 0 = true then
        let pos := comparatorWork .trip .pos f.insulationPos.toNat (comparatorWork .warning .pos f.insulationPos.toNat u)
        comparatorWork .trip .neg f.insulationNeg.toNat (comparatorWork .warning .neg f.insulationNeg.toNat pos)
      else u)
    let closed := fun (u : State) => match closingSlot u with
      | none => u
      | some i =>
        let done := closeRecord .stoppedControl i u
        if done.supply.state = .unplugged then done else goLive done
    let planned := fun (u : State) =>
      let d := derateOf u.planner.derate
      let v := { u with planner := { u.planner with derate := d } }
      let lower := (u.planner.derate = .full ∧ d ≠ .full) ∨ (u.planner.derate = .half ∧ d = .zero)
      match u.planner.state with
      | .halted => if s.planner.state = .halted ∧ entered then releasePlanner v else v
      | .idle => if s.planner.state ≠ .halted ∧ u.meter.state = .synced ∧ tripHeld u = false then cycleBoundary v else v
      | .running => match u.planner.slot with
        | none => if lower then { v with planner := v.planner.cut (gridBudget v.planner.cycleCap v) } else v
        | some k =>
          if k = 15 then cycleBoundary v
          else
            let begun := { v with planner := v.planner.startSlot (k + 1) }
            if lower then { begun with planner := begun.planner.cut (gridBudget begun.planner.cycleCap begun) } else begun
    let act := fun (u : State) (x : Taker) => match x with
      | .accrual => closed (accrue false (if running then s.planner.source else none) u)
      | .heat => heatFrame f u
      | .isolation => isolated u
      | .localizer => localizerFrame f u
      | .planner => planned u
      | .occupancy => u
      | .ageing => u
    let linked := { s with meter := link }
    let start := if entered then
        clearFault 10 (changeLive (fun p => { p with meter := false }) (post .meterState linked))
      else linked
    (∃ order : List Taker, order.Perm [.accrual, .heat, .planner, .isolation, .localizer] ∧
      (boundary → order.getLast? = some .planner) ∧
      exec (.dataWord w) s = .next (order.foldl act { start with choices := s.choices.tail })) ∧
    (∀ (u : State) (z : Fin 6),
      let t := heatFrame f u
      let reading := f.zoneTemps[z].toInt
      let taken := if reading = -32768 then { u.zone z with
          streak := min ((u.zone z).streak + 1) 16
          temperature := if (u.zone z).streak < 15 then (u.zone z).temperature else none }
        else { u.zone z with streak := 0, temperature := some reading }
      t.zone z = { taken with demand := demandOf (liveCold u) u.heating.preheat taken } ∧
      t = { u with heating := { u.heating with zones := t.heating.zones } }) ∧
    ∃ t, exec (.dataWord w) s = .next t ∧ t.meter = link ∧
      (entered → t.attention.pendingCp.getLsbD 9 = true ∧ (t.fault 10).state ≠ .active) ∧
      t.planner.derate = derateOf s.planner.derate ∧
      (∀ z : Fin 6, (f.zoneTemps[z].toInt = -32768 →
          (t.zone z).streak = min ((s.zone z).streak + 1) 16 ∧
          (t.zone z).temperature = if (s.zone z).streak < 15 then (s.zone z).temperature else none) ∧
        (f.zoneTemps[z].toInt ≠ -32768 →
          (t.zone z).streak = 0 ∧ (t.zone z).temperature = some f.zoneTemps[z].toInt)) ∧
      (∀ z, (t.zone z).mode = (s.zone z).mode ∧ (t.zone z).drive = (s.zone z).drive ∧
        (t.zone z).target = (s.zone z).target ∧ (t.zone z).rated = (s.zone z).rated) ∧
      t.tariff.calendar = s.tariff.calendar ∧ t.tariff.bands = s.tariff.bands ∧ t.control = s.control ∧
      t.billing = s.billing ∧ t.portsStarted = s.portsStarted ∧ t.isolation.settings = s.isolation.settings ∧
      t.pending = s.pending

/-- The overdue expiry by link state: SYNCED and HOLDING hold over for four expiries, the fifth takes the link to LOST,
RECOVERING loses its run, and SEARCHING and LOST stay. At the entry to LOST the lost timer starts, METER_STATE is posted,
the planner is HALTED with its outputs off, METER_LOST is ACTIVE and the live session holds METER; a dwell is aborted with
the verdict UNRESOLVED, its suspect restored, even where the same entry takes the session of a CHARGER under test out of
ACTIVE: that is the model's reading (log 8). Every expiry ends a CLOSING session; at a lost event it is closed with its own
reason and the head of the queue goes live where the supply is not UNPLUGGED. The expiry of the lost timer closes the live
session with METER_LOST, settled and unlocked, hands the change on and lets the head go live in the same way. That the time
left on a timer passes on the others at its expiry is the model's choice (log 2), as is that the expiry of a stopped lost
timer changes nothing (log 18). -/
def Obligations.OverdueAndLostExpiry : Prop :=
  let handed := fun (u : State) => if u.supply.state = .unplugged then u else goLive u
  let ended := fun (u : State) => match closingSlot u with
    | none => u
    | some i => handed (closeRecord .stoppedControl i u)
  (∀ s : State, ∃ t, exec .overdueExpiry s = .next t ∧
    let u := passTime s.meter.overdue s
    let link : MeterLink := match s.meter.state with
      | .synced => { u.meter with overdue := 20000, state := .holding, heldCount := 1 }
      | .holding =>
        if s.meter.heldCount < 4 then { u.meter with overdue := 20000, heldCount := s.meter.heldCount + 1 }
        else { u.meter with overdue := 20000, state := .lost, heldCount := 5, lost := some 10000000 }
      | .recovering => { u.meter with overdue := 20000, goodCount := 0 }
      | .searching => { u.meter with overdue := 20000 }
      | .lost => { u.meter with overdue := 20000 }
    t.meter = link ∧
    (s.meter.state = .searching ∨ s.meter.state = .lost ∨ s.meter.state = .recovering →
      t = ended { u with meter := link }) ∧
    (s.meter.state = .holding → 4 ≤ s.meter.heldCount → ∃ halted entered,
      -- The state of the entry before the Localizer's abort, and after it.
      t = ended entered ∧
      halted = confirmFault 10 none
        (changeLiveQuietly (fun p => { p with meter := true }) (haltPlanner (post .meterState { u with meter := link }))) ∧
      halted.planner.state = .halted ∧ (s.planner.state ≠ .halted → OutputsOff halted) ∧
      (halted.fault 10).state = .active ∧ (∀ k, k ≠ 10 → halted.fault k = s.fault k) ∧
      halted.localizer = s.localizer ∧ halted.accounts = s.accounts ∧ halted.tariff = u.tariff ∧
      (∀ i, liveSlot s = some i → (s.session i).reasons.meter = false → halted.session i = { s.session i with
        reasons := { (s.session i).reasons with meter := true }
        state := if (s.session i).state = .complete then .complete else .paused }) ∧
      (s.localizer.state = .idle → entered = halted) ∧
      (∀ r, s.localizer.state = .dwell → s.localizer.target = some r →
        EndsLocalization r .unresolved halted entered ∧ entered.sessions = halted.sessions ∧
        entered.planner = halted.planner ∧
        ∀ z, s.localizer.suspect = some (.zone z) →
          let restored := { halted.zone z with underTest := false }
          entered.zone z = { restored with demand := demandOf (liveCold halted) halted.heating.preheat restored })) ∧
    (s.meter.state = .holding → 4 ≤ s.meter.heldCount →
      t.planner.state = .halted ∧ (s.planner.state ≠ .halted → OutputsOff t) ∧ (t.fault 10).state = .active ∧
      t.localizer.state = .idle ∧ t.attention.pendingCp.getLsbD 9 = true ∧
      ∀ i, liveSlot s = some i → (t.session i).reasons.meter = true) ∧
    ∀ i, closingSlot s = some i → i ∉ s.sessions.queue → (t.session i).state = .closed) ∧
  (∀ s : State, s.meter.lost = none → exec .lostTimerExpiry s = .next (passTime 0 s)) ∧
  ∀ (s : State) (us : Nat), s.meter.lost = some us →
    let u := passTime us s
    let stopped := { u with meter := { u.meter with lost := none } }
    (liveSlot s = none → exec .lostTimerExpiry s = .next stopped) ∧
    ∀ i, liveSlot s = some i → ∃ t,
      t = handed (sessionChanged (decide ((s.session i).state = .active)) (closeRecord .meterLost i stopped)) ∧
      exec .lostTimerExpiry s = .next t ∧ t.meter = stopped.meter ∧ t.attention.pendingCp.getLsbD 3 = true ∧
      (i ∉ s.sessions.queue → (t.session i).state = .closed ∧
        (t.session i).closeReason = some ((s.session i).closeReason.getD .meterLost))

/-! ### The supply offer (chapter 6) -/

/-- The class of a period and of an overflow by their plateaus and level, in 0.1 V. -/
def Obligations.PeriodClass : Prop :=
  ∀ low high level : Int,
    (-80 < low → classOfPeriod low high = .fault) ∧
    (low ≤ -80 → 100 ≤ high → classOfPeriod low high = .opened) ∧
    (low ≤ -80 → 75 ≤ high → high < 100 → classOfPeriod low high = .connected) ∧
    (low ≤ -80 → 45 ≤ high → high < 75 → classOfPeriod low high = .requesting) ∧
    (low ≤ -80 → high < 45 → classOfPeriod low high = .fault) ∧
    (100 ≤ level → classOfLevel level = .opened) ∧
    (75 ≤ level → level < 100 → classOfLevel level = .connected) ∧
    (45 ≤ level → level < 75 → classOfLevel level = .requesting) ∧
    (level < 45 → classOfLevel level = .fault)

/-- The judgement of a period, the adoption of an offer, the adoption of a class and the supply state that follows. -/
def Obligations.PeriodJudgementAndAdoption : Prop :=
  (∀ length high : Nat,
    (length < 900 ∨ 1100 < length → judgePeriod length high = .invalid) ∧
    (900 ≤ length → length ≤ 1100 → high * 1000 / length < 100 ∨ 900 < high * 1000 / length →
      judgePeriod length high = .noOffer) ∧
    (900 ≤ length → length ≤ 1100 → 100 ≤ high * 1000 / length → high * 1000 / length ≤ 900 →
      judgePeriod length high = .offer (high * 1000 / length - 100))) ∧
  (∀ (v : Nat) (m : OfferMonitor), ∃ dropped, m.run ++ [v] = dropped ++ (m.adoptOffer (some v)).run ∧
    let run := (m.adoptOffer (some v)).run
    run.length ≤ 3 ∧ (∀ a ∈ run, ∀ b ∈ run, a ≤ b + 10) ∧
    (∀ x rest, dropped = rest ++ [x] → 3 < run.length + 1 ∨ ∃ a ∈ x :: run, ∃ b ∈ x :: run, b + 10 < a) ∧
    m.adoptOffer (some v) = { m with
      noOffer := 0, run := run, offered := if run.length = 3 then some v else m.offered }) ∧
  (∀ m : OfferMonitor, m.adoptOffer none = { m with
    run := [], noOffer := min (m.noOffer + 1) 3, offered := if 3 ≤ m.noOffer + 1 then none else m.offered }) ∧
  (∀ (c : LevelClass) (m : OfferMonitor),
    (c = m.level → m.adoptClass c = { m with candidate := none, classCount := 0 }) ∧
    (c ≠ m.level → m.candidate ≠ some c → m.adoptClass c = { m with candidate := some c, classCount := 1 }) ∧
    (c ≠ m.level → m.candidate = some c → m.classCount + 1 < 4 →
      m.adoptClass c = { m with classCount := m.classCount + 1 }) ∧
    (c ≠ m.level → m.candidate = some c → 4 ≤ m.classCount + 1 →
      m.adoptClass c = { m with level := c, candidate := none, classCount := 0 })) ∧
  ∀ (v : Option Nat), supplyOf .opened v = .unplugged ∧ supplyOf .fault v = .faulted ∧
    supplyOf .connected v = (if v = none then .plugged else .offering) ∧
    supplyOf .requesting v = (if v = none then .plugged else .offering)

/-- Edges and overflows. A rising edge while waiting starts a period; one that ends a period takes it, by its length, its
high time and its plateaus, and starts the next. A falling edge records the high time and plateau of the period being
timed. An overflow abandons the period and takes the steady level. Each restarts the overflow timer; the period or
overflow taken is handed on as SupplyHandOffs says. That the time left passes at an overflow (log 2), that an edge
carries the µs since the event before it (log 3), that a period of a length out of range keeps its duty in the record
(log 16), and that a rising edge without a falling one starts a period afresh (log 17), is the model's choice. -/
def Obligations.EdgesAndOverflow : Prop :=
  (∀ (s : State) (us : Nat) (low : Word),
    let u := passTime us s
    let next := { u with supply := { u.supply with overflow := 3000, capture := .timing 0 none } }
    (s.supply.capture = .waiting ∨ (∃ e, s.supply.capture = .timing e none) →
      exec (.risingEdge us low) s = .next next) ∧
    ∀ e high plateau, s.supply.capture = .timing e (some (high, plateau)) →
      let j := judgePeriod (e + us) high
      let cls := classOfPeriod low.toInt plateau.toInt
      let offer := match j with | .offer v => some v | .noOffer => none | .invalid => none
      let last := LastPeriod.period (e + us) high (high * 1000 / (e + us)) j cls
      ∃ t, exec (.risingEdge us low) s = .next t ∧ t = takePeriod offer cls last next ∧
        t.meter = u.meter ∧ t.control = s.control ∧ t.billing = s.billing ∧
        t.tariff.calendar = s.tariff.calendar ∧ t.tariff.minuteTimer = u.tariff.minuteTimer ∧
        t.tariff.bands = s.tariff.bands ∧ t.pending = s.pending ∧ t.supply = next.supply.taken offer cls last) ∧
  (∀ (s : State) (us : Nat) (high : Word),
    let u := passTime us s
    exec (.fallingEdge us high) s = .next { u with supply := { u.supply with
      overflow := 3000
      capture := match s.supply.capture with
        | .waiting => .waiting
        | .timing e _ => .timing (e + us) (some (e + us, high)) } }) ∧
  ∀ (s : State) (level : Word),
    let u := passTime s.supply.overflow s
    let restarted := { u with supply := { u.supply with overflow := 3000, capture := .waiting } }
    let cls := classOfLevel level.toInt
    ∃ t, exec (.captureOverflow level) s = .next t ∧
      t = takePeriod none cls (.overflow level cls) restarted ∧
      t.meter = u.meter ∧ t.control = s.control ∧ t.billing = s.billing ∧
      t.tariff.calendar = s.tariff.calendar ∧ t.tariff.minuteTimer = u.tariff.minuteTimer ∧
      t.tariff.bands = s.tariff.bands ∧ t.pending = s.pending ∧
      t.supply = restarted.supply.taken none cls (.overflow level cls)

/-- The hand-offs of a period or overflow. The record: both adoptions, then the supply state, the Request Line released
at the entry to FAULTED and, with the offer, at the unplug event. Then the sessions: at the plug event the head of the
queue goes live; at the unplug event the live or CLOSING session is closed, with its end minute, its settlement and its
unlock, SESSION_CLOSED is posted, and where it was live planner and Localizer follow the change; no session goes live; a
change among the other states sets the live session's OFFER. Then a lower offered current, or the mark absent, cuts the
budget; the entry to FAULTED makes OFFER_FAULT ACTIVE and the exit clears it; and PLUG is posted at plug and unplug. A
period that changes neither the supply state nor the offered current reaches no other block. The cut: in a RUNNING GRID
cycle each slot not yet begun with a higher budget takes the new one, loses the zones latest in the placement order for as
long as its heater power exceeds it, and lowers its command to what is left; nothing else changes. At a cut to 0 a zone
rated 0 W stays in its slot by these steps: that is the model's choice (log 35). The charger withdrawal: in a RUNNING cycle
the command of every slot not yet begun is 0. -/
def Obligations.SupplyHandOffs : Prop :=
  (∀ (s : State) (offer : Option Nat) (cls : LevelClass) (last : LastPeriod),
    let adopted := ({ s.supply with last := some last }.adoptOffer offer).adoptClass cls
    let state := supplyOf adopted.level adopted.offered
    let plug := decide (s.supply.state = .unplugged ∧ state ≠ .unplugged)
    let unplug := decide (s.supply.state ≠ .unplugged ∧ state = .unplugged)
    let settled : OfferMonitor :=
      if unplug then { adopted with state := state, requestLine := false, offered := none, run := [], noOffer := 0 }
      else { adopted with
        state := state
        requestLine := if state = .faulted ∧ s.supply.state ≠ .faulted then false else s.supply.requestLine }
    let u := { s with supply := settled }
    let closed := match accruingSlot s with
      | none => u
      | some i =>
        let done := closeRecord .unplugged i u
        if (s.session i).state.isLive then sessionChanged (decide ((s.session i).state = .active)) done else done
    let told :=
      if plug then goLive u
      else if unplug then closed
      else if s.supply.state ≠ state then
        changeLive (fun p => { p with offer := decide (state ≠ .offering) }) u
      else u
    let lower := ∃ v ∈ s.supply.offered, ∀ w ∈ settled.offered, w < v
    let cut := if lower then { told with planner := told.planner.cut (gridBudget told.planner.cycleCap told) } else told
    let judged :=
      if s.supply.state ≠ .faulted ∧ state = .faulted then confirmFault 11 none cut
      else if s.supply.state = .faulted ∧ state ≠ .faulted then clearFault 11 cut
      else cut
    let t := takePeriod offer cls last s
    t = (if plug ∨ unplug then post .plug judged else judged) ∧ t.supply = settled ∧
    (plug → t.attention.pendingCp.getLsbD 0 = true ∧
      ∀ i rest, s.sessions.queue = i :: rest →
        (t.session i).state.isLive = true ∧ t.sessions.queue = rest ∧ t.attention.pendingCp.getLsbD 1 = true ∧
        (t.session i).reasons.offer = decide (state ≠ .offering)) ∧
    (unplug → t.attention.pendingCp.getLsbD 0 = true ∧ t.sessions = closed.sessions ∧ t.accounts = closed.accounts ∧
      t.tariff = closed.tariff ∧ t.sessions.queue = s.sessions.queue ∧
      ∀ i, accruingSlot s = some i → t.attention.pendingCp.getLsbD 3 = true ∧
        t.session i = (closeRecord .unplugged i u).session i ∧ (t.session i).state = .closed ∧
        (t.session i).closeReason = some ((s.session i).closeReason.getD .unplugged)) ∧
    (s.supply.state ≠ .unplugged → state ≠ .unplugged → s.supply.state ≠ state →
      ∀ i, liveSlot s = some i → (t.session i).reasons.offer = decide (state ≠ .offering)) ∧
    (s.supply.state ≠ .faulted → state = .faulted → (t.fault 11).state = .active) ∧
    (s.supply.state = .faulted → state ≠ .faulted → (t.fault 11).state ≠ .active) ∧
    (s.supply.state = state → s.supply.offered = adopted.offered → t = { s with supply := { adopted with state := state } }) ∧
    (∀ v w, s.supply.state = state → s.supply.offered = some v → adopted.offered = some w → w < v →
      t.planner = s.planner.cut (gridBudget s.planner.cycleCap { s with supply := adopted }))) ∧
  (∀ (p : Planner) (budget : Nat),
    (p.source ≠ some .grid ∨ p.state ≠ .running ∨ p.slot = none → p.cut budget = p) ∧
    ∀ now, p.source = some .grid → p.state = .running → p.slot = some now → p.order.Nodup →
      p.cut budget = { p with plan := (p.cut budget).plan } ∧
      ∀ k : Fin 16,
        let e := p.plan[k]
        let t := (p.cut budget).plan[k]
        (k ≤ now ∨ e.budget ≤ budget → t = e) ∧
        (now < k → budget < e.budget → t.budget = budget ∧ t.command = min e.command (budget - t.heaterPower) ∧
          ∃ kept gone, p.order = kept ++ gone ∧
            (∀ z : Fin 6, t.zones[z] = if z ∈ gone then none else e.zones[z]) ∧
            t.heaterPower = e.heaterPower - (gone.map fun z => (e.zones[z]).getD 0).sum ∧
            (kept ≠ [] → t.heaterPower ≤ budget) ∧
            ∀ z rest, gone = z :: rest → budget < t.heaterPower + (e.zones[z]).getD 0)) ∧
  ∀ p : Planner,
    (p.state ≠ .running ∨ p.slot = none → p.withdrawCharger = p) ∧
    ∀ now, p.state = .running → p.slot = some now →
      p.withdrawCharger = { p with plan := Vector.ofFn fun k =>
        if now < k then { p.plan[k] with command := 0 } else p.plan[k] }

/-! ### Allocation and heating (chapters 7 and 8) -/

/-- The plan of a cycle boundary, from any state that the evaluation has left: the source, the budget with the band cap
and the derate, the heater cap, every charger command, and the instruction for the Request Line, which the monitor
carries out only while the supply is PLUGGED or OFFERING. The placement: a DIRECT zone that is driven, not excluded and
not under test goes into all 16 slots where its rating and those of the DIRECT zones placed before it are within the
heater cap, and is deferred otherwise; then the AUTO zones, coldest first and of equals the lower index first, each up
to its demand, never past the heater cap, in the slots with the lowest heater power so far, of equals the earliest,
and in fewer than its demand only where no other slot has room. -/
def Obligations.PlanOfACycle : Prop :=
  ∀ s : State,
    let p := (buildPlan s).planner
    let draws := fun r : Session => r.state = .active ∨ (r.state = .complete ∧ r.reasons.credit = false) ∨
      (r.state = .paused ∧ r.reasons = { PauseReasons.empty with cold := true })
    let grid := s.supply.state = .offering ∧ ∃ i, liveSlot s = some i ∧ draws (s.session i)
    let active := ∃ i, liveSlot s = some i ∧ (s.session i).state = .active
    let cap := (liveSlot s).bind fun i => (s.session i).currentBand.bind fun b => (s.band b).cap
    let raw := (s.supply.offered.getD 0) * ((s.meter.frame.map fun f => f.supplyVoltage.toNat).getD 0) / 100
    let capped := match cap with
      | none => raw
      | some c => min raw c
    let eligible := fun z : Fin 6 => (s.zone z).mode = .direct ∧ (s.zone z).drive = true ∧
      (s.zone z).excluded = false ∧ (s.zone z).underTest = false
    let granted := fun z : Fin 6 => ((buildPlan s).zone z).granted
    let temperature := fun z : Fin 6 => (s.zone z).temperature.getD 0
    let colder := fun y z : Fin 6 => temperature y < temperature z ∨ (temperature y = temperature z ∧ y < z)
    -- The power that the zones placed before z have put into slot k.
    let before := fun (z : Fin 6) (k : Fin 16) =>
      (((List.finRange 6).filter fun y => (p.plan[k]).holds y && decide ((s.zone y).mode = .direct ∨ colder y z)).map
        fun y => (s.zone y).rated).sum
    p.state = .running ∧
    (grid → p.source = some .grid ∧ p.cycleCap = cap ∧ p.budget = match s.planner.derate with
      | .full => capped
      | .half => capped / 2
      | .zero => 0) ∧
    (¬ grid → p.source = some .pack ∧ p.cycleCap = none ∧ p.budget = s.heating.packBudget ∧ p.request = false) ∧
    (grid → active → p.heaterCap = p.budget * s.heating.share / 100) ∧
    (¬ (grid ∧ active) → p.heaterCap = p.budget) ∧
    (∀ k : Fin 16, (p.plan[k]).budget = p.budget ∧ (p.plan[k]).heaterPower ≤ p.heaterCap ∧
      (p.plan[k]).heaterPower = (((List.finRange 6).filter fun y => (p.plan[k]).holds y).map
        fun y => (s.zone y).rated).sum ∧
      (∀ z : Fin 6, ∀ r ∈ (p.plan[k]).zones[z], r = (s.zone z).rated) ∧
      (grid → active → s.localizer.suspect ≠ some .charger →
        (p.plan[k]).command = min (p.budget - (p.plan[k]).heaterPower) s.heating.admissionLimit) ∧
      (¬ (grid ∧ active) ∨ s.localizer.suspect = some .charger → (p.plan[k]).command = 0)) ∧
    (∀ z : Fin 6,
      granted z = (List.finRange 16).countP (fun k => (p.plan[k]).holds z) ∧
      ((s.zone z).mode = .off → granted z = 0 ∧ ((buildPlan s).zone z).deferred = false) ∧
      ((s.zone z).mode = .direct → ¬ eligible z → granted z = 0 ∧ ((buildPlan s).zone z).deferred = false) ∧
      (eligible z →
        let fits := (((List.finRange 6).filter fun y => decide (y < z ∧ eligible y ∧ granted y = 16)).map
          fun y => (s.zone y).rated).sum + (s.zone z).rated ≤ p.heaterCap
        (fits → granted z = 16 ∧ ((buildPlan s).zone z).deferred = false) ∧
        (¬ fits → granted z = 0 ∧ ((buildPlan s).zone z).deferred = true)) ∧
      ((s.zone z).mode = .auto → granted z ≤ (s.zone z).demand ∧ ((buildPlan s).zone z).deferred = false ∧
        ∀ k : Fin 16,
          ((p.plan[k]).holds z = true → before z k + (s.zone z).rated ≤ p.heaterCap) ∧
          ((p.plan[k]).holds z = false →
            (granted z < (s.zone z).demand → p.heaterCap < before z k + (s.zone z).rated) ∧
            (before z k + (s.zone z).rated ≤ p.heaterCap → ∀ j : Fin 16, (p.plan[j]).holds z = true →
              before z j < before z k ∨ (before z j = before z k ∧ j < k))))) ∧
    p.order.Nodup ∧ (∀ z, z ∈ p.order ↔ 0 < granted z) ∧
    p.order.Pairwise (fun y z => (s.zone y).mode = .direct ∧ ((s.zone z).mode = .auto ∨ y < z) ∨
      ((s.zone y).mode = .auto ∧ (s.zone z).mode = .auto ∧ colder y z)) ∧
    (grid → (p.request = true ↔ ∃ k : Fin 16, 0 < (p.plan[k]).heaterPower ∨ 0 < (p.plan[k]).command)) ∧
    (buildPlan s).supply.requestLine =
      (p.request && decide (s.supply.state = .plugged ∨ s.supply.state = .offering))

/-- A held event: the accrual is made, a CLOSING session ending with its handover, and the planner, where it is RUNNING,
starts the next slot or after slot 15 a cycle, then after the accrual; any other order is the model's choice (log 6), as
is that the time left on the overdue timer passes on the other timers at its expiry (log 2).
Below slot 15 the next slot's entry is on the Heater Drive lines and its command is sent, one setpoint message more. A
cycle boundary is the admission evaluation, the plan, and the start of slot 0. The halt empties the plan, switches every
output off and sends a command of 0; it changes nothing in HALTED. The release to IDLE needs HALTED, no trip record and
a good link. -/
def Obligations.SlotsHaltAndRelease : Prop :=
  (∀ s : State, s.meter.state = .synced ∨ (s.meter.state = .holding ∧ s.meter.heldCount < 4) →
    let u := passTime s.meter.overdue s
    let start := { u with
      choices := s.choices.tail
      meter := { u.meter with
        overdue := 20000, state := .holding
        heldCount := if s.meter.state = .synced then 1 else s.meter.heldCount + 1 } }
    let running := s.planner.state = .running
    let closed := fun (v : State) => match closingSlot v with
      | none => v
      | some i =>
        let done := closeRecord .stoppedControl i v
        if done.supply.state = .unplugged then done else goLive done
    let planned := fun (v : State) => match v.planner.slot with
      | none => v
      | some k => if k = 15 then cycleBoundary v else { v with planner := v.planner.startSlot (k + 1) }
    let act := fun (v : State) (x : Taker) => match x with
      | .accrual => closed (accrue true (if running then s.planner.source else none) v)
      | .planner => if v.planner.state = .running then planned v else v
      | .heat => v
      | .isolation => v
      | .localizer => v
      | .occupancy => v
      | .ageing => v
    ∃ order : List Taker, (order = [.accrual, .planner] ∨ order = [.planner, .accrual]) ∧
      (running → s.planner.slot = some 15 → order = [.accrual, .planner]) ∧
      exec .overdueExpiry s = .next (order.foldl act start)) ∧
  (∀ s : State, ∃ built, built = buildPlan (evaluateAdmission s) ∧
    cycleBoundary s = { built with planner := built.planner.startSlot 0 }) ∧
  (∀ (p : Planner) (k : Fin 16), p.startSlot k = { p with
    slot := some k, heaterLines := Vector.ofFn fun z => ((p.plan[k]).zones[z]).isSome
    lastCommand := (p.plan[k]).command, messages := p.messages + 1 }) ∧
  (∀ (s : State) (k next : Fin 16), s.planner.state = .running → s.planner.slot = some k → next.val = k.val + 1 →
    s.meter.state = .synced ∨ (s.meter.state = .holding ∧ s.meter.heldCount < 4) →
    ∃ t, exec .overdueExpiry s = .next t ∧ t.planner.state = .running ∧ t.planner.slot = some next ∧
      (∀ z : Fin 6, t.planner.heaterLines[z] = (t.planner.plan[next]).zones[z].isSome) ∧
      t.planner.lastCommand = (t.planner.plan[next]).command ∧ t.planner.messages = s.planner.messages + 1) ∧
  (∀ s : State, s.planner.state = .halted → haltPlanner s = s) ∧
  (∀ s : State, s.planner.state ≠ .halted →
    (haltPlanner s).planner = { Planner.powerOn with
      state := .halted, derate := s.planner.derate, messages := s.planner.messages + 1 } ∧
    OutputsOff (haltPlanner s) ∧
    (∀ z, (haltPlanner s).zone z = { s.zone z with granted := 0, deferred := false }) ∧
    (haltPlanner s).sessions = s.sessions ∧ (haltPlanner s).isolation = s.isolation ∧
    (haltPlanner s).localizer = s.localizer ∧ (haltPlanner s).attention = s.attention) ∧
  ∀ s : State,
    (s.planner.state = .halted → tripHeld s = false → s.meter.state = .synced ∨ s.meter.state = .holding →
      releasePlanner s = { s with planner := { s.planner with state := .idle } }) ∧
    (s.planner.state ≠ .halted ∨ tripHeld s = true ∨ s.meter.state = .searching ∨ s.meter.state = .lost ∨
      s.meter.state = .recovering → releasePlanner s = s)

/-- SET_ZONE: a field out of range is BAD_VALUE, AUTO to DIRECT is WRONG_STATE, DIRECT on an excluded zone is BLOCKED;
otherwise the zone takes mode, target and rating, its drive by the mode change, and its demand afresh. A zone set OFF,
one moved from DIRECT to AUTO, and one rated anew while the running slot or one not yet begun holds it leave the slots
not yet begun, with the rating they were placed with; the first two lose the deferred flag, the last keeps it, and the
granted count stands. A suspect set OFF is out of test, and the localization takes its next step. Nothing else changes. -/
def Obligations.SetZoneRequest : Prop :=
  (∀ (s : State) (zone mode : Byte) (target : BitVec 16) (rated : BitVec 32), Ready .cp s →
    (6 ≤ zone.toNat ∨ 3 ≤ mode.toNat ∨ target.toInt < -80 ∨ 120 < target.toInt ∨ 8000 < rated.toNat) →
    Executes .cp (.setZone zone mode target rated) .badValue [] s s) ∧
  (∀ (s : State) (z : Fin 6) (mode : ZoneMode) (target : BitVec 16) (rated : BitVec 32), Ready .cp s →
    -80 ≤ target.toInt → target.toInt ≤ 120 → rated.toNat ≤ 8000 →
    let q := Request.setZone (index z.val) (index mode.code) target rated
    let old := s.zone z
    let moved := old.mode ≠ .off ∧ mode ≠ old.mode
    let planned := s.planner.state = .running ∧ ∃ now, s.planner.slot = some now ∧
      ∃ k : Fin 16, now ≤ k ∧ ((s.planner.plan[k]).zones[z]).isSome = true
    let withdrawn := moved ∨ (old.mode ≠ .off ∧ rated.toNat ≠ old.rated ∧ planned)
    let set : Zone := { old with
      mode := mode, target := target.toInt, rated := rated.toNat
      drive := old.drive && decide ((mode = .direct ∧ old.mode = .direct) ∨
        (mode = .auto ∧ old.mode = .off) ∨ (mode = .auto ∧ old.mode = .auto))
      deferred := if moved then false else old.deferred }
    let changed := s.setZone z { set with demand := demandOf (liveCold s) s.heating.preheat set }
    let ended := mode = .off ∧ s.localizer.state = .dwell ∧ s.localizer.suspect = some (.zone z)
    (mode = .direct → old.mode = .auto → Executes .cp q .wrongState [] s s) ∧
    (mode = .direct → old.mode ≠ .auto → old.excluded = true → Executes .cp q .blocked [] s s) ∧
    (¬ (mode = .direct ∧ (old.mode = .auto ∨ old.excluded = true)) → ∃ t left,
      Executes .cp q .ok (byte (if (t.zone z).temperature.isSome then 1 else 0) ++ zoneFields z (t.zone z)) s t ∧
      (withdrawn → left = { changed with planner := s.planner.withdrawZone z }) ∧ (¬ withdrawn → left = changed) ∧
      (¬ ended → t = left) ∧
      (ended → ∀ rail, s.localizer.target = some rail →
        TakesNextStep rail s.localizer.stack (released (.zone z) left) t) ∧
      t.sessions = s.sessions ∧ t.accounts = s.accounts ∧ t.tariff = s.tariff ∧ t.meter = s.meter ∧
      t.supply = s.supply ∧ t.control = s.control ∧ t.billing = s.billing ∧ t.pending = s.pending ∧
      (t.zone z).mode = mode ∧ (t.zone z).target = target.toInt ∧ (t.zone z).rated = rated.toNat ∧
      (t.zone z).temperature = old.temperature ∧ (t.zone z).streak = old.streak ∧ (t.zone z).excluded = old.excluded ∧
      (t.zone z).granted = old.granted ∧ (t.zone z).drive = set.drive ∧ (t.zone z).deferred = set.deferred ∧
      (t.zone z).demand = demandOf (liveCold s) s.heating.preheat (t.zone z) ∧
      (∀ y, y ≠ z → (t.zone y).mode = (s.zone y).mode ∧ (t.zone y).drive = (s.zone y).drive ∧
        (t.zone y).target = (s.zone y).target ∧ (t.zone y).rated = (s.zone y).rated ∧
        (t.zone y).temperature = (s.zone y).temperature ∧ (t.zone y).excluded = (s.zone y).excluded) ∧
      (withdrawn → s.planner.state = .running → ∀ now, s.planner.slot = some now →
        ∀ k, now < k → (t.planner.plan[k]).zones[z] = none) ∧
      (mode = .off → s.localizer.state = .dwell → s.localizer.suspect = some (.zone z) →
        t.localizer.suspect ≠ some (.zone z)) ∧
      (¬ ended → t.localizer = s.localizer ∧ t.isolation = s.isolation ∧ t.attention = s.attention))) ∧
  ∀ (p : Planner) (z : Fin 6),
    (p.state ≠ .running ∨ p.slot = none → p.withdrawZone z = p) ∧
    ∀ now, p.state = .running → p.slot = some now →
      p.withdrawZone z = { p with plan := Vector.ofFn fun k =>
        match (p.plan[k]).zones[z] with
        | none => p.plan[k]
        | some w =>
          if now < k then { p.plan[k] with
            zones := (p.plan[k]).zones.set z none, heaterPower := (p.plan[k]).heaterPower - w }
          else p.plan[k] }

/-- DRIVE_ZONE drives a DIRECT zone that is not excluded on, or a DIRECT zone off and out of the slots not yet begun; a
suspect driven off is then out of test, and the localization takes its next step;
RESTORE_ZONE lifts an exclusion, recomputes the demand and clears an ACTIVE HEATER_ZONE record. Their refusals; that a
drive byte of 2 or more is BAD_VALUE is the model's reading (log 14). -/
def Obligations.DriveAndRestoreZone : Prop :=
  (∀ (s : State) (zone drive : Byte), Ready .cp s →
    (6 ≤ zone.toNat ∨ 2 ≤ drive.toNat → Executes .cp (.driveZone zone drive) .badValue [] s s) ∧
    (6 ≤ zone.toNat → Executes .cp (.restoreZone zone) .badValue [] s s)) ∧
  ∀ (s : State) (z : Fin 6), Ready .cp s →
    let old := s.zone z
    let on := Request.driveZone (index z.val) 1
    let off := Request.driveZone (index z.val) 0
    let data := fun (r : Zone) => byte 2 ++ byte (if r.drive then 1 else 0) ++ byte r.granted ++
      byte (if r.deferred then 1 else 0)
    (old.mode ≠ .direct → Executes .cp on .wrongState [] s s ∧ Executes .cp off .wrongState [] s s) ∧
    (old.mode = .direct → old.excluded = true → Executes .cp on .blocked [] s s) ∧
    (old.mode = .direct → old.excluded = false → Executes .cp on .ok (data { old with drive := true }) s
      (s.setZone z { old with drive := true })) ∧
    (old.mode = .direct → old.drive = false → Executes .cp off .ok (data old) s s) ∧
    (old.mode = .direct → old.drive = true → ¬ (s.localizer.state = .dwell ∧ s.localizer.suspect = some (.zone z)) →
      Executes .cp off .ok (data { old with drive := false, deferred := false }) s
        ((s.setZone z { old with drive := false, deferred := false }).setPlanner (s.planner.withdrawZone z))) ∧
    (old.mode = .direct → old.drive = true → s.localizer.state = .dwell → s.localizer.suspect = some (.zone z) →
      ∃ t, Executes .cp off .ok (data (t.zone z)) s t ∧ (t.zone z).drive = false ∧ (t.zone z).deferred = false ∧
        t.localizer.suspect ≠ some (.zone z) ∧ t.sessions = s.sessions ∧ t.accounts = s.accounts ∧
        t.tariff = s.tariff ∧ t.meter = s.meter ∧ t.supply = s.supply ∧
        ∀ rail, s.localizer.target = some rail →
          TakesNextStep rail s.localizer.stack (released (.zone z)
            ((s.setZone z { old with drive := false, deferred := false }).setPlanner (s.planner.withdrawZone z))) t) ∧
    (old.excluded = false → Executes .cp (.restoreZone (index z.val)) .wrongState [] s s) ∧
    (old.excluded = true →
      let restored := { old with excluded := false }
      let t := clearFault (heaterKey z) (s.setZone z { restored with
        demand := demandOf (liveCold s) s.heating.preheat restored })
      Executes .cp (.restoreZone (index z.val)) .ok
        (byte (if old.temperature.isSome then 1 else 0) ++ zoneFields z (t.zone z)) s t)

/-- SET_ADMISSION replaces the admission table where its count is 1 to 8, each threshold and limit is in range and the
thresholds rise strictly, whatever the positions beyond the count hold; SET_HEATING replaces the three heating
settings together; otherwise both are BAD_VALUE. The admission limit of the moment is that of the last entry at or
below the coldest temperature of a zone that is not excluded. The evaluation of a cycle boundary stores that limit, the
coldest temperature and its zone, of equals the lowest; the live session takes COLD at a limit of 0, loses it at 1.0 °C
above the first threshold and keeps it as it is between them; then every zone's demand is computed afresh. The demand
of a zone: the steps to its target, or to the preheat target where that is higher and COLD is held, at most 16. -/
def Obligations.HeatingSettings : Prop :=
  (∀ (s : State) (count : Byte) (entries : Vector AdmissionOperand 8), Ready .cp s →
    let used := entries.toList.take count.toNat
    let good := 1 ≤ count.toNat ∧ count.toNat ≤ 8 ∧
      (∀ e ∈ used, -80 ≤ e.threshold.toInt ∧ e.threshold.toInt ≤ 120 ∧ 1 ≤ e.limit.toNat ∧ e.limit.toNat ≤ 65535) ∧
      (used.map fun e => e.threshold.toInt).Pairwise (· < ·)
    let table := used.map fun e => (⟨e.threshold.toInt, e.limit.toNat⟩ : AdmissionEntry)
    (good → Executes .cp (.setAdmission count entries) .ok (admissionBytes table) s
      { s with heating := { s.heating with admission := table } }) ∧
    (¬ good → Executes .cp (.setAdmission count entries) .badValue [] s s)) ∧
  (∀ (s : State) (share : Byte) (budget : BitVec 32) (preheat : BitVec 16), Ready .cp s →
    (100 < share.toNat ∨ 20000 < budget.toNat ∨ preheat.toInt < -80 ∨ 120 < preheat.toInt →
      Executes .cp (.setHeating share budget preheat) .badValue [] s s) ∧
    (share.toNat ≤ 100 → budget.toNat ≤ 20000 → -80 ≤ preheat.toInt → preheat.toInt ≤ 120 →
      Executes .cp (.setHeating share budget preheat) .ok (byte share.toNat ++ quad budget.toNat ++ half preheat.toInt) s
        { s with heating := { s.heating with
          share := share.toNat, packBudget := budget.toNat, preheat := preheat.toInt } })) ∧
  (∀ s : State,
    ((∀ z, (s.zone z).excluded = true ∨ (s.zone z).temperature = none) → admissionNow s = 0) ∧
    ∀ z v, (s.zone z).excluded = false → (s.zone z).temperature = some v →
      (∀ y, ∀ u ∈ (s.zone y).temperature, (s.zone y).excluded = false → v ≤ u) →
      admissionNow s = (((s.heating.admission.filter fun e => decide (e.threshold ≤ v)).getLast?).map
        AdmissionEntry.limit).getD 0) ∧
  (∀ (cold : Bool) (preheat : Int) (z : Zone),
    let wanted := if cold = true ∧ z.target < preheat then preheat else z.target
    (z.mode ≠ .auto ∨ z.excluded = true ∨ z.underTest = true ∨ z.temperature = none → demandOf cold preheat z = 0) ∧
    ∀ v, z.mode = .auto → z.excluded = false → z.underTest = false → z.temperature = some v →
      demandOf cold preheat z = min 16 (wanted - v).toNat) ∧
  ∀ s : State,
    let t := evaluateAdmission s
    let first := ((s.heating.admission.head?).map AdmissionEntry.threshold).getD 0
    let cold := fun (r : PauseReasons) =>
      if admissionNow s = 0 then true
      else if ∃ v ∈ t.heating.coldest, first + 2 ≤ v then false else r.cold
    t.heating.admissionLimit = admissionNow s ∧
    ((∀ z, (s.zone z).excluded = true ∨ (s.zone z).temperature = none) →
      t.heating.coldest = none ∧ t.heating.coldestZone = none) ∧
    (∀ z v, (s.zone z).excluded = false → (s.zone z).temperature = some v →
      (∀ y, ∀ u ∈ (s.zone y).temperature, (s.zone y).excluded = false → v < u ∨ (v = u ∧ z ≤ y)) →
      t.heating.coldest = some v ∧ t.heating.coldestZone = some z) ∧
    (∀ i, liveSlot s = some i →
      let r := s.session i
      let reasons := { r.reasons with cold := cold r.reasons }
      (reasons = r.reasons → t.sessions = s.sessions) ∧
      (reasons ≠ r.reasons → OtherSessionsSame i s t ∧ t.session i = { r with
        reasons := reasons
        state := if r.state = .complete then .complete else if reasons = .empty then .active else .paused })) ∧
    (liveSlot s = none → t.sessions = s.sessions) ∧
    (∀ z, (t.zone z).demand = demandOf (liveCold t) s.heating.preheat (t.zone z) ∧
      (t.zone z).mode = (s.zone z).mode ∧ (t.zone z).target = (s.zone z).target ∧
      (t.zone z).temperature = (s.zone z).temperature) ∧
    SameOutside s t

/-! ### Isolation, localization, attention and resets (chapters 9 to 11) -/

/-- A comparator takes a reading of its rail: its counts move by the table of R144; its record, while non-FREE, keeps the
lowest reading; a FREE or CLEARED record whose below count reaches the persistence is confirmed, and an ACTIVE one
whose above count reaches it is cleared; a confirmed trip leaves the planner HALTED, gives the live session ISOLATION and
aborts a dwell with the verdict UNRESOLVED, even where the same trip takes the session of a CHARGER under test out of
ACTIVE: that is the model's reading (log 8). A confirmed warning starts a localization where auto-localize is on and the
Localizer IDLE, and does nothing else. Each confirmation raises the revision by one, and a localization that ends at once
with PACK_SIDE by one more. What a confirmation does to any record, from FREE and from CLEARED, and that it changes
nothing of an ACTIVE one. -/
def Obligations.RailComparators : Prop :=
  (∀ (k : Fin 12) (reading : Option Nat) (s : State),
    let f := s.fault k
    (f.state = .free → confirmFault k reading s = post .faultActive (s.setFault k { f with
      state := .active, occurrences := 1, revision := (f.revision + 1) % 256, firstMinute := s.tariff.calendar
      firstReading := reading, worstReading := reading })) ∧
    (f.state = .cleared → confirmFault k reading s = post .faultActive (s.setFault k { f with
      state := .active, occurrences := min (f.occurrences + 1) 255, revision := (f.revision + 1) % 256 })) ∧
    (f.state = .active → confirmFault k reading s = s)) ∧
  ∀ (kind : CompareKind) (rail : Rail) (reading : Nat) (s : State),
    let level := s.isolation.settings.level kind
    let persistence := s.isolation.settings.persistence
    let old := s.isolation.comparator kind rail
    let counts : Comparator :=
      if reading < level then ⟨min (old.below + 1) persistence, 0⟩
      else if 4 * reading < 5 * level then ⟨0, 0⟩
      else ⟨0, min (old.above + 1) persistence⟩
    let k := match kind, rail with
      | .warning, .pos => (0 : Fin 12)
      | .warning, .neg => 1
      | .trip, .pos => 2
      | .trip, .neg => 3
    let f := s.fault k
    let lowest := f.worstReading.map (min reading)
    -- The record has followed the rail, and has then been confirmed.
    let confirmed := confirmFault k (some reading) ((s.setIsolation (s.isolation.setComparator kind rail counts)).setFault k
      (if f.state = .free then f else { f with worstReading := lowest }))
    let stack := (if ∃ j : Fin 16, 0 < (s.planner.plan[j]).command then [Suspect.charger] else []) ++
      ((List.finRange 6).filter fun z => decide (0 < (s.zone z).granted)).map Suspect.zone
    let starts := s.isolation.settings.autoLocalize = true ∧ s.localizer.state = .idle
    let t := comparatorWork kind rail reading s
    t.isolation.comparator kind rail = counts ∧
    (f.state = .free → persistence ≤ counts.below →
      (t.fault k).state = .active ∧ (t.fault k).occurrences = 1 ∧ (t.fault k).firstMinute = s.tariff.calendar ∧
      (t.fault k).firstReading = some reading ∧ (t.fault k).worstReading = some reading ∧
      (kind = .trip → t.fault k = { f with
        state := .active, occurrences := 1, revision := (f.revision + 1) % 256, firstMinute := s.tariff.calendar
        firstReading := some reading, worstReading := some reading }) ∧
      (t.fault k).seenCp = f.seenCp ∧ (t.fault k).seenBp = f.seenBp ∧ t.attention.pendingCp.getLsbD 6 = true) ∧
    (f.state = .cleared → persistence ≤ counts.below →
      (t.fault k).state = .active ∧ (t.fault k).occurrences = min (f.occurrences + 1) 255 ∧
      (t.fault k).firstMinute = f.firstMinute ∧ (t.fault k).firstReading = f.firstReading ∧
      (t.fault k).worstReading = lowest ∧ t.attention.pendingCp.getLsbD 6 = true ∧
      (kind = .trip → t.fault k = { f with
        state := .active, occurrences := min (f.occurrences + 1) 255, revision := (f.revision + 1) % 256
        worstReading := lowest })) ∧
    (kind = .warning → f.state ≠ .active → persistence ≤ counts.below →
      (¬ starts → t = confirmed ∧ (t.fault k).revision = (f.revision + 1) % 256) ∧
      (starts → TakesNextStep rail stack confirmed t ∧
        ((∃ x ∈ stack, energizable s x = true) → (t.fault k).revision = (f.revision + 1) % 256) ∧
        ((∀ x ∈ stack, energizable s x = false) → (t.fault k).revision = (f.revision + 2) % 256))) ∧
    (f.state = .active → persistence ≤ counts.above →
      t.fault k = { f with state := .cleared, revision := (f.revision + 1) % 256, worstReading := lowest } ∧
      t.attention.pendingCp.getLsbD 7 = true) ∧
    (f.state = .active → counts.above < persistence → t.fault k = { f with worstReading := lowest }) ∧
    (f.state = .free → counts.below < persistence → t.fault k = f) ∧
    (f.state = .cleared → counts.below < persistence → t.fault k = { f with worstReading := lowest }) ∧
    (kind = .trip → f.state ≠ .active → persistence ≤ counts.below →
      t.planner.state = .halted ∧ (s.planner.state ≠ .halted → OutputsOff t) ∧ t.localizer.state = .idle ∧
      tripHeld t = true ∧
      (isolationCondition s = false → ∀ i, liveSlot s = some i → (t.session i).reasons.isolation = true) ∧
      ∀ r, s.localizer.state = .dwell → s.localizer.target = some r → ∃ halted,
        halted = handIsolation (isolationCondition s) (haltPlanner confirmed) ∧
        halted.localizer = s.localizer ∧ (∀ j, j ≠ k → halted.fault j = s.fault j) ∧
        EndsLocalization r .unresolved halted t ∧ t.sessions = halted.sessions ∧ t.planner = halted.planner ∧
        ∀ z, s.localizer.suspect = some (.zone z) → (t.zone z).underTest = false)

/-- The heater mismatch judgement of a slot that ended: with a pack voltage the zones on in the entry each gain a vote at
a mismatch of more than a quarter of the expected current plus 1.0 A and lose theirs otherwise; a zone that reaches 8
votes, in ascending order, has its HEATER_ZONE record confirmed and is excluded, with its votes at 0: its line is off, and
it leaves the running slot, every slot not yet begun and the placement order at once. Where it is the suspect under test
its step ends as not tested and the next step is made: that an exclusion, which the table of R167 does not list, ends the
step is the model's reading (log 36), as is that an excluded zone gains no vote (log 25). Without a running slot, or with
a pack voltage of 0, nothing changes. -/
def Obligations.HeaterMismatch : Prop :=
  (∀ (f : MeterFrame) (s : State), mismatchWork f none s = s) ∧
  (∀ (z : Fin 6) (p : Planner), LeavesAtOnce z p (p.withdrawAtOnce z)) ∧
  ∀ (f : MeterFrame) (e : PlanEntry) (s : State),
    let expected := e.heaterPower * 1000 / f.packVoltage.toNat
    let mismatch := ((expected / 4 + 100 : Nat) : Int) < (f.heaterCurrent.toInt - (expected : Int)).natAbs
    let votes := Vector.ofFn fun z : Fin 6 =>
      if e.zones[z] = none then s.isolation.votes[z]
      else if ¬ mismatch then 0
      else if (s.zone z).excluded = true then s.isolation.votes[z]
      else min (s.isolation.votes[z] + 1) 8
    let judged := fun (u : State) (z : Fin 6) =>
      let confirmed := confirmFault (heaterKey z) none u
      let noted := confirmed.setIsolation { confirmed.isolation with votes := confirmed.isolation.votes.set z 0 }
      let excluded := (noted.setZone z { u.zone z with excluded := true, demand := 0, granted := 0 }).setPlanner
        (u.planner.withdrawAtOnce z)
      if u.isolation.votes[z] ≠ 8 then u
      else localizerZoneOff z (if (u.zone z).excluded = true then noted else excluded)
    let t := mismatchWork f (some e) s
    (f.packVoltage = 0 → t = s) ∧
    (f.packVoltage ≠ 0 →
      t = (List.finRange 6).foldl judged (s.setIsolation { s.isolation with votes := votes })) ∧
    (f.packVoltage ≠ 0 → ∀ z : Fin 6, (s.zone z).excluded = false → s.isolation.votes[z] ≤ 7 →
      (e.zones[z] = none → t.isolation.votes[z] = s.isolation.votes[z] ∧ (t.zone z).excluded = false) ∧
      (e.zones[z] ≠ none → ¬ mismatch → t.isolation.votes[z] = 0 ∧ (t.zone z).excluded = false) ∧
      (e.zones[z] ≠ none → mismatch → s.isolation.votes[z] < 7 →
        t.isolation.votes[z] = s.isolation.votes[z] + 1 ∧ (t.zone z).excluded = false) ∧
      (e.zones[z] ≠ none → mismatch → s.isolation.votes[z] = 7 →
        t.isolation.votes[z] = 0 ∧ (t.zone z).excluded = true ∧ (t.zone z).demand = 0 ∧ (t.zone z).granted = 0 ∧
        t.planner.heaterLines[z] = false ∧ (t.fault (heaterKey z)).state = .active ∧
        (s.planner.order.Nodup → z ∉ t.planner.order) ∧
        (s.planner.state = .running → ∀ now, s.planner.slot = some now →
          ∀ k : Fin 16, now ≤ k → (t.planner.plan[k]).zones[z] = none) ∧
        (s.localizer.state = .dwell → s.localizer.suspect = some (.zone z) →
          t.localizer.suspect ≠ some (.zone z) ∧ (t.zone z).underTest = false)))

/-- SET_ISOLATION replaces the five settings, the eight counts going to 0 where a level or the persistence changed;
RETIRE_FAULT frees a CLEARED record that the Control Port has seen at its present revision, WRONG_STATE, STALE or BUSY
otherwise, in that order; LOOK_FAULT stores the port's seen revision and answers the record with it. That an
auto-localize byte of 2 or more is BAD_VALUE is the model's reading (log 14). -/
def Obligations.FaultRequests : Prop :=
  (∀ (s : State) (w t p a d : Byte), Ready .cp s →
    let good := w.toNat ≤ 7 ∧ t.toNat < w.toNat ∧ p.toNat ∈ [2, 4, 8, 16] ∧ a.toNat ≤ 1 ∧ 8 ≤ d.toNat ∧ d.toNat ≤ 64
    let new : IsolationSettings := ⟨w.toNat, t.toNat, p.toNat, decide (a = 1), d.toNat⟩
    let old := s.isolation.settings
    let kept := { s.isolation with settings := new }
    (¬ good → Executes .cp (.setIsolation w t p a d) .badValue [] s s) ∧
    (good → Executes .cp (.setIsolation w t p a d) .ok (byte w.toNat ++ byte t.toNat ++ byte p.toNat ++ byte a.toNat ++
      byte d.toNat) s { s with isolation :=
        if old.warning = new.warning ∧ old.trip = new.trip ∧ old.persistence = new.persistence then kept
        else { kept with warnPos := ⟨0, 0⟩, tripPos := ⟨0, 0⟩, warnNeg := ⟨0, 0⟩, tripNeg := ⟨0, 0⟩ } })) ∧
  (∀ (p : Port) (s : State) (key : Byte), Ready p s → 12 ≤ key.toNat →
    Executes p (.lookFault key) .badValue [] s s ∧
    (p = .cp → Executes p (.retireFault key) .badValue [] s s)) ∧
  (∀ (p : Port) (s : State) (k : Fin 12), Ready p s →
    let seen := match p with
      | .cp => { s.fault k with seenCp := some (s.fault k).revision }
      | .bp => { s.fault k with seenBp := some (s.fault k).revision }
    Executes p (.lookFault (index k.val)) .ok (faultBytes k seen) s (s.setFault k seen)) ∧
  ∀ (s : State) (k : Fin 12), Ready .cp s →
    let f := s.fault k
    let q := Request.retireFault (index k.val)
    let target := s.localizer.state = .dwell ∧
      ((k = 0 ∧ s.localizer.target = some .pos) ∨ (k = 1 ∧ s.localizer.target = some .neg))
    if f.state ≠ .cleared then Executes .cp q .wrongState [] s s
    else if f.seenCp ≠ some f.revision then Executes .cp q .stale [] s s
    else if target then Executes .cp q .busy [] s s
    else ∃ t, Executes .cp q .ok (byte k.val ++ byte ((f.revision + 1) % 256)) s t ∧
      t.isolation = (s.setFault k { FaultRecord.powerOn with revision := (f.revision + 1) % 256 }).isolation ∧
      t.accounts = s.accounts ∧ t.tariff = s.tariff ∧ t.meter = s.meter ∧ t.supply = s.supply ∧
      t.heating = s.heating ∧ t.localizer = s.localizer ∧
      (isolationCondition s = isolationCondition t → t.sessions = s.sessions) ∧
      (isolationCondition s = true → isolationCondition t = false → ∀ i, liveSlot s = some i →
        (t.session i).reasons = { (s.session i).reasons with isolation := false }) ∧
      (s.planner.state = .halted → k = 2 ∨ k = 3 → tripHeld t = false → s.meter.state = .synced ∨ s.meter.state = .holding →
        t.planner.state = .idle) ∧
      (s.planner.state = .halted → tripHeld t = true → t.planner.state = .halted)

/-- TEST_FAULTS answers the keys of the mask whose records match the filter, as a mask, and how many they are, and
changes nothing; a mask bit above bit 11 or another filter is BAD_VALUE. -/
def Obligations.TestFaults : Prop :=
  ∀ (p : Port) (s : State) (mask : BitVec 16) (filter : Byte), Ready p s →
    (4096 ≤ mask.toNat ∨ 2 ≤ filter.toNat → Executes p (.testFaults mask filter) .badValue [] s s) ∧
    (mask.toNat < 4096 → filter.toNat < 2 → ∃ out : BitVec 16,
      Executes p (.testFaults mask filter) .ok (bytes16 out ++ [BitVec.ofNat 8 ((List.range 16).countP fun k => out.getLsbD k)])
        s s ∧
      (∀ k : Fin 12, out.getLsbD k.val = true ↔ mask.getLsbD k.val = true ∧
        ((s.fault k).state = .active ∨ (filter = 1 ∧ (s.fault k).state = .cleared))) ∧
      ∀ k, 12 ≤ k → out.getLsbD k = false)

/-- LOCALIZE starts a localization on an ACTIVE ISO_WARN record: its stack is the charger, where the plan commands it,
under the zones with granted slots; the top energizable suspect is under test, those above it are dropped, and with
none energizable the verdict is PACK_SIDE at once. It is BAD_VALUE for a bad key, BUSY in a dwell, and WRONG_STATE for any other
record. CANCEL_LOCALIZE ends a dwell with UNRESOLVED and restores its suspect, and changes nothing in IDLE. The dwell: a
frame with a valid reading counts and adds it to the last four; at the step length, four readings that clear the
warning level give the verdict of the suspect, a zone excluded or the live session taking ISOLATION, and otherwise the
suspect is restored and the next step made. A zone put under test or excluded is withdrawn at once, from its line, the
running slot, the slots not yet begun and the placement order. A step ends as not tested when the live session leaves
ACTIVE with the charger under test, or the zone under test is set or driven off; the same end after an exclusion is said at
HeaterMismatch (log 36). -/
def Obligations.LocalizeAndCancel : Prop :=
  (∀ (s : State) (key : Byte), Ready .cp s →
    (12 ≤ key.toNat → Executes .cp (.localize key) .badValue [] s s) ∧
    (key.toNat < 12 → s.localizer.state = .dwell → Executes .cp (.localize key) .busy [] s s) ∧
    (2 ≤ key.toNat → key.toNat < 12 → s.localizer.state = .idle → Executes .cp (.localize key) .wrongState [] s s)) ∧
  (∀ (s : State) (rail : Rail), Ready .cp s → s.localizer.state = .idle →
    let k := match rail with
      | .pos => (0 : Fin 12)
      | .neg => 1
    let q := Request.localize (index k.val)
    let stack := (if ∃ j : Fin 16, 0 < (s.planner.plan[j]).command then [Suspect.charger] else []) ++
      ((List.finRange 6).filter fun z => decide (0 < (s.zone z).granted)).map Suspect.zone
    ((s.fault k).state ≠ .active → Executes .cp q .wrongState [] s s) ∧
    ((s.fault k).state = .active → ∃ t, Executes .cp q .ok (localizerBytes t.localizer) s t ∧
      TakesNextStep rail stack s t)) ∧
  (∀ (s : State), Ready .cp s →
    (s.localizer.state = .idle → Executes .cp .cancelLocalize .ok (localizerBytes s.localizer) s s) ∧
    (s.localizer.state = .dwell → ∃ t, Executes .cp .cancelLocalize .ok (localizerBytes t.localizer) s t ∧
      t.sessions = s.sessions ∧ t.accounts = s.accounts ∧ t.tariff = s.tariff ∧ t.meter = s.meter ∧
      t.supply = s.supply ∧ t.planner = s.planner ∧
      t.localizer.state = .idle ∧ t.localizer.target = none ∧ t.localizer.suspect = none ∧ t.localizer.stack = [] ∧
      t.attention.pendingCp.getLsbD 8 = true ∧
      (∀ z, s.localizer.suspect = some (.zone z) → (t.zone z).underTest = false) ∧
      ∀ r, s.localizer.target = some r → t.localizer.lastOutcome = some (r, .unresolved) ∧
        EndsLocalization r .unresolved s t)) ∧
  (∀ (s : State),
    (energizable s .charger = true ↔ ∃ i, liveSlot s = some i ∧ (s.session i).state = .active) ∧
    ∀ z, energizable s (.zone z) = true ↔ (s.zone z).excluded = false ∧
      ((s.zone z).mode = .auto ∨ ((s.zone z).mode = .direct ∧ (s.zone z).drive = true))) ∧
  (∀ (f : MeterFrame) (s : State),
    (f.status.getLsbD 0 = false ∨ s.localizer.state = .idle → localizerFrame f s = s) ∧
    ∀ (rail : Rail) (x : Suspect), f.status.getLsbD 0 = true → s.localizer.state = .dwell →
      s.localizer.target = some rail → s.localizer.suspect = some x →
      let reading := match rail with
        | .pos => f.insulationPos.toNat
        | .neg => f.insulationNeg.toNat
      let longer := s.localizer.readings ++ [reading]
      let counted := { s with localizer := { s.localizer with
        dwellCount := s.localizer.dwellCount + 1, readings := longer.drop (longer.length - 4) } }
      let recovered := ∀ v ∈ counted.localizer.readings,
        5 * Config.referenceLevel s.isolation.settings.warning ≤ 4 * v
      let t := localizerFrame f s
      (s.localizer.dwellCount + 1 < s.localizer.stepLength → t = counted) ∧
      (s.localizer.stepLength ≤ s.localizer.dwellCount + 1 → ¬ recovered →
        TakesNextStep rail s.localizer.stack (released x counted) t) ∧
      (s.localizer.stepLength ≤ s.localizer.dwellCount + 1 → recovered →
        (∀ z, x = .zone z → EndsLocalization rail (.zone z) counted t ∧ t.sessions = s.sessions ∧
          (t.zone z).excluded = true ∧ (t.zone z).underTest = false ∧ (t.zone z).demand = 0 ∧
          ((s.zone z).excluded = true → t.planner = s.planner) ∧
          ((s.zone z).excluded = false → LeavesAtOnce z s.planner t.planner ∧ t.isolation.votes[z] = 0 ∧
            t.heating = (s.setZone z { s.zone z with
              excluded := true, underTest := false, demand := 0, granted := 0 }).heating)) ∧
        (x = .charger → EndsLocalization rail .charger counted t ∧ t.heating = s.heating ∧
          ∀ i, liveSlot s = some i → (s.fault (warnKey rail)).state ≠ .free → isolationCondition s = false →
            (t.session i).reasons = { (s.session i).reasons with isolation := true }))) ∧
  ∀ (s : State),
    (s.localizer.state ≠ .dwell ∨ s.localizer.suspect ≠ some .charger → localizerSessionLeft s = s) ∧
    (∀ z, s.localizer.state ≠ .dwell ∨ s.localizer.suspect ≠ some (.zone z) → localizerZoneOff z s = s) ∧
    ∀ rail, s.localizer.state = .dwell → s.localizer.target = some rail →
      (s.localizer.suspect = some .charger →
        TakesNextStep rail s.localizer.stack (released .charger s) (localizerSessionLeft s)) ∧
      ∀ z, s.localizer.suspect = some (.zone z) →
        TakesNextStep rail s.localizer.stack (released (.zone z) s) (localizerZoneOff z s)

/-- The Attention Unit: a posting adds its cause to both pending sets and nothing else; a line is active while its pending
set and mask share a cause once the ports have started; the three attention requests act on the mask and pending set
of their own port and answer pending set, mask and line, and a mask bit above bit 9 is BAD_VALUE. A clear taken after a
posting removes the cause; one taken before leaves it pending. -/
def Obligations.AttentionRequests : Prop :=
  (∀ (c : Cause) (s : State), post c s = { s with attention := { s.attention with
    pendingCp := s.attention.pendingCp ||| 1#10 <<< c.bit, pendingBp := s.attention.pendingBp ||| 1#10 <<< c.bit } }) ∧
  (∀ s : State,
    (lineActive .cp s = true ↔ s.portsStarted = true ∧ ∃ k, s.attention.pendingCp.getLsbD k = true ∧
      s.attention.maskCp.getLsbD k = true) ∧
    (lineActive .bp s = true ↔ s.portsStarted = true ∧ ∃ k, s.attention.pendingBp.getLsbD k = true ∧
      s.attention.maskBp.getLsbD k = true)) ∧
  (∀ (p : Port) (s : State) (m : BitVec 16), Ready p s →
    let data := fun t : State => half (match p with | .cp => t.attention.pendingCp.toNat | .bp => t.attention.pendingBp.toNat)
      ++ half (match p with | .cp => t.attention.maskCp.toNat | .bp => t.attention.maskBp.toNat) ++
      byte (if lineActive p t then 1 else 0)
    let masked := { s with attention := match p with
      | .cp => { s.attention with maskCp := m.setWidth 10 }
      | .bp => { s.attention with maskBp := m.setWidth 10 } }
    let cleared := { s with attention := match p with
      | .cp => { s.attention with pendingCp := s.attention.pendingCp &&& ~~~(m.setWidth 10) }
      | .bp => { s.attention with pendingBp := s.attention.pendingBp &&& ~~~(m.setWidth 10) } }
    Executes p .readAttention .ok (data s) s s ∧
    (1024 ≤ m.toNat → Executes p (.setAttention m) .badValue [] s s ∧ Executes p (.clearAttention m) .badValue [] s s) ∧
    (m.toNat < 1024 → Executes p (.setAttention m) .ok (data masked) s masked ∧
      Executes p (.clearAttention m) .ok (data cleared) s cleared)) ∧
  ∀ (p : Port) (c : Cause) (m : BitVec 10) (a : Attention) (s : State), m.getLsbD c.bit = true → s.attention = a →
    (((post c s).attention.clear p m).pendingOf p).getLsbD c.bit = false ∧
    ((post c (s.setAttention (a.clear p m))).attention.pendingOf p).getLsbD c.bit = true

/-- The lookups of sessions, accounts and tariffs from either port: the fields as they stand, nothing changed; an index
out of range is BAD_VALUE. The places of the presence masks (log 11), the ms of LOOK_CALENDAR rounded down (log 23), the
low 40 bits of a held amount past the money range (log 24), and the kind and available amount of a FREE account sent as
0 (log 26) are the model's readings and choices. -/
def Obligations.SessionAccountAndTariffLookups : Prop :=
  (∀ (p : Port) (s : State) (b : Byte), Ready p s →
    (8 ≤ b.toNat → Executes p (.lookSession b) .badValue [] s s) ∧
    (16 ≤ b.toNat → Executes p (.lookAccount b) .badValue [] s s) ∧
    (32 ≤ b.toNat → Executes p (.lookBand b) .badValue [] s s) ∧
    (4 ≤ b.toNat → Executes p (.lookChain b) .badValue [] s s)) ∧
  ∀ (p : Port) (s : State), Ready p s →
    (∀ i : Fin 8, Executes p (.lookSession (index i.val)) .ok (sessionBytes i (s.session i)) s s) ∧
    (∀ a : Fin 16, let r := s.account a
      Executes p (.lookAccount (index a.val)) .ok
        (byte (if r.limit.isSome then 1 else 0) ++ byte a.val ++ byte r.state.code ++ quad r.id ++
          byte ((r.kind.map AccountKind.code).getD 0) ++ money r.balance ++ money ((r.limit.getD 0 : Nat)) ++
          money r.held ++ money r.holdStep ++ byte r.sessionCount ++
          money (match available r with | none => 549755813887 | some v => saturateMoney v) ++
          byte (if r.kind = some .depot then 1 else 0)) s s) ∧
    (∀ b : Fin 32, let r := s.band b
      Executes p (.lookBand (index b.val)) .ok
        (byte (if r.cap.isSome then 1 else 0) ++ byte b.val ++ byte r.state.code ++ byte r.tag.val ++ half r.start ++
          half r.chargeRate ++ half r.heatRate ++ half r.occupancyRate ++ quad (r.cap.getD 0) ++ byte r.next.val) s s) ∧
    (∀ c : Fin 4, let r := s.chain c
      let listed : List (Fin 32) := match r.state with
        | .empty => []
        | .opened => (List.finRange 32).filter fun b => decide ((s.band b).state = .used ∧ (s.band b).tag = c)
        | .sealed => cycleBands s.tariff c
      Executes p (.lookChain (index c.val)) .ok
        (byte (mask [r.id.isSome, r.head.isSome]) ++ byte r.state.code ++ quad (r.id.getD 0) ++
          byte ((r.head.map Fin.val).getD 0) ++ byte r.bandCount ++ byte r.lockCount ++ byte listed.length ++
          (listed.map fun b => BitVec.ofNat 8 b.val) ++ List.replicate (32 - listed.length) 0) s s) ∧
    Executes p .lookCalendar .ok
      (byte (mask [s.tariff.calendar.isSome, s.tariff.minuteTimer.isSome]) ++ half ((s.tariff.calendar.getD 0 : Nat)) ++
        half (((s.tariff.minuteTimer.map fun left => min ((60000000 - left) / 1000) 59999).getD 0 : Nat)) ++
        half s.tariff.lifetime) s s

/-- The lookups of zones, plan, supply and meter link from either port: the fields as they stand, nothing changed. The
places of the presence masks and of the fields of the last period are the model's reading (log 11), as is that the
frame age and the time on the lost timer are in ms rounded down (log 23). -/
def Obligations.ZonePlanSupplyAndMeterLookups : Prop :=
  (∀ (p : Port) (s : State) (b : Byte), Ready p s → 6 ≤ b.toNat → Executes p (.lookZone b) .badValue [] s s) ∧
  ∀ (p : Port) (s : State), Ready p s →
    (∀ z : Fin 6, let r := s.zone z
      let h := s.heating
      Executes p (.lookZone (index z.val)) .ok
        (byte (mask [r.temperature.isSome, h.coldest.isSome, h.coldestZone.isSome]) ++
          (byte z.val ++ byte r.mode.code ++ byte (if r.drive then 1 else 0) ++ half r.target ++ quad r.rated ++
            half (r.temperature.getD 0) ++ byte r.streak ++ byte r.demand ++ byte r.granted ++
            byte (if r.excluded then 1 else 0) ++ byte (if r.underTest then 1 else 0) ++
            byte (if r.deferred then 1 else 0)) ++
          admissionBytes h.admission ++ byte h.share ++ quad h.packBudget ++ half h.preheat ++ quad h.admissionLimit ++
          half (h.coldest.getD 0) ++ byte ((h.coldestZone.map Fin.val).getD 0) ++
          half (if liveCold s then max r.target h.preheat else r.target)) s s) ∧
    (let n := s.planner;
      Executes p .lookPlan .ok
        (byte (mask [n.slot.isSome, n.source.isSome, n.cycleCap.isSome]) ++ byte n.state.code ++
          byte ((n.slot.map Fin.val).getD 0) ++ byte ((n.source.map BudgetSource.code).getD 0) ++ quad n.budget ++
          quad n.heaterCap ++ quad (n.cycleCap.getD 0) ++ byte n.derate.code ++
          (byte n.order.length ++ (n.order.map fun z => BitVec.ofNat 8 z.val) ++ List.replicate (6 - n.order.length) 0) ++
          (n.plan.toList.map fun e => byte (mask (e.zones.toList.map Option.isSome)) ++ quad e.heaterPower ++
            quad e.command ++ quad e.budget).flatten ++
          quad n.lastCommand ++ byte (if n.request then 1 else 0)) s s) ∧
    (let m := s.supply;
      Executes p .lookSupply .ok
        (byte (mask [m.offered.isSome, m.candidate.isSome, m.last.isSome]) ++ byte m.state.code ++ byte m.level.code ++
          half ((m.offered.getD 0 : Nat)) ++ byte (if m.requestLine then 1 else 0) ++
          byte ((m.candidate.map LevelClass.code).getD 0) ++ byte m.classCount ++
          positions 3 2 (m.run.map fun v => half v) ++ byte m.noOffer ++ lastPeriodBytes m.last) s s) ∧
    (let m := s.meter;
      Executes p .lookMeter .ok
        (byte (mask [m.frame.isSome, m.frame.isSome, m.lost.isSome]) ++ byte m.state.code ++ byte m.heldCount ++
          byte m.goodCount ++ frameBytes m.frame ++
          half ((if m.frame.isSome then min (m.frameAge / 1000) 65535 else 0 : Nat)) ++
          half (((m.lost.map fun us => us / 1000).getD 0 : Nat))) s s)

/-- The warm reset, by the Reset input or by WARM_RESET, which is then answered OK: the Meter Link and the Offer Monitor
are as after power-on, the planner too but for its one message, counts and votes are 0, zones keep mode (DIRECT becomes
OFF), target, rating and exclusion, the Localizer is IDLE, masks and settings stay, AUTHORIZED sessions stay in the
queue, and a live or CLOSING session is CLOSED with RESET or its own reason: its accounts are debited with what its
holds covered and lose the holds, its chain has one lock fewer, and every other account, chain, band, the calendar and
the lifetime stay. The fault records stay whole, but that of an aborted dwell, which takes UNRESOLVED, and OFFER_FAULT,
which a supply that was FAULTED clears. That the Attention Unit is reset first and the Offer Monitor after the Isolation
Monitor is the model's reading (log 29). -/
def Obligations.WarmReset : Prop :=
  ∀ s : State, ∃ t, exec .resetAssertion s = .next t ∧ (Ready .cp s → Executes .cp .warmReset .ok [] s t) ∧
    t.meter = State.reset.meter ∧ t.supply = State.reset.supply ∧
    t.planner = { Planner.powerOn with messages := s.planner.messages + 1 } ∧
    t.isolation.settings = s.isolation.settings ∧ t.isolation.votes = Vector.replicate 6 0 ∧
    t.isolation.warnPos = ⟨0, 0⟩ ∧ t.isolation.tripPos = ⟨0, 0⟩ ∧ t.isolation.warnNeg = ⟨0, 0⟩ ∧
    t.isolation.tripNeg = ⟨0, 0⟩ ∧ (s.supply.state = .faulted → (t.fault 11).state ≠ .active) ∧
    (∀ k, k ≠ 11 → (t.fault k).state = (s.fault k).state) ∧
    (∀ r, s.localizer.state = .dwell → s.localizer.target = some r → t.fault (warnKey r) = { s.fault (warnKey r) with
      revision := ((s.fault (warnKey r)).revision + 1) % 256
      verdict := if (s.fault (warnKey r)).verdict = some .charger then some .charger else some .unresolved }) ∧
    (∀ k, k ≠ 11 → (∀ r, s.localizer.state = .dwell → s.localizer.target = some r → k ≠ warnKey r) →
      t.fault k = s.fault k) ∧
    t.fault 11 = (if s.supply.state = .faulted ∧ (s.fault 11).state = .active then
      { s.fault 11 with state := .cleared, revision := ((s.fault 11).revision + 1) % 256 } else s.fault 11) ∧
    (∀ z, t.zone z = { Zone.powerOn with
      mode := if (s.zone z).mode = .direct then .off else (s.zone z).mode
      target := (s.zone z).target, rated := (s.zone z).rated, excluded := (s.zone z).excluded }) ∧
    t.heating.admission = s.heating.admission ∧ t.heating.share = s.heating.share ∧
    t.heating.packBudget = s.heating.packBudget ∧ t.heating.preheat = s.heating.preheat ∧
    t.heating.admissionLimit = 0 ∧ t.heating.coldest = none ∧ t.heating.coldestZone = none ∧
    t.localizer.state = .idle ∧ (s.localizer.state = .idle → t.localizer = s.localizer) ∧
    (∀ r, s.localizer.state = .dwell → s.localizer.target = some r →
      t.localizer.lastOutcome = some (r, .unresolved) ∧ t.attention.pendingCp.getLsbD 8 = true) ∧
    t.attention.maskCp = s.attention.maskCp ∧ t.attention.maskBp = s.attention.maskBp ∧
    (s.localizer.state = .idle → s.supply.state ≠ .faulted → accruingSlot s = none →
      t.attention.pendingCp = 0 ∧ t.attention.pendingBp = 0) ∧
    t.tariff.bands = s.tariff.bands ∧ t.tariff.calendar = s.tariff.calendar ∧
    t.tariff.minuteTimer = s.tariff.minuteTimer ∧ t.tariff.lifetime = s.tariff.lifetime ∧
    t.sessions.queue = s.sessions.queue ∧ t.sessions.nextSerial = s.sessions.nextSerial ∧
    (∀ i, accruingSlot s ≠ some i → t.session i = s.session i) ∧
    (∀ i, accruingSlot s = some i → (t.session i).state = .closed ∧
      (t.session i).closeReason = some ((s.session i).closeReason.getD .reset) ∧
      t.attention.pendingCp.getLsbD 3 = true) ∧
    (accruingSlot s = none → t.accounts = s.accounts ∧ t.tariff = s.tariff) ∧
    (∀ i m, accruingSlot s = some i → s.tariff.calendar = some m →
      (s.session i).heatAccount ≠ some (s.session i).chargeAccount →
      let r := s.session i
      let debited := fun (a : Account) (cost hold : Nat) =>
        { a with balance := saturateMoney (a.balance - (cost : Int)), held := a.held - hold }
      t.session i = { r with
        state := .closed, reasons := .empty, currentBand := none, endMinute := some m
        closeReason := some (r.closeReason.getD .reset), chargeHold := 0, heatHold := r.heatHold.map fun _ => 0 } ∧
      t.account r.chargeAccount = debited (s.account r.chargeAccount)
        (if r.heatAccount = none then r.chargeCost + r.heatCost else r.chargeCost) r.chargeHold ∧
      (∀ h, r.heatAccount = some h → t.account h = debited (s.account h) r.heatCost (r.heatHold.getD 0)) ∧
      (∀ a, a ≠ r.chargeAccount → r.heatAccount ≠ some a → t.account a = s.account a) ∧
      t.tariff = (s.setChain r.chain { s.chain r.chain with lockCount := (s.chain r.chain).lockCount - 1 }).tariff) ∧
    t.portsStarted = s.portsStarted ∧ t.control.buffer = none ∧ t.control.overrun = false ∧
    t.billing = ⟨none, false, [], none, false⟩ ∧ t.pending = s.pending

/-- Power-on gives every block its power-on values and begins the ports' start. Until the start completes, transactions
shift out fillers alone, received bytes and framing errors do nothing, and both Attention lines are inactive; its
completion leaves buffer, frame, overrun marks, pending sets and masks empty and the rest as it was. That it comes only
once, a second one changing nothing, is the model's choice (log 18). -/
def Obligations.PowerOnAndPortStart : Prop :=
  (∀ s : State, exec .powerOn s =
    .next { State.reset with choices := s.choices, freeCount := s.freeCount, pending := s.pending }) ∧
  (∀ s : State, s.portsStarted = false →
    exec .portStartComplete s = .next { s with
      portsStarted := true, attention := ⟨0, 0, 0, 0⟩, control := { s.control with buffer := none, overrun := false }
      billing := ⟨none, false, [], none, false⟩ } ∧
    (∀ bytes, bytes ≠ [] → exec (.cpRequestTransaction bytes) s = .next { s with
      control := { s.control with shifted := List.replicate bytes.length (0xFF : Byte) } }) ∧
    (∀ n, 1 ≤ n → exec (.cpFetchTransaction n) s = .next { s with
      control := { s.control with shifted := List.replicate n (0xFF : Byte) } }) ∧
    (∀ b, exec (.bpByteReceived b) s = .next s) ∧ exec .bpFramingError s = .next s ∧
    lineActive .cp s = false ∧ lineActive .bp s = false) ∧
  ∀ s : State, s.portsStarted = true → exec .portStartComplete s = .next s

/-! ### What every step keeps -/

/-- The planner runs only on a good link without a trip record, and drives nothing while it does not run. -/
def Obligations.StepsKeepPlannerSafe : Prop :=
  ∀ s t : State, PlannerSafe s → step s = .next t → PlannerSafe t

/-- Supply energy is charge energy plus heat energy in every session, exactly. Energies that have come to stand, because an
addition would have passed their range, stand until the record is FREE again, which the model holds by energyFrozen; that
the held frames stand with them is the model's reading (log 37). -/
def Obligations.StepsKeepEnergyBalanced : Prop :=
  ∀ s t : State, step s = .next t →
    (EnergyBalanced s → EnergyBalanced t) ∧
    ∀ i, (s.session i).state ≠ .free → (s.session i).energyFrozen = true → (t.session i).state ≠ .free →
      (t.session i).energyFrozen = true ∧ (t.session i).supplyEnergy = (s.session i).supplyEnergy ∧
      (t.session i).chargeEnergy = (s.session i).chargeEnergy ∧ (t.session i).heatEnergy = (s.session i).heatEnergy ∧
      (t.session i).heldFrames = (s.session i).heldFrames

/-- No slot of the plan draws more than its budget, and its heater power is that of its zones. -/
def Obligations.StepsKeepPlanSound : Prop :=
  ∀ s t : State, PlanSound s → step s = .next t → PlanSound t

/-- The authorization queue holds exactly the AUTHORIZED sessions; at most one session is live or CLOSING, only while the
supply is not UNPLUGGED; and the state of each session agrees with its pause reasons. -/
def Obligations.StepsKeepSessionTableSound : Prop :=
  ∀ s t : State, QueueExact s → OneHoldsInlet s → ReasonsFollow s → step s = .next t →
    QueueExact t ∧ OneHoldsInlet t ∧ ReasonsFollow t

/-- Held amounts are the sums of the holds and session counts the numbers of sessions; lock counts are the numbers of bound
sessions and a locked chain is SEALED; the calendar is set wherever a session exists. -/
def Obligations.StepsKeepLedgerAndLocksExact : Prop :=
  ∀ s t : State, QueueExact s → LedgerExact s → LocksExact s → CalendarSound s → step s = .next t →
    LedgerExact t ∧ LocksExact t ∧ CalendarSound t

/-- The localizer record stays as R159 says, with the ranges of the dwell count and the step length, and exactly the zone
under test carries the mark. -/
def Obligations.StepsKeepLocalizerSound : Prop :=
  ∀ s t : State, LocalizerSound s → step s = .next t → LocalizerSound t

/-- The Offer Monitor's record, the link record and the ports' records stay as R92, R81 and R171 to R174 and R180 say. -/
def Obligations.StepsKeepInterfacesSound : Prop :=
  ∀ s t : State, SupplySound s → MeterSound s → PortsSound s → step s = .next t →
    SupplySound t ∧ MeterSound t ∧ PortsSound t

/-- The state right after power-on meets every invariant, with the values that the manual gives. -/
def Obligations.ResetMeetsTheInvariants : Prop :=
  let s := State.reset
  (PlannerSafe s ∧ EnergyBalanced s ∧ PlanSound s ∧ QueueExact s ∧ OneHoldsInlet s ∧ ReasonsFollow s ∧ LedgerExact s ∧
    LocksExact s ∧ CalendarSound s ∧ LocalizerSound s ∧ SupplySound s ∧ MeterSound s ∧ PortsSound s) ∧
  (∀ i, s.session i = .free) ∧ (∀ a, s.account a = .free) ∧ (∀ b, s.band b = .free) ∧ (∀ c, s.chain c = .empty) ∧
  s.sessions.nextSerial = 1 ∧ s.tariff.calendar = none ∧ s.tariff.lifetime = 120 ∧ s.meter.state = .searching ∧
  s.meter.overdue = 30000 ∧ s.supply.state = .unplugged ∧ s.supply.overflow = 3000 ∧ s.planner.state = .idle ∧
  (∀ z, s.zone z = ⟨.off, false, 0, 0, none, 0, 0, 0, false, false, false⟩) ∧
  s.heating.admission = [⟨-20, 3300⟩, ⟨0, 7400⟩] ∧ s.heating.share = 60 ∧ s.heating.preheat = 10 ∧
  s.isolation.settings = ⟨4, 2, 8, true, 25⟩ ∧ (∀ k, s.fault k = ⟨.free, 0, none, none, none, none, 0, none, none⟩) ∧
  s.localizer.state = .idle ∧ s.attention = ⟨0, 0, 0, 0⟩ ∧ s.control.buffer = none ∧ s.pending = []

end
end

