-- ==== Sys2Proof/Laws/State.lean ====
section
/-! SUPPORT. What each writer of Machine/Ops.lean leaves in each field of the state and in each record, every lemma true
by unfolding alone. -/

namespace Sys2Proof.Machine

/-! ### Writers of a block -/

@[simp] theorem State.setSessions_sessions (s : State) (v : SessionTable) : (s.setSessions v).sessions = v := rfl
@[simp] theorem State.setSessions_accounts (s : State) (v : SessionTable) : (s.setSessions v).accounts = s.accounts := rfl
@[simp] theorem State.setSessions_tariff (s : State) (v : SessionTable) : (s.setSessions v).tariff = s.tariff := rfl
@[simp] theorem State.setSessions_meter (s : State) (v : SessionTable) : (s.setSessions v).meter = s.meter := rfl
@[simp] theorem State.setSessions_supply (s : State) (v : SessionTable) : (s.setSessions v).supply = s.supply := rfl
@[simp] theorem State.setSessions_planner (s : State) (v : SessionTable) : (s.setSessions v).planner = s.planner := rfl
@[simp] theorem State.setSessions_heating (s : State) (v : SessionTable) : (s.setSessions v).heating = s.heating := rfl
@[simp] theorem State.setSessions_isolation (s : State) (v : SessionTable) : (s.setSessions v).isolation = s.isolation := rfl
@[simp] theorem State.setSessions_localizer (s : State) (v : SessionTable) : (s.setSessions v).localizer = s.localizer := rfl
@[simp] theorem State.setSessions_attention (s : State) (v : SessionTable) : (s.setSessions v).attention = s.attention := rfl
@[simp] theorem State.setSessions_portsStarted (s : State) (v : SessionTable) : (s.setSessions v).portsStarted = s.portsStarted := rfl
@[simp] theorem State.setSessions_control (s : State) (v : SessionTable) : (s.setSessions v).control = s.control := rfl
@[simp] theorem State.setSessions_billing (s : State) (v : SessionTable) : (s.setSessions v).billing = s.billing := rfl
@[simp] theorem State.setSessions_choices (s : State) (v : SessionTable) : (s.setSessions v).choices = s.choices := rfl
@[simp] theorem State.setSessions_freeCount (s : State) (v : SessionTable) : (s.setSessions v).freeCount = s.freeCount := rfl
@[simp] theorem State.setSessions_pending (s : State) (v : SessionTable) : (s.setSessions v).pending = s.pending := rfl

@[simp] theorem State.setAccounts_sessions (s : State) (v : Vector Account 16) : (s.setAccounts v).sessions = s.sessions := rfl
@[simp] theorem State.setAccounts_accounts (s : State) (v : Vector Account 16) : (s.setAccounts v).accounts = v := rfl
@[simp] theorem State.setAccounts_tariff (s : State) (v : Vector Account 16) : (s.setAccounts v).tariff = s.tariff := rfl
@[simp] theorem State.setAccounts_meter (s : State) (v : Vector Account 16) : (s.setAccounts v).meter = s.meter := rfl
@[simp] theorem State.setAccounts_supply (s : State) (v : Vector Account 16) : (s.setAccounts v).supply = s.supply := rfl
@[simp] theorem State.setAccounts_planner (s : State) (v : Vector Account 16) : (s.setAccounts v).planner = s.planner := rfl
@[simp] theorem State.setAccounts_heating (s : State) (v : Vector Account 16) : (s.setAccounts v).heating = s.heating := rfl
@[simp] theorem State.setAccounts_isolation (s : State) (v : Vector Account 16) : (s.setAccounts v).isolation = s.isolation := rfl
@[simp] theorem State.setAccounts_localizer (s : State) (v : Vector Account 16) : (s.setAccounts v).localizer = s.localizer := rfl
@[simp] theorem State.setAccounts_attention (s : State) (v : Vector Account 16) : (s.setAccounts v).attention = s.attention := rfl
@[simp] theorem State.setAccounts_portsStarted (s : State) (v : Vector Account 16) : (s.setAccounts v).portsStarted = s.portsStarted := rfl
@[simp] theorem State.setAccounts_control (s : State) (v : Vector Account 16) : (s.setAccounts v).control = s.control := rfl
@[simp] theorem State.setAccounts_billing (s : State) (v : Vector Account 16) : (s.setAccounts v).billing = s.billing := rfl
@[simp] theorem State.setAccounts_choices (s : State) (v : Vector Account 16) : (s.setAccounts v).choices = s.choices := rfl
@[simp] theorem State.setAccounts_freeCount (s : State) (v : Vector Account 16) : (s.setAccounts v).freeCount = s.freeCount := rfl
@[simp] theorem State.setAccounts_pending (s : State) (v : Vector Account 16) : (s.setAccounts v).pending = s.pending := rfl

@[simp] theorem State.setTariff_sessions (s : State) (v : TariffStore) : (s.setTariff v).sessions = s.sessions := rfl
@[simp] theorem State.setTariff_accounts (s : State) (v : TariffStore) : (s.setTariff v).accounts = s.accounts := rfl
@[simp] theorem State.setTariff_tariff (s : State) (v : TariffStore) : (s.setTariff v).tariff = v := rfl
@[simp] theorem State.setTariff_meter (s : State) (v : TariffStore) : (s.setTariff v).meter = s.meter := rfl
@[simp] theorem State.setTariff_supply (s : State) (v : TariffStore) : (s.setTariff v).supply = s.supply := rfl
@[simp] theorem State.setTariff_planner (s : State) (v : TariffStore) : (s.setTariff v).planner = s.planner := rfl
@[simp] theorem State.setTariff_heating (s : State) (v : TariffStore) : (s.setTariff v).heating = s.heating := rfl
@[simp] theorem State.setTariff_isolation (s : State) (v : TariffStore) : (s.setTariff v).isolation = s.isolation := rfl
@[simp] theorem State.setTariff_localizer (s : State) (v : TariffStore) : (s.setTariff v).localizer = s.localizer := rfl
@[simp] theorem State.setTariff_attention (s : State) (v : TariffStore) : (s.setTariff v).attention = s.attention := rfl
@[simp] theorem State.setTariff_portsStarted (s : State) (v : TariffStore) : (s.setTariff v).portsStarted = s.portsStarted := rfl
@[simp] theorem State.setTariff_control (s : State) (v : TariffStore) : (s.setTariff v).control = s.control := rfl
@[simp] theorem State.setTariff_billing (s : State) (v : TariffStore) : (s.setTariff v).billing = s.billing := rfl
@[simp] theorem State.setTariff_choices (s : State) (v : TariffStore) : (s.setTariff v).choices = s.choices := rfl
@[simp] theorem State.setTariff_freeCount (s : State) (v : TariffStore) : (s.setTariff v).freeCount = s.freeCount := rfl
@[simp] theorem State.setTariff_pending (s : State) (v : TariffStore) : (s.setTariff v).pending = s.pending := rfl

@[simp] theorem State.setMeter_sessions (s : State) (v : MeterLink) : (s.setMeter v).sessions = s.sessions := rfl
@[simp] theorem State.setMeter_accounts (s : State) (v : MeterLink) : (s.setMeter v).accounts = s.accounts := rfl
@[simp] theorem State.setMeter_tariff (s : State) (v : MeterLink) : (s.setMeter v).tariff = s.tariff := rfl
@[simp] theorem State.setMeter_meter (s : State) (v : MeterLink) : (s.setMeter v).meter = v := rfl
@[simp] theorem State.setMeter_supply (s : State) (v : MeterLink) : (s.setMeter v).supply = s.supply := rfl
@[simp] theorem State.setMeter_planner (s : State) (v : MeterLink) : (s.setMeter v).planner = s.planner := rfl
@[simp] theorem State.setMeter_heating (s : State) (v : MeterLink) : (s.setMeter v).heating = s.heating := rfl
@[simp] theorem State.setMeter_isolation (s : State) (v : MeterLink) : (s.setMeter v).isolation = s.isolation := rfl
@[simp] theorem State.setMeter_localizer (s : State) (v : MeterLink) : (s.setMeter v).localizer = s.localizer := rfl
@[simp] theorem State.setMeter_attention (s : State) (v : MeterLink) : (s.setMeter v).attention = s.attention := rfl
@[simp] theorem State.setMeter_portsStarted (s : State) (v : MeterLink) : (s.setMeter v).portsStarted = s.portsStarted := rfl
@[simp] theorem State.setMeter_control (s : State) (v : MeterLink) : (s.setMeter v).control = s.control := rfl
@[simp] theorem State.setMeter_billing (s : State) (v : MeterLink) : (s.setMeter v).billing = s.billing := rfl
@[simp] theorem State.setMeter_choices (s : State) (v : MeterLink) : (s.setMeter v).choices = s.choices := rfl
@[simp] theorem State.setMeter_freeCount (s : State) (v : MeterLink) : (s.setMeter v).freeCount = s.freeCount := rfl
@[simp] theorem State.setMeter_pending (s : State) (v : MeterLink) : (s.setMeter v).pending = s.pending := rfl

@[simp] theorem State.setSupply_sessions (s : State) (v : OfferMonitor) : (s.setSupply v).sessions = s.sessions := rfl
@[simp] theorem State.setSupply_accounts (s : State) (v : OfferMonitor) : (s.setSupply v).accounts = s.accounts := rfl
@[simp] theorem State.setSupply_tariff (s : State) (v : OfferMonitor) : (s.setSupply v).tariff = s.tariff := rfl
@[simp] theorem State.setSupply_meter (s : State) (v : OfferMonitor) : (s.setSupply v).meter = s.meter := rfl
@[simp] theorem State.setSupply_supply (s : State) (v : OfferMonitor) : (s.setSupply v).supply = v := rfl
@[simp] theorem State.setSupply_planner (s : State) (v : OfferMonitor) : (s.setSupply v).planner = s.planner := rfl
@[simp] theorem State.setSupply_heating (s : State) (v : OfferMonitor) : (s.setSupply v).heating = s.heating := rfl
@[simp] theorem State.setSupply_isolation (s : State) (v : OfferMonitor) : (s.setSupply v).isolation = s.isolation := rfl
@[simp] theorem State.setSupply_localizer (s : State) (v : OfferMonitor) : (s.setSupply v).localizer = s.localizer := rfl
@[simp] theorem State.setSupply_attention (s : State) (v : OfferMonitor) : (s.setSupply v).attention = s.attention := rfl
@[simp] theorem State.setSupply_portsStarted (s : State) (v : OfferMonitor) : (s.setSupply v).portsStarted = s.portsStarted := rfl
@[simp] theorem State.setSupply_control (s : State) (v : OfferMonitor) : (s.setSupply v).control = s.control := rfl
@[simp] theorem State.setSupply_billing (s : State) (v : OfferMonitor) : (s.setSupply v).billing = s.billing := rfl
@[simp] theorem State.setSupply_choices (s : State) (v : OfferMonitor) : (s.setSupply v).choices = s.choices := rfl
@[simp] theorem State.setSupply_freeCount (s : State) (v : OfferMonitor) : (s.setSupply v).freeCount = s.freeCount := rfl
@[simp] theorem State.setSupply_pending (s : State) (v : OfferMonitor) : (s.setSupply v).pending = s.pending := rfl

@[simp] theorem State.setPlanner_sessions (s : State) (v : Planner) : (s.setPlanner v).sessions = s.sessions := rfl
@[simp] theorem State.setPlanner_accounts (s : State) (v : Planner) : (s.setPlanner v).accounts = s.accounts := rfl
@[simp] theorem State.setPlanner_tariff (s : State) (v : Planner) : (s.setPlanner v).tariff = s.tariff := rfl
@[simp] theorem State.setPlanner_meter (s : State) (v : Planner) : (s.setPlanner v).meter = s.meter := rfl
@[simp] theorem State.setPlanner_supply (s : State) (v : Planner) : (s.setPlanner v).supply = s.supply := rfl
@[simp] theorem State.setPlanner_planner (s : State) (v : Planner) : (s.setPlanner v).planner = v := rfl
@[simp] theorem State.setPlanner_heating (s : State) (v : Planner) : (s.setPlanner v).heating = s.heating := rfl
@[simp] theorem State.setPlanner_isolation (s : State) (v : Planner) : (s.setPlanner v).isolation = s.isolation := rfl
@[simp] theorem State.setPlanner_localizer (s : State) (v : Planner) : (s.setPlanner v).localizer = s.localizer := rfl
@[simp] theorem State.setPlanner_attention (s : State) (v : Planner) : (s.setPlanner v).attention = s.attention := rfl
@[simp] theorem State.setPlanner_portsStarted (s : State) (v : Planner) : (s.setPlanner v).portsStarted = s.portsStarted := rfl
@[simp] theorem State.setPlanner_control (s : State) (v : Planner) : (s.setPlanner v).control = s.control := rfl
@[simp] theorem State.setPlanner_billing (s : State) (v : Planner) : (s.setPlanner v).billing = s.billing := rfl
@[simp] theorem State.setPlanner_choices (s : State) (v : Planner) : (s.setPlanner v).choices = s.choices := rfl
@[simp] theorem State.setPlanner_freeCount (s : State) (v : Planner) : (s.setPlanner v).freeCount = s.freeCount := rfl
@[simp] theorem State.setPlanner_pending (s : State) (v : Planner) : (s.setPlanner v).pending = s.pending := rfl

@[simp] theorem State.setHeating_sessions (s : State) (v : HeatController) : (s.setHeating v).sessions = s.sessions := rfl
@[simp] theorem State.setHeating_accounts (s : State) (v : HeatController) : (s.setHeating v).accounts = s.accounts := rfl
@[simp] theorem State.setHeating_tariff (s : State) (v : HeatController) : (s.setHeating v).tariff = s.tariff := rfl
@[simp] theorem State.setHeating_meter (s : State) (v : HeatController) : (s.setHeating v).meter = s.meter := rfl
@[simp] theorem State.setHeating_supply (s : State) (v : HeatController) : (s.setHeating v).supply = s.supply := rfl
@[simp] theorem State.setHeating_planner (s : State) (v : HeatController) : (s.setHeating v).planner = s.planner := rfl
@[simp] theorem State.setHeating_heating (s : State) (v : HeatController) : (s.setHeating v).heating = v := rfl
@[simp] theorem State.setHeating_isolation (s : State) (v : HeatController) : (s.setHeating v).isolation = s.isolation := rfl
@[simp] theorem State.setHeating_localizer (s : State) (v : HeatController) : (s.setHeating v).localizer = s.localizer := rfl
@[simp] theorem State.setHeating_attention (s : State) (v : HeatController) : (s.setHeating v).attention = s.attention := rfl
@[simp] theorem State.setHeating_portsStarted (s : State) (v : HeatController) : (s.setHeating v).portsStarted = s.portsStarted := rfl
@[simp] theorem State.setHeating_control (s : State) (v : HeatController) : (s.setHeating v).control = s.control := rfl
@[simp] theorem State.setHeating_billing (s : State) (v : HeatController) : (s.setHeating v).billing = s.billing := rfl
@[simp] theorem State.setHeating_choices (s : State) (v : HeatController) : (s.setHeating v).choices = s.choices := rfl
@[simp] theorem State.setHeating_freeCount (s : State) (v : HeatController) : (s.setHeating v).freeCount = s.freeCount := rfl
@[simp] theorem State.setHeating_pending (s : State) (v : HeatController) : (s.setHeating v).pending = s.pending := rfl

@[simp] theorem State.setIsolation_sessions (s : State) (v : IsolationMonitor) : (s.setIsolation v).sessions = s.sessions := rfl
@[simp] theorem State.setIsolation_accounts (s : State) (v : IsolationMonitor) : (s.setIsolation v).accounts = s.accounts := rfl
@[simp] theorem State.setIsolation_tariff (s : State) (v : IsolationMonitor) : (s.setIsolation v).tariff = s.tariff := rfl
@[simp] theorem State.setIsolation_meter (s : State) (v : IsolationMonitor) : (s.setIsolation v).meter = s.meter := rfl
@[simp] theorem State.setIsolation_supply (s : State) (v : IsolationMonitor) : (s.setIsolation v).supply = s.supply := rfl
@[simp] theorem State.setIsolation_planner (s : State) (v : IsolationMonitor) : (s.setIsolation v).planner = s.planner := rfl
@[simp] theorem State.setIsolation_heating (s : State) (v : IsolationMonitor) : (s.setIsolation v).heating = s.heating := rfl
@[simp] theorem State.setIsolation_isolation (s : State) (v : IsolationMonitor) : (s.setIsolation v).isolation = v := rfl
@[simp] theorem State.setIsolation_localizer (s : State) (v : IsolationMonitor) : (s.setIsolation v).localizer = s.localizer := rfl
@[simp] theorem State.setIsolation_attention (s : State) (v : IsolationMonitor) : (s.setIsolation v).attention = s.attention := rfl
@[simp] theorem State.setIsolation_portsStarted (s : State) (v : IsolationMonitor) : (s.setIsolation v).portsStarted = s.portsStarted := rfl
@[simp] theorem State.setIsolation_control (s : State) (v : IsolationMonitor) : (s.setIsolation v).control = s.control := rfl
@[simp] theorem State.setIsolation_billing (s : State) (v : IsolationMonitor) : (s.setIsolation v).billing = s.billing := rfl
@[simp] theorem State.setIsolation_choices (s : State) (v : IsolationMonitor) : (s.setIsolation v).choices = s.choices := rfl
@[simp] theorem State.setIsolation_freeCount (s : State) (v : IsolationMonitor) : (s.setIsolation v).freeCount = s.freeCount := rfl
@[simp] theorem State.setIsolation_pending (s : State) (v : IsolationMonitor) : (s.setIsolation v).pending = s.pending := rfl

@[simp] theorem State.setLocalizer_sessions (s : State) (v : Localizer) : (s.setLocalizer v).sessions = s.sessions := rfl
@[simp] theorem State.setLocalizer_accounts (s : State) (v : Localizer) : (s.setLocalizer v).accounts = s.accounts := rfl
@[simp] theorem State.setLocalizer_tariff (s : State) (v : Localizer) : (s.setLocalizer v).tariff = s.tariff := rfl
@[simp] theorem State.setLocalizer_meter (s : State) (v : Localizer) : (s.setLocalizer v).meter = s.meter := rfl
@[simp] theorem State.setLocalizer_supply (s : State) (v : Localizer) : (s.setLocalizer v).supply = s.supply := rfl
@[simp] theorem State.setLocalizer_planner (s : State) (v : Localizer) : (s.setLocalizer v).planner = s.planner := rfl
@[simp] theorem State.setLocalizer_heating (s : State) (v : Localizer) : (s.setLocalizer v).heating = s.heating := rfl
@[simp] theorem State.setLocalizer_isolation (s : State) (v : Localizer) : (s.setLocalizer v).isolation = s.isolation := rfl
@[simp] theorem State.setLocalizer_localizer (s : State) (v : Localizer) : (s.setLocalizer v).localizer = v := rfl
@[simp] theorem State.setLocalizer_attention (s : State) (v : Localizer) : (s.setLocalizer v).attention = s.attention := rfl
@[simp] theorem State.setLocalizer_portsStarted (s : State) (v : Localizer) : (s.setLocalizer v).portsStarted = s.portsStarted := rfl
@[simp] theorem State.setLocalizer_control (s : State) (v : Localizer) : (s.setLocalizer v).control = s.control := rfl
@[simp] theorem State.setLocalizer_billing (s : State) (v : Localizer) : (s.setLocalizer v).billing = s.billing := rfl
@[simp] theorem State.setLocalizer_choices (s : State) (v : Localizer) : (s.setLocalizer v).choices = s.choices := rfl
@[simp] theorem State.setLocalizer_freeCount (s : State) (v : Localizer) : (s.setLocalizer v).freeCount = s.freeCount := rfl
@[simp] theorem State.setLocalizer_pending (s : State) (v : Localizer) : (s.setLocalizer v).pending = s.pending := rfl

@[simp] theorem State.setAttention_sessions (s : State) (v : Attention) : (s.setAttention v).sessions = s.sessions := rfl
@[simp] theorem State.setAttention_accounts (s : State) (v : Attention) : (s.setAttention v).accounts = s.accounts := rfl
@[simp] theorem State.setAttention_tariff (s : State) (v : Attention) : (s.setAttention v).tariff = s.tariff := rfl
@[simp] theorem State.setAttention_meter (s : State) (v : Attention) : (s.setAttention v).meter = s.meter := rfl
@[simp] theorem State.setAttention_supply (s : State) (v : Attention) : (s.setAttention v).supply = s.supply := rfl
@[simp] theorem State.setAttention_planner (s : State) (v : Attention) : (s.setAttention v).planner = s.planner := rfl
@[simp] theorem State.setAttention_heating (s : State) (v : Attention) : (s.setAttention v).heating = s.heating := rfl
@[simp] theorem State.setAttention_isolation (s : State) (v : Attention) : (s.setAttention v).isolation = s.isolation := rfl
@[simp] theorem State.setAttention_localizer (s : State) (v : Attention) : (s.setAttention v).localizer = s.localizer := rfl
@[simp] theorem State.setAttention_attention (s : State) (v : Attention) : (s.setAttention v).attention = v := rfl
@[simp] theorem State.setAttention_portsStarted (s : State) (v : Attention) : (s.setAttention v).portsStarted = s.portsStarted := rfl
@[simp] theorem State.setAttention_control (s : State) (v : Attention) : (s.setAttention v).control = s.control := rfl
@[simp] theorem State.setAttention_billing (s : State) (v : Attention) : (s.setAttention v).billing = s.billing := rfl
@[simp] theorem State.setAttention_choices (s : State) (v : Attention) : (s.setAttention v).choices = s.choices := rfl
@[simp] theorem State.setAttention_freeCount (s : State) (v : Attention) : (s.setAttention v).freeCount = s.freeCount := rfl
@[simp] theorem State.setAttention_pending (s : State) (v : Attention) : (s.setAttention v).pending = s.pending := rfl

@[simp] theorem State.setStarted_sessions (s : State) (v : Bool) : (s.setStarted v).sessions = s.sessions := rfl
@[simp] theorem State.setStarted_accounts (s : State) (v : Bool) : (s.setStarted v).accounts = s.accounts := rfl
@[simp] theorem State.setStarted_tariff (s : State) (v : Bool) : (s.setStarted v).tariff = s.tariff := rfl
@[simp] theorem State.setStarted_meter (s : State) (v : Bool) : (s.setStarted v).meter = s.meter := rfl
@[simp] theorem State.setStarted_supply (s : State) (v : Bool) : (s.setStarted v).supply = s.supply := rfl
@[simp] theorem State.setStarted_planner (s : State) (v : Bool) : (s.setStarted v).planner = s.planner := rfl
@[simp] theorem State.setStarted_heating (s : State) (v : Bool) : (s.setStarted v).heating = s.heating := rfl
@[simp] theorem State.setStarted_isolation (s : State) (v : Bool) : (s.setStarted v).isolation = s.isolation := rfl
@[simp] theorem State.setStarted_localizer (s : State) (v : Bool) : (s.setStarted v).localizer = s.localizer := rfl
@[simp] theorem State.setStarted_attention (s : State) (v : Bool) : (s.setStarted v).attention = s.attention := rfl
@[simp] theorem State.setStarted_portsStarted (s : State) (v : Bool) : (s.setStarted v).portsStarted = v := rfl
@[simp] theorem State.setStarted_control (s : State) (v : Bool) : (s.setStarted v).control = s.control := rfl
@[simp] theorem State.setStarted_billing (s : State) (v : Bool) : (s.setStarted v).billing = s.billing := rfl
@[simp] theorem State.setStarted_choices (s : State) (v : Bool) : (s.setStarted v).choices = s.choices := rfl
@[simp] theorem State.setStarted_freeCount (s : State) (v : Bool) : (s.setStarted v).freeCount = s.freeCount := rfl
@[simp] theorem State.setStarted_pending (s : State) (v : Bool) : (s.setStarted v).pending = s.pending := rfl

@[simp] theorem State.setControl_sessions (s : State) (v : ControlPort) : (s.setControl v).sessions = s.sessions := rfl
@[simp] theorem State.setControl_accounts (s : State) (v : ControlPort) : (s.setControl v).accounts = s.accounts := rfl
@[simp] theorem State.setControl_tariff (s : State) (v : ControlPort) : (s.setControl v).tariff = s.tariff := rfl
@[simp] theorem State.setControl_meter (s : State) (v : ControlPort) : (s.setControl v).meter = s.meter := rfl
@[simp] theorem State.setControl_supply (s : State) (v : ControlPort) : (s.setControl v).supply = s.supply := rfl
@[simp] theorem State.setControl_planner (s : State) (v : ControlPort) : (s.setControl v).planner = s.planner := rfl
@[simp] theorem State.setControl_heating (s : State) (v : ControlPort) : (s.setControl v).heating = s.heating := rfl
@[simp] theorem State.setControl_isolation (s : State) (v : ControlPort) : (s.setControl v).isolation = s.isolation := rfl
@[simp] theorem State.setControl_localizer (s : State) (v : ControlPort) : (s.setControl v).localizer = s.localizer := rfl
@[simp] theorem State.setControl_attention (s : State) (v : ControlPort) : (s.setControl v).attention = s.attention := rfl
@[simp] theorem State.setControl_portsStarted (s : State) (v : ControlPort) : (s.setControl v).portsStarted = s.portsStarted := rfl
@[simp] theorem State.setControl_control (s : State) (v : ControlPort) : (s.setControl v).control = v := rfl
@[simp] theorem State.setControl_billing (s : State) (v : ControlPort) : (s.setControl v).billing = s.billing := rfl
@[simp] theorem State.setControl_choices (s : State) (v : ControlPort) : (s.setControl v).choices = s.choices := rfl
@[simp] theorem State.setControl_freeCount (s : State) (v : ControlPort) : (s.setControl v).freeCount = s.freeCount := rfl
@[simp] theorem State.setControl_pending (s : State) (v : ControlPort) : (s.setControl v).pending = s.pending := rfl

@[simp] theorem State.setBilling_sessions (s : State) (v : BillingPort) : (s.setBilling v).sessions = s.sessions := rfl
@[simp] theorem State.setBilling_accounts (s : State) (v : BillingPort) : (s.setBilling v).accounts = s.accounts := rfl
@[simp] theorem State.setBilling_tariff (s : State) (v : BillingPort) : (s.setBilling v).tariff = s.tariff := rfl
@[simp] theorem State.setBilling_meter (s : State) (v : BillingPort) : (s.setBilling v).meter = s.meter := rfl
@[simp] theorem State.setBilling_supply (s : State) (v : BillingPort) : (s.setBilling v).supply = s.supply := rfl
@[simp] theorem State.setBilling_planner (s : State) (v : BillingPort) : (s.setBilling v).planner = s.planner := rfl
@[simp] theorem State.setBilling_heating (s : State) (v : BillingPort) : (s.setBilling v).heating = s.heating := rfl
@[simp] theorem State.setBilling_isolation (s : State) (v : BillingPort) : (s.setBilling v).isolation = s.isolation := rfl
@[simp] theorem State.setBilling_localizer (s : State) (v : BillingPort) : (s.setBilling v).localizer = s.localizer := rfl
@[simp] theorem State.setBilling_attention (s : State) (v : BillingPort) : (s.setBilling v).attention = s.attention := rfl
@[simp] theorem State.setBilling_portsStarted (s : State) (v : BillingPort) : (s.setBilling v).portsStarted = s.portsStarted := rfl
@[simp] theorem State.setBilling_control (s : State) (v : BillingPort) : (s.setBilling v).control = s.control := rfl
@[simp] theorem State.setBilling_billing (s : State) (v : BillingPort) : (s.setBilling v).billing = v := rfl
@[simp] theorem State.setBilling_choices (s : State) (v : BillingPort) : (s.setBilling v).choices = s.choices := rfl
@[simp] theorem State.setBilling_freeCount (s : State) (v : BillingPort) : (s.setBilling v).freeCount = s.freeCount := rfl
@[simp] theorem State.setBilling_pending (s : State) (v : BillingPort) : (s.setBilling v).pending = s.pending := rfl

@[simp] theorem State.setChoices_sessions (s : State) (v : List (List Taker)) : (s.setChoices v).sessions = s.sessions := rfl
@[simp] theorem State.setChoices_accounts (s : State) (v : List (List Taker)) : (s.setChoices v).accounts = s.accounts := rfl
@[simp] theorem State.setChoices_tariff (s : State) (v : List (List Taker)) : (s.setChoices v).tariff = s.tariff := rfl
@[simp] theorem State.setChoices_meter (s : State) (v : List (List Taker)) : (s.setChoices v).meter = s.meter := rfl
@[simp] theorem State.setChoices_supply (s : State) (v : List (List Taker)) : (s.setChoices v).supply = s.supply := rfl
@[simp] theorem State.setChoices_planner (s : State) (v : List (List Taker)) : (s.setChoices v).planner = s.planner := rfl
@[simp] theorem State.setChoices_heating (s : State) (v : List (List Taker)) : (s.setChoices v).heating = s.heating := rfl
@[simp] theorem State.setChoices_isolation (s : State) (v : List (List Taker)) : (s.setChoices v).isolation = s.isolation := rfl
@[simp] theorem State.setChoices_localizer (s : State) (v : List (List Taker)) : (s.setChoices v).localizer = s.localizer := rfl
@[simp] theorem State.setChoices_attention (s : State) (v : List (List Taker)) : (s.setChoices v).attention = s.attention := rfl
@[simp] theorem State.setChoices_portsStarted (s : State) (v : List (List Taker)) : (s.setChoices v).portsStarted = s.portsStarted := rfl
@[simp] theorem State.setChoices_control (s : State) (v : List (List Taker)) : (s.setChoices v).control = s.control := rfl
@[simp] theorem State.setChoices_billing (s : State) (v : List (List Taker)) : (s.setChoices v).billing = s.billing := rfl
@[simp] theorem State.setChoices_choices (s : State) (v : List (List Taker)) : (s.setChoices v).choices = v := rfl
@[simp] theorem State.setChoices_freeCount (s : State) (v : List (List Taker)) : (s.setChoices v).freeCount = s.freeCount := rfl
@[simp] theorem State.setChoices_pending (s : State) (v : List (List Taker)) : (s.setChoices v).pending = s.pending := rfl

@[simp] theorem State.setFreeCount_sessions (s : State) (v : Nat) : (s.setFreeCount v).sessions = s.sessions := rfl
@[simp] theorem State.setFreeCount_accounts (s : State) (v : Nat) : (s.setFreeCount v).accounts = s.accounts := rfl
@[simp] theorem State.setFreeCount_tariff (s : State) (v : Nat) : (s.setFreeCount v).tariff = s.tariff := rfl
@[simp] theorem State.setFreeCount_meter (s : State) (v : Nat) : (s.setFreeCount v).meter = s.meter := rfl
@[simp] theorem State.setFreeCount_supply (s : State) (v : Nat) : (s.setFreeCount v).supply = s.supply := rfl
@[simp] theorem State.setFreeCount_planner (s : State) (v : Nat) : (s.setFreeCount v).planner = s.planner := rfl
@[simp] theorem State.setFreeCount_heating (s : State) (v : Nat) : (s.setFreeCount v).heating = s.heating := rfl
@[simp] theorem State.setFreeCount_isolation (s : State) (v : Nat) : (s.setFreeCount v).isolation = s.isolation := rfl
@[simp] theorem State.setFreeCount_localizer (s : State) (v : Nat) : (s.setFreeCount v).localizer = s.localizer := rfl
@[simp] theorem State.setFreeCount_attention (s : State) (v : Nat) : (s.setFreeCount v).attention = s.attention := rfl
@[simp] theorem State.setFreeCount_portsStarted (s : State) (v : Nat) : (s.setFreeCount v).portsStarted = s.portsStarted := rfl
@[simp] theorem State.setFreeCount_control (s : State) (v : Nat) : (s.setFreeCount v).control = s.control := rfl
@[simp] theorem State.setFreeCount_billing (s : State) (v : Nat) : (s.setFreeCount v).billing = s.billing := rfl
@[simp] theorem State.setFreeCount_choices (s : State) (v : Nat) : (s.setFreeCount v).choices = s.choices := rfl
@[simp] theorem State.setFreeCount_freeCount (s : State) (v : Nat) : (s.setFreeCount v).freeCount = v := rfl
@[simp] theorem State.setFreeCount_pending (s : State) (v : Nat) : (s.setFreeCount v).pending = s.pending := rfl

@[simp] theorem State.setPending_sessions (s : State) (v : List Instr) : (s.setPending v).sessions = s.sessions := rfl
@[simp] theorem State.setPending_accounts (s : State) (v : List Instr) : (s.setPending v).accounts = s.accounts := rfl
@[simp] theorem State.setPending_tariff (s : State) (v : List Instr) : (s.setPending v).tariff = s.tariff := rfl
@[simp] theorem State.setPending_meter (s : State) (v : List Instr) : (s.setPending v).meter = s.meter := rfl
@[simp] theorem State.setPending_supply (s : State) (v : List Instr) : (s.setPending v).supply = s.supply := rfl
@[simp] theorem State.setPending_planner (s : State) (v : List Instr) : (s.setPending v).planner = s.planner := rfl
@[simp] theorem State.setPending_heating (s : State) (v : List Instr) : (s.setPending v).heating = s.heating := rfl
@[simp] theorem State.setPending_isolation (s : State) (v : List Instr) : (s.setPending v).isolation = s.isolation := rfl
@[simp] theorem State.setPending_localizer (s : State) (v : List Instr) : (s.setPending v).localizer = s.localizer := rfl
@[simp] theorem State.setPending_attention (s : State) (v : List Instr) : (s.setPending v).attention = s.attention := rfl
@[simp] theorem State.setPending_portsStarted (s : State) (v : List Instr) : (s.setPending v).portsStarted = s.portsStarted := rfl
@[simp] theorem State.setPending_control (s : State) (v : List Instr) : (s.setPending v).control = s.control := rfl
@[simp] theorem State.setPending_billing (s : State) (v : List Instr) : (s.setPending v).billing = s.billing := rfl
@[simp] theorem State.setPending_choices (s : State) (v : List Instr) : (s.setPending v).choices = s.choices := rfl
@[simp] theorem State.setPending_freeCount (s : State) (v : List Instr) : (s.setPending v).freeCount = s.freeCount := rfl
@[simp] theorem State.setPending_pending (s : State) (v : List Instr) : (s.setPending v).pending = v := rfl

/-! ### Records read after a writer of another block -/

@[simp] theorem State.setSessions_account (s : State) (v : SessionTable) (i : Fin 16) : (s.setSessions v).account i = s.account i := rfl
@[simp] theorem State.setSessions_band (s : State) (v : SessionTable) (i : Fin 32) : (s.setSessions v).band i = s.band i := rfl
@[simp] theorem State.setSessions_chain (s : State) (v : SessionTable) (i : Fin 4) : (s.setSessions v).chain i = s.chain i := rfl
@[simp] theorem State.setSessions_zone (s : State) (v : SessionTable) (i : Fin 6) : (s.setSessions v).zone i = s.zone i := rfl
@[simp] theorem State.setSessions_fault (s : State) (v : SessionTable) (i : Fin 12) : (s.setSessions v).fault i = s.fault i := rfl

@[simp] theorem State.setAccounts_session (s : State) (v : Vector Account 16) (i : Fin 8) : (s.setAccounts v).session i = s.session i := rfl
@[simp] theorem State.setAccounts_band (s : State) (v : Vector Account 16) (i : Fin 32) : (s.setAccounts v).band i = s.band i := rfl
@[simp] theorem State.setAccounts_chain (s : State) (v : Vector Account 16) (i : Fin 4) : (s.setAccounts v).chain i = s.chain i := rfl
@[simp] theorem State.setAccounts_zone (s : State) (v : Vector Account 16) (i : Fin 6) : (s.setAccounts v).zone i = s.zone i := rfl
@[simp] theorem State.setAccounts_fault (s : State) (v : Vector Account 16) (i : Fin 12) : (s.setAccounts v).fault i = s.fault i := rfl

@[simp] theorem State.setTariff_session (s : State) (v : TariffStore) (i : Fin 8) : (s.setTariff v).session i = s.session i := rfl
@[simp] theorem State.setTariff_account (s : State) (v : TariffStore) (i : Fin 16) : (s.setTariff v).account i = s.account i := rfl
@[simp] theorem State.setTariff_zone (s : State) (v : TariffStore) (i : Fin 6) : (s.setTariff v).zone i = s.zone i := rfl
@[simp] theorem State.setTariff_fault (s : State) (v : TariffStore) (i : Fin 12) : (s.setTariff v).fault i = s.fault i := rfl

@[simp] theorem State.setMeter_session (s : State) (v : MeterLink) (i : Fin 8) : (s.setMeter v).session i = s.session i := rfl
@[simp] theorem State.setMeter_account (s : State) (v : MeterLink) (i : Fin 16) : (s.setMeter v).account i = s.account i := rfl
@[simp] theorem State.setMeter_band (s : State) (v : MeterLink) (i : Fin 32) : (s.setMeter v).band i = s.band i := rfl
@[simp] theorem State.setMeter_chain (s : State) (v : MeterLink) (i : Fin 4) : (s.setMeter v).chain i = s.chain i := rfl
@[simp] theorem State.setMeter_zone (s : State) (v : MeterLink) (i : Fin 6) : (s.setMeter v).zone i = s.zone i := rfl
@[simp] theorem State.setMeter_fault (s : State) (v : MeterLink) (i : Fin 12) : (s.setMeter v).fault i = s.fault i := rfl

@[simp] theorem State.setSupply_session (s : State) (v : OfferMonitor) (i : Fin 8) : (s.setSupply v).session i = s.session i := rfl
@[simp] theorem State.setSupply_account (s : State) (v : OfferMonitor) (i : Fin 16) : (s.setSupply v).account i = s.account i := rfl
@[simp] theorem State.setSupply_band (s : State) (v : OfferMonitor) (i : Fin 32) : (s.setSupply v).band i = s.band i := rfl
@[simp] theorem State.setSupply_chain (s : State) (v : OfferMonitor) (i : Fin 4) : (s.setSupply v).chain i = s.chain i := rfl
@[simp] theorem State.setSupply_zone (s : State) (v : OfferMonitor) (i : Fin 6) : (s.setSupply v).zone i = s.zone i := rfl
@[simp] theorem State.setSupply_fault (s : State) (v : OfferMonitor) (i : Fin 12) : (s.setSupply v).fault i = s.fault i := rfl

@[simp] theorem State.setPlanner_session (s : State) (v : Planner) (i : Fin 8) : (s.setPlanner v).session i = s.session i := rfl
@[simp] theorem State.setPlanner_account (s : State) (v : Planner) (i : Fin 16) : (s.setPlanner v).account i = s.account i := rfl
@[simp] theorem State.setPlanner_band (s : State) (v : Planner) (i : Fin 32) : (s.setPlanner v).band i = s.band i := rfl
@[simp] theorem State.setPlanner_chain (s : State) (v : Planner) (i : Fin 4) : (s.setPlanner v).chain i = s.chain i := rfl
@[simp] theorem State.setPlanner_zone (s : State) (v : Planner) (i : Fin 6) : (s.setPlanner v).zone i = s.zone i := rfl
@[simp] theorem State.setPlanner_fault (s : State) (v : Planner) (i : Fin 12) : (s.setPlanner v).fault i = s.fault i := rfl

@[simp] theorem State.setHeating_session (s : State) (v : HeatController) (i : Fin 8) : (s.setHeating v).session i = s.session i := rfl
@[simp] theorem State.setHeating_account (s : State) (v : HeatController) (i : Fin 16) : (s.setHeating v).account i = s.account i := rfl
@[simp] theorem State.setHeating_band (s : State) (v : HeatController) (i : Fin 32) : (s.setHeating v).band i = s.band i := rfl
@[simp] theorem State.setHeating_chain (s : State) (v : HeatController) (i : Fin 4) : (s.setHeating v).chain i = s.chain i := rfl
@[simp] theorem State.setHeating_fault (s : State) (v : HeatController) (i : Fin 12) : (s.setHeating v).fault i = s.fault i := rfl

@[simp] theorem State.setIsolation_session (s : State) (v : IsolationMonitor) (i : Fin 8) : (s.setIsolation v).session i = s.session i := rfl
@[simp] theorem State.setIsolation_account (s : State) (v : IsolationMonitor) (i : Fin 16) : (s.setIsolation v).account i = s.account i := rfl
@[simp] theorem State.setIsolation_band (s : State) (v : IsolationMonitor) (i : Fin 32) : (s.setIsolation v).band i = s.band i := rfl
@[simp] theorem State.setIsolation_chain (s : State) (v : IsolationMonitor) (i : Fin 4) : (s.setIsolation v).chain i = s.chain i := rfl
@[simp] theorem State.setIsolation_zone (s : State) (v : IsolationMonitor) (i : Fin 6) : (s.setIsolation v).zone i = s.zone i := rfl

@[simp] theorem State.setLocalizer_session (s : State) (v : Localizer) (i : Fin 8) : (s.setLocalizer v).session i = s.session i := rfl
@[simp] theorem State.setLocalizer_account (s : State) (v : Localizer) (i : Fin 16) : (s.setLocalizer v).account i = s.account i := rfl
@[simp] theorem State.setLocalizer_band (s : State) (v : Localizer) (i : Fin 32) : (s.setLocalizer v).band i = s.band i := rfl
@[simp] theorem State.setLocalizer_chain (s : State) (v : Localizer) (i : Fin 4) : (s.setLocalizer v).chain i = s.chain i := rfl
@[simp] theorem State.setLocalizer_zone (s : State) (v : Localizer) (i : Fin 6) : (s.setLocalizer v).zone i = s.zone i := rfl
@[simp] theorem State.setLocalizer_fault (s : State) (v : Localizer) (i : Fin 12) : (s.setLocalizer v).fault i = s.fault i := rfl

@[simp] theorem State.setAttention_session (s : State) (v : Attention) (i : Fin 8) : (s.setAttention v).session i = s.session i := rfl
@[simp] theorem State.setAttention_account (s : State) (v : Attention) (i : Fin 16) : (s.setAttention v).account i = s.account i := rfl
@[simp] theorem State.setAttention_band (s : State) (v : Attention) (i : Fin 32) : (s.setAttention v).band i = s.band i := rfl
@[simp] theorem State.setAttention_chain (s : State) (v : Attention) (i : Fin 4) : (s.setAttention v).chain i = s.chain i := rfl
@[simp] theorem State.setAttention_zone (s : State) (v : Attention) (i : Fin 6) : (s.setAttention v).zone i = s.zone i := rfl
@[simp] theorem State.setAttention_fault (s : State) (v : Attention) (i : Fin 12) : (s.setAttention v).fault i = s.fault i := rfl

@[simp] theorem State.setStarted_session (s : State) (v : Bool) (i : Fin 8) : (s.setStarted v).session i = s.session i := rfl
@[simp] theorem State.setStarted_account (s : State) (v : Bool) (i : Fin 16) : (s.setStarted v).account i = s.account i := rfl
@[simp] theorem State.setStarted_band (s : State) (v : Bool) (i : Fin 32) : (s.setStarted v).band i = s.band i := rfl
@[simp] theorem State.setStarted_chain (s : State) (v : Bool) (i : Fin 4) : (s.setStarted v).chain i = s.chain i := rfl
@[simp] theorem State.setStarted_zone (s : State) (v : Bool) (i : Fin 6) : (s.setStarted v).zone i = s.zone i := rfl
@[simp] theorem State.setStarted_fault (s : State) (v : Bool) (i : Fin 12) : (s.setStarted v).fault i = s.fault i := rfl

@[simp] theorem State.setControl_session (s : State) (v : ControlPort) (i : Fin 8) : (s.setControl v).session i = s.session i := rfl
@[simp] theorem State.setControl_account (s : State) (v : ControlPort) (i : Fin 16) : (s.setControl v).account i = s.account i := rfl
@[simp] theorem State.setControl_band (s : State) (v : ControlPort) (i : Fin 32) : (s.setControl v).band i = s.band i := rfl
@[simp] theorem State.setControl_chain (s : State) (v : ControlPort) (i : Fin 4) : (s.setControl v).chain i = s.chain i := rfl
@[simp] theorem State.setControl_zone (s : State) (v : ControlPort) (i : Fin 6) : (s.setControl v).zone i = s.zone i := rfl
@[simp] theorem State.setControl_fault (s : State) (v : ControlPort) (i : Fin 12) : (s.setControl v).fault i = s.fault i := rfl

@[simp] theorem State.setBilling_session (s : State) (v : BillingPort) (i : Fin 8) : (s.setBilling v).session i = s.session i := rfl
@[simp] theorem State.setBilling_account (s : State) (v : BillingPort) (i : Fin 16) : (s.setBilling v).account i = s.account i := rfl
@[simp] theorem State.setBilling_band (s : State) (v : BillingPort) (i : Fin 32) : (s.setBilling v).band i = s.band i := rfl
@[simp] theorem State.setBilling_chain (s : State) (v : BillingPort) (i : Fin 4) : (s.setBilling v).chain i = s.chain i := rfl
@[simp] theorem State.setBilling_zone (s : State) (v : BillingPort) (i : Fin 6) : (s.setBilling v).zone i = s.zone i := rfl
@[simp] theorem State.setBilling_fault (s : State) (v : BillingPort) (i : Fin 12) : (s.setBilling v).fault i = s.fault i := rfl

@[simp] theorem State.setChoices_session (s : State) (v : List (List Taker)) (i : Fin 8) : (s.setChoices v).session i = s.session i := rfl
@[simp] theorem State.setChoices_account (s : State) (v : List (List Taker)) (i : Fin 16) : (s.setChoices v).account i = s.account i := rfl
@[simp] theorem State.setChoices_band (s : State) (v : List (List Taker)) (i : Fin 32) : (s.setChoices v).band i = s.band i := rfl
@[simp] theorem State.setChoices_chain (s : State) (v : List (List Taker)) (i : Fin 4) : (s.setChoices v).chain i = s.chain i := rfl
@[simp] theorem State.setChoices_zone (s : State) (v : List (List Taker)) (i : Fin 6) : (s.setChoices v).zone i = s.zone i := rfl
@[simp] theorem State.setChoices_fault (s : State) (v : List (List Taker)) (i : Fin 12) : (s.setChoices v).fault i = s.fault i := rfl

@[simp] theorem State.setFreeCount_session (s : State) (v : Nat) (i : Fin 8) : (s.setFreeCount v).session i = s.session i := rfl
@[simp] theorem State.setFreeCount_account (s : State) (v : Nat) (i : Fin 16) : (s.setFreeCount v).account i = s.account i := rfl
@[simp] theorem State.setFreeCount_band (s : State) (v : Nat) (i : Fin 32) : (s.setFreeCount v).band i = s.band i := rfl
@[simp] theorem State.setFreeCount_chain (s : State) (v : Nat) (i : Fin 4) : (s.setFreeCount v).chain i = s.chain i := rfl
@[simp] theorem State.setFreeCount_zone (s : State) (v : Nat) (i : Fin 6) : (s.setFreeCount v).zone i = s.zone i := rfl
@[simp] theorem State.setFreeCount_fault (s : State) (v : Nat) (i : Fin 12) : (s.setFreeCount v).fault i = s.fault i := rfl

@[simp] theorem State.setPending_session (s : State) (v : List Instr) (i : Fin 8) : (s.setPending v).session i = s.session i := rfl
@[simp] theorem State.setPending_account (s : State) (v : List Instr) (i : Fin 16) : (s.setPending v).account i = s.account i := rfl
@[simp] theorem State.setPending_band (s : State) (v : List Instr) (i : Fin 32) : (s.setPending v).band i = s.band i := rfl
@[simp] theorem State.setPending_chain (s : State) (v : List Instr) (i : Fin 4) : (s.setPending v).chain i = s.chain i := rfl
@[simp] theorem State.setPending_zone (s : State) (v : List Instr) (i : Fin 6) : (s.setPending v).zone i = s.zone i := rfl
@[simp] theorem State.setPending_fault (s : State) (v : List Instr) (i : Fin 12) : (s.setPending v).fault i = s.fault i := rfl

/-! ### Writers of a record -/

@[simp] theorem State.setSession_accounts (s : State) (i : Fin 8) (r : Session) : (s.setSession i r).accounts = s.accounts := rfl
@[simp] theorem State.setSession_tariff (s : State) (i : Fin 8) (r : Session) : (s.setSession i r).tariff = s.tariff := rfl
@[simp] theorem State.setSession_meter (s : State) (i : Fin 8) (r : Session) : (s.setSession i r).meter = s.meter := rfl
@[simp] theorem State.setSession_supply (s : State) (i : Fin 8) (r : Session) : (s.setSession i r).supply = s.supply := rfl
@[simp] theorem State.setSession_planner (s : State) (i : Fin 8) (r : Session) : (s.setSession i r).planner = s.planner := rfl
@[simp] theorem State.setSession_heating (s : State) (i : Fin 8) (r : Session) : (s.setSession i r).heating = s.heating := rfl
@[simp] theorem State.setSession_isolation (s : State) (i : Fin 8) (r : Session) : (s.setSession i r).isolation = s.isolation := rfl
@[simp] theorem State.setSession_localizer (s : State) (i : Fin 8) (r : Session) : (s.setSession i r).localizer = s.localizer := rfl
@[simp] theorem State.setSession_attention (s : State) (i : Fin 8) (r : Session) : (s.setSession i r).attention = s.attention := rfl
@[simp] theorem State.setSession_portsStarted (s : State) (i : Fin 8) (r : Session) : (s.setSession i r).portsStarted = s.portsStarted := rfl
@[simp] theorem State.setSession_control (s : State) (i : Fin 8) (r : Session) : (s.setSession i r).control = s.control := rfl
@[simp] theorem State.setSession_billing (s : State) (i : Fin 8) (r : Session) : (s.setSession i r).billing = s.billing := rfl
@[simp] theorem State.setSession_choices (s : State) (i : Fin 8) (r : Session) : (s.setSession i r).choices = s.choices := rfl
@[simp] theorem State.setSession_freeCount (s : State) (i : Fin 8) (r : Session) : (s.setSession i r).freeCount = s.freeCount := rfl
@[simp] theorem State.setSession_pending (s : State) (i : Fin 8) (r : Session) : (s.setSession i r).pending = s.pending := rfl
@[simp] theorem State.setSession_same (s : State) (i : Fin 8) (r : Session) : (s.setSession i r).session i = r := by
  simp [State.setSession, State.session]
theorem State.setSession_other (s : State) (i j : Fin 8) (r : Session) (h : i ≠ j) : (s.setSession i r).session j = s.session j := by
  have h' : i.val ≠ j.val := fun e => h (Fin.ext e)
  simp [State.setSession, State.session, h']
theorem State.setSession_at (s : State) (i j : Fin 8) (r : Session) :
    (s.setSession i r).session j = if i = j then r else s.session j := by
  by_cases h : i = j
  · subst h; simp
  · simp [h, State.setSession_other]
@[simp] theorem State.setSession_account (s : State) (i : Fin 8) (r : Session) (j : Fin 16) : (s.setSession i r).account j = s.account j := rfl
@[simp] theorem State.setSession_band (s : State) (i : Fin 8) (r : Session) (j : Fin 32) : (s.setSession i r).band j = s.band j := rfl
@[simp] theorem State.setSession_chain (s : State) (i : Fin 8) (r : Session) (j : Fin 4) : (s.setSession i r).chain j = s.chain j := rfl
@[simp] theorem State.setSession_zone (s : State) (i : Fin 8) (r : Session) (j : Fin 6) : (s.setSession i r).zone j = s.zone j := rfl
@[simp] theorem State.setSession_fault (s : State) (i : Fin 8) (r : Session) (j : Fin 12) : (s.setSession i r).fault j = s.fault j := rfl

@[simp] theorem State.setAccount_sessions (s : State) (i : Fin 16) (r : Account) : (s.setAccount i r).sessions = s.sessions := rfl
@[simp] theorem State.setAccount_tariff (s : State) (i : Fin 16) (r : Account) : (s.setAccount i r).tariff = s.tariff := rfl
@[simp] theorem State.setAccount_meter (s : State) (i : Fin 16) (r : Account) : (s.setAccount i r).meter = s.meter := rfl
@[simp] theorem State.setAccount_supply (s : State) (i : Fin 16) (r : Account) : (s.setAccount i r).supply = s.supply := rfl
@[simp] theorem State.setAccount_planner (s : State) (i : Fin 16) (r : Account) : (s.setAccount i r).planner = s.planner := rfl
@[simp] theorem State.setAccount_heating (s : State) (i : Fin 16) (r : Account) : (s.setAccount i r).heating = s.heating := rfl
@[simp] theorem State.setAccount_isolation (s : State) (i : Fin 16) (r : Account) : (s.setAccount i r).isolation = s.isolation := rfl
@[simp] theorem State.setAccount_localizer (s : State) (i : Fin 16) (r : Account) : (s.setAccount i r).localizer = s.localizer := rfl
@[simp] theorem State.setAccount_attention (s : State) (i : Fin 16) (r : Account) : (s.setAccount i r).attention = s.attention := rfl
@[simp] theorem State.setAccount_portsStarted (s : State) (i : Fin 16) (r : Account) : (s.setAccount i r).portsStarted = s.portsStarted := rfl
@[simp] theorem State.setAccount_control (s : State) (i : Fin 16) (r : Account) : (s.setAccount i r).control = s.control := rfl
@[simp] theorem State.setAccount_billing (s : State) (i : Fin 16) (r : Account) : (s.setAccount i r).billing = s.billing := rfl
@[simp] theorem State.setAccount_choices (s : State) (i : Fin 16) (r : Account) : (s.setAccount i r).choices = s.choices := rfl
@[simp] theorem State.setAccount_freeCount (s : State) (i : Fin 16) (r : Account) : (s.setAccount i r).freeCount = s.freeCount := rfl
@[simp] theorem State.setAccount_pending (s : State) (i : Fin 16) (r : Account) : (s.setAccount i r).pending = s.pending := rfl
@[simp] theorem State.setAccount_session (s : State) (i : Fin 16) (r : Account) (j : Fin 8) : (s.setAccount i r).session j = s.session j := rfl
@[simp] theorem State.setAccount_same (s : State) (i : Fin 16) (r : Account) : (s.setAccount i r).account i = r := by
  simp [State.setAccount, State.account]
theorem State.setAccount_other (s : State) (i j : Fin 16) (r : Account) (h : i ≠ j) : (s.setAccount i r).account j = s.account j := by
  have h' : i.val ≠ j.val := fun e => h (Fin.ext e)
  simp [State.setAccount, State.account, h']
theorem State.setAccount_at (s : State) (i j : Fin 16) (r : Account) :
    (s.setAccount i r).account j = if i = j then r else s.account j := by
  by_cases h : i = j
  · subst h; simp
  · simp [h, State.setAccount_other]
@[simp] theorem State.setAccount_band (s : State) (i : Fin 16) (r : Account) (j : Fin 32) : (s.setAccount i r).band j = s.band j := rfl
@[simp] theorem State.setAccount_chain (s : State) (i : Fin 16) (r : Account) (j : Fin 4) : (s.setAccount i r).chain j = s.chain j := rfl
@[simp] theorem State.setAccount_zone (s : State) (i : Fin 16) (r : Account) (j : Fin 6) : (s.setAccount i r).zone j = s.zone j := rfl
@[simp] theorem State.setAccount_fault (s : State) (i : Fin 16) (r : Account) (j : Fin 12) : (s.setAccount i r).fault j = s.fault j := rfl

@[simp] theorem State.setBand_sessions (s : State) (i : Fin 32) (r : Band) : (s.setBand i r).sessions = s.sessions := rfl
@[simp] theorem State.setBand_accounts (s : State) (i : Fin 32) (r : Band) : (s.setBand i r).accounts = s.accounts := rfl
@[simp] theorem State.setBand_meter (s : State) (i : Fin 32) (r : Band) : (s.setBand i r).meter = s.meter := rfl
@[simp] theorem State.setBand_supply (s : State) (i : Fin 32) (r : Band) : (s.setBand i r).supply = s.supply := rfl
@[simp] theorem State.setBand_planner (s : State) (i : Fin 32) (r : Band) : (s.setBand i r).planner = s.planner := rfl
@[simp] theorem State.setBand_heating (s : State) (i : Fin 32) (r : Band) : (s.setBand i r).heating = s.heating := rfl
@[simp] theorem State.setBand_isolation (s : State) (i : Fin 32) (r : Band) : (s.setBand i r).isolation = s.isolation := rfl
@[simp] theorem State.setBand_localizer (s : State) (i : Fin 32) (r : Band) : (s.setBand i r).localizer = s.localizer := rfl
@[simp] theorem State.setBand_attention (s : State) (i : Fin 32) (r : Band) : (s.setBand i r).attention = s.attention := rfl
@[simp] theorem State.setBand_portsStarted (s : State) (i : Fin 32) (r : Band) : (s.setBand i r).portsStarted = s.portsStarted := rfl
@[simp] theorem State.setBand_control (s : State) (i : Fin 32) (r : Band) : (s.setBand i r).control = s.control := rfl
@[simp] theorem State.setBand_billing (s : State) (i : Fin 32) (r : Band) : (s.setBand i r).billing = s.billing := rfl
@[simp] theorem State.setBand_choices (s : State) (i : Fin 32) (r : Band) : (s.setBand i r).choices = s.choices := rfl
@[simp] theorem State.setBand_freeCount (s : State) (i : Fin 32) (r : Band) : (s.setBand i r).freeCount = s.freeCount := rfl
@[simp] theorem State.setBand_pending (s : State) (i : Fin 32) (r : Band) : (s.setBand i r).pending = s.pending := rfl
@[simp] theorem State.setBand_session (s : State) (i : Fin 32) (r : Band) (j : Fin 8) : (s.setBand i r).session j = s.session j := rfl
@[simp] theorem State.setBand_account (s : State) (i : Fin 32) (r : Band) (j : Fin 16) : (s.setBand i r).account j = s.account j := rfl
@[simp] theorem State.setBand_same (s : State) (i : Fin 32) (r : Band) : (s.setBand i r).band i = r := by
  simp [State.setBand, State.band]
theorem State.setBand_other (s : State) (i j : Fin 32) (r : Band) (h : i ≠ j) : (s.setBand i r).band j = s.band j := by
  have h' : i.val ≠ j.val := fun e => h (Fin.ext e)
  simp [State.setBand, State.band, h']
theorem State.setBand_at (s : State) (i j : Fin 32) (r : Band) :
    (s.setBand i r).band j = if i = j then r else s.band j := by
  by_cases h : i = j
  · subst h; simp
  · simp [h, State.setBand_other]
@[simp] theorem State.setBand_chain (s : State) (i : Fin 32) (r : Band) (j : Fin 4) : (s.setBand i r).chain j = s.chain j := rfl
@[simp] theorem State.setBand_zone (s : State) (i : Fin 32) (r : Band) (j : Fin 6) : (s.setBand i r).zone j = s.zone j := rfl
@[simp] theorem State.setBand_fault (s : State) (i : Fin 32) (r : Band) (j : Fin 12) : (s.setBand i r).fault j = s.fault j := rfl

@[simp] theorem State.setChain_sessions (s : State) (i : Fin 4) (r : Chain) : (s.setChain i r).sessions = s.sessions := rfl
@[simp] theorem State.setChain_accounts (s : State) (i : Fin 4) (r : Chain) : (s.setChain i r).accounts = s.accounts := rfl
@[simp] theorem State.setChain_meter (s : State) (i : Fin 4) (r : Chain) : (s.setChain i r).meter = s.meter := rfl
@[simp] theorem State.setChain_supply (s : State) (i : Fin 4) (r : Chain) : (s.setChain i r).supply = s.supply := rfl
@[simp] theorem State.setChain_planner (s : State) (i : Fin 4) (r : Chain) : (s.setChain i r).planner = s.planner := rfl
@[simp] theorem State.setChain_heating (s : State) (i : Fin 4) (r : Chain) : (s.setChain i r).heating = s.heating := rfl
@[simp] theorem State.setChain_isolation (s : State) (i : Fin 4) (r : Chain) : (s.setChain i r).isolation = s.isolation := rfl
@[simp] theorem State.setChain_localizer (s : State) (i : Fin 4) (r : Chain) : (s.setChain i r).localizer = s.localizer := rfl
@[simp] theorem State.setChain_attention (s : State) (i : Fin 4) (r : Chain) : (s.setChain i r).attention = s.attention := rfl
@[simp] theorem State.setChain_portsStarted (s : State) (i : Fin 4) (r : Chain) : (s.setChain i r).portsStarted = s.portsStarted := rfl
@[simp] theorem State.setChain_control (s : State) (i : Fin 4) (r : Chain) : (s.setChain i r).control = s.control := rfl
@[simp] theorem State.setChain_billing (s : State) (i : Fin 4) (r : Chain) : (s.setChain i r).billing = s.billing := rfl
@[simp] theorem State.setChain_choices (s : State) (i : Fin 4) (r : Chain) : (s.setChain i r).choices = s.choices := rfl
@[simp] theorem State.setChain_freeCount (s : State) (i : Fin 4) (r : Chain) : (s.setChain i r).freeCount = s.freeCount := rfl
@[simp] theorem State.setChain_pending (s : State) (i : Fin 4) (r : Chain) : (s.setChain i r).pending = s.pending := rfl
@[simp] theorem State.setChain_session (s : State) (i : Fin 4) (r : Chain) (j : Fin 8) : (s.setChain i r).session j = s.session j := rfl
@[simp] theorem State.setChain_account (s : State) (i : Fin 4) (r : Chain) (j : Fin 16) : (s.setChain i r).account j = s.account j := rfl
@[simp] theorem State.setChain_band (s : State) (i : Fin 4) (r : Chain) (j : Fin 32) : (s.setChain i r).band j = s.band j := rfl
@[simp] theorem State.setChain_same (s : State) (i : Fin 4) (r : Chain) : (s.setChain i r).chain i = r := by
  simp [State.setChain, State.chain]
theorem State.setChain_other (s : State) (i j : Fin 4) (r : Chain) (h : i ≠ j) : (s.setChain i r).chain j = s.chain j := by
  have h' : i.val ≠ j.val := fun e => h (Fin.ext e)
  simp [State.setChain, State.chain, h']
theorem State.setChain_at (s : State) (i j : Fin 4) (r : Chain) :
    (s.setChain i r).chain j = if i = j then r else s.chain j := by
  by_cases h : i = j
  · subst h; simp
  · simp [h, State.setChain_other]
@[simp] theorem State.setChain_zone (s : State) (i : Fin 4) (r : Chain) (j : Fin 6) : (s.setChain i r).zone j = s.zone j := rfl
@[simp] theorem State.setChain_fault (s : State) (i : Fin 4) (r : Chain) (j : Fin 12) : (s.setChain i r).fault j = s.fault j := rfl

@[simp] theorem State.setZone_sessions (s : State) (i : Fin 6) (r : Zone) : (s.setZone i r).sessions = s.sessions := rfl
@[simp] theorem State.setZone_accounts (s : State) (i : Fin 6) (r : Zone) : (s.setZone i r).accounts = s.accounts := rfl
@[simp] theorem State.setZone_tariff (s : State) (i : Fin 6) (r : Zone) : (s.setZone i r).tariff = s.tariff := rfl
@[simp] theorem State.setZone_meter (s : State) (i : Fin 6) (r : Zone) : (s.setZone i r).meter = s.meter := rfl
@[simp] theorem State.setZone_supply (s : State) (i : Fin 6) (r : Zone) : (s.setZone i r).supply = s.supply := rfl
@[simp] theorem State.setZone_planner (s : State) (i : Fin 6) (r : Zone) : (s.setZone i r).planner = s.planner := rfl
@[simp] theorem State.setZone_isolation (s : State) (i : Fin 6) (r : Zone) : (s.setZone i r).isolation = s.isolation := rfl
@[simp] theorem State.setZone_localizer (s : State) (i : Fin 6) (r : Zone) : (s.setZone i r).localizer = s.localizer := rfl
@[simp] theorem State.setZone_attention (s : State) (i : Fin 6) (r : Zone) : (s.setZone i r).attention = s.attention := rfl
@[simp] theorem State.setZone_portsStarted (s : State) (i : Fin 6) (r : Zone) : (s.setZone i r).portsStarted = s.portsStarted := rfl
@[simp] theorem State.setZone_control (s : State) (i : Fin 6) (r : Zone) : (s.setZone i r).control = s.control := rfl
@[simp] theorem State.setZone_billing (s : State) (i : Fin 6) (r : Zone) : (s.setZone i r).billing = s.billing := rfl
@[simp] theorem State.setZone_choices (s : State) (i : Fin 6) (r : Zone) : (s.setZone i r).choices = s.choices := rfl
@[simp] theorem State.setZone_freeCount (s : State) (i : Fin 6) (r : Zone) : (s.setZone i r).freeCount = s.freeCount := rfl
@[simp] theorem State.setZone_pending (s : State) (i : Fin 6) (r : Zone) : (s.setZone i r).pending = s.pending := rfl
@[simp] theorem State.setZone_session (s : State) (i : Fin 6) (r : Zone) (j : Fin 8) : (s.setZone i r).session j = s.session j := rfl
@[simp] theorem State.setZone_account (s : State) (i : Fin 6) (r : Zone) (j : Fin 16) : (s.setZone i r).account j = s.account j := rfl
@[simp] theorem State.setZone_band (s : State) (i : Fin 6) (r : Zone) (j : Fin 32) : (s.setZone i r).band j = s.band j := rfl
@[simp] theorem State.setZone_chain (s : State) (i : Fin 6) (r : Zone) (j : Fin 4) : (s.setZone i r).chain j = s.chain j := rfl
@[simp] theorem State.setZone_same (s : State) (i : Fin 6) (r : Zone) : (s.setZone i r).zone i = r := by
  simp [State.setZone, State.zone]
theorem State.setZone_other (s : State) (i j : Fin 6) (r : Zone) (h : i ≠ j) : (s.setZone i r).zone j = s.zone j := by
  have h' : i.val ≠ j.val := fun e => h (Fin.ext e)
  simp [State.setZone, State.zone, h']
theorem State.setZone_at (s : State) (i j : Fin 6) (r : Zone) :
    (s.setZone i r).zone j = if i = j then r else s.zone j := by
  by_cases h : i = j
  · subst h; simp
  · simp [h, State.setZone_other]
@[simp] theorem State.setZone_fault (s : State) (i : Fin 6) (r : Zone) (j : Fin 12) : (s.setZone i r).fault j = s.fault j := rfl

@[simp] theorem State.setFault_sessions (s : State) (i : Fin 12) (r : FaultRecord) : (s.setFault i r).sessions = s.sessions := rfl
@[simp] theorem State.setFault_accounts (s : State) (i : Fin 12) (r : FaultRecord) : (s.setFault i r).accounts = s.accounts := rfl
@[simp] theorem State.setFault_tariff (s : State) (i : Fin 12) (r : FaultRecord) : (s.setFault i r).tariff = s.tariff := rfl
@[simp] theorem State.setFault_meter (s : State) (i : Fin 12) (r : FaultRecord) : (s.setFault i r).meter = s.meter := rfl
@[simp] theorem State.setFault_supply (s : State) (i : Fin 12) (r : FaultRecord) : (s.setFault i r).supply = s.supply := rfl
@[simp] theorem State.setFault_planner (s : State) (i : Fin 12) (r : FaultRecord) : (s.setFault i r).planner = s.planner := rfl
@[simp] theorem State.setFault_heating (s : State) (i : Fin 12) (r : FaultRecord) : (s.setFault i r).heating = s.heating := rfl
@[simp] theorem State.setFault_localizer (s : State) (i : Fin 12) (r : FaultRecord) : (s.setFault i r).localizer = s.localizer := rfl
@[simp] theorem State.setFault_attention (s : State) (i : Fin 12) (r : FaultRecord) : (s.setFault i r).attention = s.attention := rfl
@[simp] theorem State.setFault_portsStarted (s : State) (i : Fin 12) (r : FaultRecord) : (s.setFault i r).portsStarted = s.portsStarted := rfl
@[simp] theorem State.setFault_control (s : State) (i : Fin 12) (r : FaultRecord) : (s.setFault i r).control = s.control := rfl
@[simp] theorem State.setFault_billing (s : State) (i : Fin 12) (r : FaultRecord) : (s.setFault i r).billing = s.billing := rfl
@[simp] theorem State.setFault_choices (s : State) (i : Fin 12) (r : FaultRecord) : (s.setFault i r).choices = s.choices := rfl
@[simp] theorem State.setFault_freeCount (s : State) (i : Fin 12) (r : FaultRecord) : (s.setFault i r).freeCount = s.freeCount := rfl
@[simp] theorem State.setFault_pending (s : State) (i : Fin 12) (r : FaultRecord) : (s.setFault i r).pending = s.pending := rfl
@[simp] theorem State.setFault_session (s : State) (i : Fin 12) (r : FaultRecord) (j : Fin 8) : (s.setFault i r).session j = s.session j := rfl
@[simp] theorem State.setFault_account (s : State) (i : Fin 12) (r : FaultRecord) (j : Fin 16) : (s.setFault i r).account j = s.account j := rfl
@[simp] theorem State.setFault_band (s : State) (i : Fin 12) (r : FaultRecord) (j : Fin 32) : (s.setFault i r).band j = s.band j := rfl
@[simp] theorem State.setFault_chain (s : State) (i : Fin 12) (r : FaultRecord) (j : Fin 4) : (s.setFault i r).chain j = s.chain j := rfl
@[simp] theorem State.setFault_zone (s : State) (i : Fin 12) (r : FaultRecord) (j : Fin 6) : (s.setFault i r).zone j = s.zone j := rfl
@[simp] theorem State.setFault_same (s : State) (i : Fin 12) (r : FaultRecord) : (s.setFault i r).fault i = r := by
  simp [State.setFault, State.fault]
theorem State.setFault_other (s : State) (i j : Fin 12) (r : FaultRecord) (h : i ≠ j) : (s.setFault i r).fault j = s.fault j := by
  have h' : i.val ≠ j.val := fun e => h (Fin.ext e)
  simp [State.setFault, State.fault, h']
theorem State.setFault_at (s : State) (i j : Fin 12) (r : FaultRecord) :
    (s.setFault i r).fault j = if i = j then r else s.fault j := by
  by_cases h : i = j
  · subst h; simp
  · simp [h, State.setFault_other]

@[simp] theorem State.setSession_queue (s : State) (i : Fin 8) (r : Session) :
    (s.setSession i r).sessions.queue = s.sessions.queue := rfl
@[simp] theorem State.setSession_nextSerial (s : State) (i : Fin 8) (r : Session) :
    (s.setSession i r).sessions.nextSerial = s.sessions.nextSerial := rfl
@[simp] theorem State.setBand_calendar (s : State) (i : Fin 32) (r : Band) :
    (s.setBand i r).tariff.calendar = s.tariff.calendar := rfl
@[simp] theorem State.setChain_calendar (s : State) (i : Fin 4) (r : Chain) :
    (s.setChain i r).tariff.calendar = s.tariff.calendar := rfl
@[simp] theorem State.setFault_settings (s : State) (k : Fin 12) (r : FaultRecord) :
    (s.setFault k r).isolation.settings = s.isolation.settings := rfl

/-! ### Tables rewritten place by place -/

@[simp] theorem mapIndexed_get {α : Type} {n : Nat} (f : Fin n → α → α) (v : Vector α n) (i : Fin n) :
    (mapIndexed f v)[i] = f i v[i] := by
  simp [mapIndexed]

@[simp] theorem mapIndexed_getElem {α : Type} {n : Nat} (f : Fin n → α → α) (v : Vector α n) (i : Nat) (h : i < n) :
    (mapIndexed f v)[i] = f ⟨i, h⟩ v[i] := by
  simp [mapIndexed]

/-- A reader that no step of a fold changes reads the same after the fold. -/
theorem foldl_reads {α β : Type} (g : State → β) (f : State → α → State) (h : ∀ s a, g (f s a) = g s) (l : List α)
    (s : State) : g (l.foldl f s) = g s := by
  induction l generalizing s with
  | nil => rfl
  | cons a l ih => rw [List.foldl_cons, ih, h]

end Sys2Proof.Machine
end

