-- ==== Sys2Proof/Laws/BlockFrames.lean ====
section
/-! SUPPORT. The frame of every operation of the blocks: one lemma each, which says every field of the state that the
operation leaves as it was. -/

namespace Sys2Proof.Machine

/-! ### Shared operations -/

@[simp] theorem post_frame (c : Cause) (s : State) :
    (post c s).sessions = s.sessions ∧
    (post c s).accounts = s.accounts ∧
    (post c s).tariff = s.tariff ∧
    (post c s).meter = s.meter ∧
    (post c s).supply = s.supply ∧
    (post c s).planner = s.planner ∧
    (post c s).heating = s.heating ∧
    (post c s).isolation = s.isolation ∧
    (post c s).localizer = s.localizer ∧
    (post c s).portsStarted = s.portsStarted ∧
    (post c s).control = s.control ∧
    (post c s).billing = s.billing ∧
    (post c s).choices = s.choices ∧
    (post c s).freeCount = s.freeCount ∧
    (post c s).pending = s.pending := by
  simp [post]

@[simp] theorem passTime_frame (us : Nat) (s : State) :
    (passTime us s).sessions = s.sessions ∧
    (passTime us s).accounts = s.accounts ∧
    (passTime us s).planner = s.planner ∧
    (passTime us s).heating = s.heating ∧
    (passTime us s).isolation = s.isolation ∧
    (passTime us s).localizer = s.localizer ∧
    (passTime us s).attention = s.attention ∧
    (passTime us s).portsStarted = s.portsStarted ∧
    (passTime us s).control = s.control ∧
    (passTime us s).billing = s.billing ∧
    (passTime us s).choices = s.choices ∧
    (passTime us s).freeCount = s.freeCount ∧
    (passTime us s).pending = s.pending := by
  simp [passTime]

@[simp] theorem dropChoice_frame (s : State) :
    (dropChoice s).sessions = s.sessions ∧
    (dropChoice s).accounts = s.accounts ∧
    (dropChoice s).tariff = s.tariff ∧
    (dropChoice s).meter = s.meter ∧
    (dropChoice s).supply = s.supply ∧
    (dropChoice s).planner = s.planner ∧
    (dropChoice s).heating = s.heating ∧
    (dropChoice s).isolation = s.isolation ∧
    (dropChoice s).localizer = s.localizer ∧
    (dropChoice s).attention = s.attention ∧
    (dropChoice s).portsStarted = s.portsStarted ∧
    (dropChoice s).control = s.control ∧
    (dropChoice s).billing = s.billing ∧
    (dropChoice s).freeCount = s.freeCount ∧
    (dropChoice s).pending = s.pending := by
  simp [dropChoice]

/-! ### Chapter 3 -/

@[simp] theorem lockChain_frame (c : Fin 4) (s : State) :
    (lockChain c s).sessions = s.sessions ∧
    (lockChain c s).accounts = s.accounts ∧
    (lockChain c s).meter = s.meter ∧
    (lockChain c s).supply = s.supply ∧
    (lockChain c s).planner = s.planner ∧
    (lockChain c s).heating = s.heating ∧
    (lockChain c s).isolation = s.isolation ∧
    (lockChain c s).localizer = s.localizer ∧
    (lockChain c s).attention = s.attention ∧
    (lockChain c s).portsStarted = s.portsStarted ∧
    (lockChain c s).control = s.control ∧
    (lockChain c s).billing = s.billing ∧
    (lockChain c s).choices = s.choices ∧
    (lockChain c s).freeCount = s.freeCount ∧
    (lockChain c s).pending = s.pending := by
  simp [lockChain]

@[simp] theorem unlockChain_frame (c : Fin 4) (s : State) :
    (unlockChain c s).sessions = s.sessions ∧
    (unlockChain c s).accounts = s.accounts ∧
    (unlockChain c s).meter = s.meter ∧
    (unlockChain c s).supply = s.supply ∧
    (unlockChain c s).planner = s.planner ∧
    (unlockChain c s).heating = s.heating ∧
    (unlockChain c s).isolation = s.isolation ∧
    (unlockChain c s).localizer = s.localizer ∧
    (unlockChain c s).attention = s.attention ∧
    (unlockChain c s).portsStarted = s.portsStarted ∧
    (unlockChain c s).control = s.control ∧
    (unlockChain c s).billing = s.billing ∧
    (unlockChain c s).choices = s.choices ∧
    (unlockChain c s).freeCount = s.freeCount ∧
    (unlockChain c s).pending = s.pending := by
  simp [unlockChain]

@[simp] theorem updateBands_frame (f : Session → Option (Fin 32)) (s : State) :
    (updateBands f s).accounts = s.accounts ∧
    (updateBands f s).tariff = s.tariff ∧
    (updateBands f s).meter = s.meter ∧
    (updateBands f s).supply = s.supply ∧
    (updateBands f s).planner = s.planner ∧
    (updateBands f s).heating = s.heating ∧
    (updateBands f s).isolation = s.isolation ∧
    (updateBands f s).localizer = s.localizer ∧
    (updateBands f s).attention = s.attention ∧
    (updateBands f s).portsStarted = s.portsStarted ∧
    (updateBands f s).control = s.control ∧
    (updateBands f s).billing = s.billing ∧
    (updateBands f s).choices = s.choices ∧
    (updateBands f s).freeCount = s.freeCount ∧
    (updateBands f s).pending = s.pending := by
  simp [updateBands]

@[simp] theorem setCalendar_frame (m : Nat) (s : State) :
    (setCalendar m s).accounts = s.accounts ∧
    (setCalendar m s).meter = s.meter ∧
    (setCalendar m s).supply = s.supply ∧
    (setCalendar m s).planner = s.planner ∧
    (setCalendar m s).heating = s.heating ∧
    (setCalendar m s).isolation = s.isolation ∧
    (setCalendar m s).localizer = s.localizer ∧
    (setCalendar m s).attention = s.attention ∧
    (setCalendar m s).portsStarted = s.portsStarted ∧
    (setCalendar m s).control = s.control ∧
    (setCalendar m s).billing = s.billing ∧
    (setCalendar m s).choices = s.choices ∧
    (setCalendar m s).freeCount = s.freeCount ∧
    (setCalendar m s).pending = s.pending := by
  simp [setCalendar]

/-! ### Chapter 7, withdrawals and halts -/

@[simp] theorem clearGrants_frame (s : State) :
    (clearGrants s).sessions = s.sessions ∧
    (clearGrants s).accounts = s.accounts ∧
    (clearGrants s).tariff = s.tariff ∧
    (clearGrants s).meter = s.meter ∧
    (clearGrants s).supply = s.supply ∧
    (clearGrants s).planner = s.planner ∧
    (clearGrants s).isolation = s.isolation ∧
    (clearGrants s).localizer = s.localizer ∧
    (clearGrants s).attention = s.attention ∧
    (clearGrants s).portsStarted = s.portsStarted ∧
    (clearGrants s).control = s.control ∧
    (clearGrants s).billing = s.billing ∧
    (clearGrants s).choices = s.choices ∧
    (clearGrants s).freeCount = s.freeCount ∧
    (clearGrants s).pending = s.pending := by
  simp [clearGrants]

@[simp] theorem instructRequestLine_frame (on : Bool) (s : State) :
    (instructRequestLine on s).sessions = s.sessions ∧
    (instructRequestLine on s).accounts = s.accounts ∧
    (instructRequestLine on s).tariff = s.tariff ∧
    (instructRequestLine on s).meter = s.meter ∧
    (instructRequestLine on s).planner = s.planner ∧
    (instructRequestLine on s).heating = s.heating ∧
    (instructRequestLine on s).isolation = s.isolation ∧
    (instructRequestLine on s).localizer = s.localizer ∧
    (instructRequestLine on s).attention = s.attention ∧
    (instructRequestLine on s).portsStarted = s.portsStarted ∧
    (instructRequestLine on s).control = s.control ∧
    (instructRequestLine on s).billing = s.billing ∧
    (instructRequestLine on s).choices = s.choices ∧
    (instructRequestLine on s).freeCount = s.freeCount ∧
    (instructRequestLine on s).pending = s.pending := by
  simp [instructRequestLine]

@[simp] theorem haltPlanner_frame (s : State) :
    (haltPlanner s).sessions = s.sessions ∧
    (haltPlanner s).accounts = s.accounts ∧
    (haltPlanner s).tariff = s.tariff ∧
    (haltPlanner s).meter = s.meter ∧
    (haltPlanner s).isolation = s.isolation ∧
    (haltPlanner s).localizer = s.localizer ∧
    (haltPlanner s).attention = s.attention ∧
    (haltPlanner s).portsStarted = s.portsStarted ∧
    (haltPlanner s).control = s.control ∧
    (haltPlanner s).billing = s.billing ∧
    (haltPlanner s).choices = s.choices ∧
    (haltPlanner s).freeCount = s.freeCount ∧
    (haltPlanner s).pending = s.pending := by
  unfold haltPlanner
  (repeat' split) <;> simp

@[simp] theorem releasePlanner_frame (s : State) :
    (releasePlanner s).sessions = s.sessions ∧
    (releasePlanner s).accounts = s.accounts ∧
    (releasePlanner s).tariff = s.tariff ∧
    (releasePlanner s).meter = s.meter ∧
    (releasePlanner s).supply = s.supply ∧
    (releasePlanner s).heating = s.heating ∧
    (releasePlanner s).isolation = s.isolation ∧
    (releasePlanner s).localizer = s.localizer ∧
    (releasePlanner s).attention = s.attention ∧
    (releasePlanner s).portsStarted = s.portsStarted ∧
    (releasePlanner s).control = s.control ∧
    (releasePlanner s).billing = s.billing ∧
    (releasePlanner s).choices = s.choices ∧
    (releasePlanner s).freeCount = s.freeCount ∧
    (releasePlanner s).pending = s.pending := by
  unfold releasePlanner
  (repeat' split) <;> simp

@[simp] theorem cutBudget_frame (s : State) :
    (cutBudget s).sessions = s.sessions ∧
    (cutBudget s).accounts = s.accounts ∧
    (cutBudget s).tariff = s.tariff ∧
    (cutBudget s).meter = s.meter ∧
    (cutBudget s).supply = s.supply ∧
    (cutBudget s).heating = s.heating ∧
    (cutBudget s).isolation = s.isolation ∧
    (cutBudget s).localizer = s.localizer ∧
    (cutBudget s).attention = s.attention ∧
    (cutBudget s).portsStarted = s.portsStarted ∧
    (cutBudget s).control = s.control ∧
    (cutBudget s).billing = s.billing ∧
    (cutBudget s).choices = s.choices ∧
    (cutBudget s).freeCount = s.freeCount ∧
    (cutBudget s).pending = s.pending := by
  simp [cutBudget]

@[simp] theorem offeredChanged_frame (before : Option Nat) (s : State) :
    (offeredChanged before s).sessions = s.sessions ∧
    (offeredChanged before s).accounts = s.accounts ∧
    (offeredChanged before s).tariff = s.tariff ∧
    (offeredChanged before s).meter = s.meter ∧
    (offeredChanged before s).supply = s.supply ∧
    (offeredChanged before s).heating = s.heating ∧
    (offeredChanged before s).isolation = s.isolation ∧
    (offeredChanged before s).localizer = s.localizer ∧
    (offeredChanged before s).attention = s.attention ∧
    (offeredChanged before s).portsStarted = s.portsStarted ∧
    (offeredChanged before s).control = s.control ∧
    (offeredChanged before s).billing = s.billing ∧
    (offeredChanged before s).choices = s.choices ∧
    (offeredChanged before s).freeCount = s.freeCount ∧
    (offeredChanged before s).pending = s.pending := by
  unfold offeredChanged
  (repeat' split) <;> simp

@[simp] theorem judgeStanding_frame (s : State) :
    (judgeStanding s).sessions = s.sessions ∧
    (judgeStanding s).accounts = s.accounts ∧
    (judgeStanding s).tariff = s.tariff ∧
    (judgeStanding s).meter = s.meter ∧
    (judgeStanding s).supply = s.supply ∧
    (judgeStanding s).heating = s.heating ∧
    (judgeStanding s).isolation = s.isolation ∧
    (judgeStanding s).localizer = s.localizer ∧
    (judgeStanding s).attention = s.attention ∧
    (judgeStanding s).portsStarted = s.portsStarted ∧
    (judgeStanding s).control = s.control ∧
    (judgeStanding s).billing = s.billing ∧
    (judgeStanding s).choices = s.choices ∧
    (judgeStanding s).freeCount = s.freeCount ∧
    (judgeStanding s).pending = s.pending := by
  unfold judgeStanding
  (repeat' split) <;> simp

@[simp] theorem plannerSessionChanged_frame (leftActive : Bool) (s : State) :
    (plannerSessionChanged leftActive s).sessions = s.sessions ∧
    (plannerSessionChanged leftActive s).accounts = s.accounts ∧
    (plannerSessionChanged leftActive s).tariff = s.tariff ∧
    (plannerSessionChanged leftActive s).meter = s.meter ∧
    (plannerSessionChanged leftActive s).supply = s.supply ∧
    (plannerSessionChanged leftActive s).heating = s.heating ∧
    (plannerSessionChanged leftActive s).isolation = s.isolation ∧
    (plannerSessionChanged leftActive s).localizer = s.localizer ∧
    (plannerSessionChanged leftActive s).attention = s.attention ∧
    (plannerSessionChanged leftActive s).portsStarted = s.portsStarted ∧
    (plannerSessionChanged leftActive s).control = s.control ∧
    (plannerSessionChanged leftActive s).billing = s.billing ∧
    (plannerSessionChanged leftActive s).choices = s.choices ∧
    (plannerSessionChanged leftActive s).freeCount = s.freeCount ∧
    (plannerSessionChanged leftActive s).pending = s.pending := by
  unfold plannerSessionChanged
  (repeat' split) <;> simp

@[simp] theorem withdrawZoneAtOnce_frame (z : Fin 6) (s : State) :
    (withdrawZoneAtOnce z s).sessions = s.sessions ∧
    (withdrawZoneAtOnce z s).accounts = s.accounts ∧
    (withdrawZoneAtOnce z s).tariff = s.tariff ∧
    (withdrawZoneAtOnce z s).meter = s.meter ∧
    (withdrawZoneAtOnce z s).supply = s.supply ∧
    (withdrawZoneAtOnce z s).isolation = s.isolation ∧
    (withdrawZoneAtOnce z s).localizer = s.localizer ∧
    (withdrawZoneAtOnce z s).attention = s.attention ∧
    (withdrawZoneAtOnce z s).portsStarted = s.portsStarted ∧
    (withdrawZoneAtOnce z s).control = s.control ∧
    (withdrawZoneAtOnce z s).billing = s.billing ∧
    (withdrawZoneAtOnce z s).choices = s.choices ∧
    (withdrawZoneAtOnce z s).freeCount = s.freeCount ∧
    (withdrawZoneAtOnce z s).pending = s.pending := by
  simp [withdrawZoneAtOnce]

/-! ### Chapter 8 -/

@[simp] theorem recomputeDemand_frame (z : Fin 6) (s : State) :
    (recomputeDemand z s).sessions = s.sessions ∧
    (recomputeDemand z s).accounts = s.accounts ∧
    (recomputeDemand z s).tariff = s.tariff ∧
    (recomputeDemand z s).meter = s.meter ∧
    (recomputeDemand z s).supply = s.supply ∧
    (recomputeDemand z s).planner = s.planner ∧
    (recomputeDemand z s).isolation = s.isolation ∧
    (recomputeDemand z s).localizer = s.localizer ∧
    (recomputeDemand z s).attention = s.attention ∧
    (recomputeDemand z s).portsStarted = s.portsStarted ∧
    (recomputeDemand z s).control = s.control ∧
    (recomputeDemand z s).billing = s.billing ∧
    (recomputeDemand z s).choices = s.choices ∧
    (recomputeDemand z s).freeCount = s.freeCount ∧
    (recomputeDemand z s).pending = s.pending := by
  simp [recomputeDemand]

@[simp] theorem recomputeDemands_frame (s : State) :
    (recomputeDemands s).sessions = s.sessions ∧
    (recomputeDemands s).accounts = s.accounts ∧
    (recomputeDemands s).tariff = s.tariff ∧
    (recomputeDemands s).meter = s.meter ∧
    (recomputeDemands s).supply = s.supply ∧
    (recomputeDemands s).planner = s.planner ∧
    (recomputeDemands s).isolation = s.isolation ∧
    (recomputeDemands s).localizer = s.localizer ∧
    (recomputeDemands s).attention = s.attention ∧
    (recomputeDemands s).portsStarted = s.portsStarted ∧
    (recomputeDemands s).control = s.control ∧
    (recomputeDemands s).billing = s.billing ∧
    (recomputeDemands s).choices = s.choices ∧
    (recomputeDemands s).freeCount = s.freeCount ∧
    (recomputeDemands s).pending = s.pending := by
  simp [recomputeDemands]

@[simp] theorem heatFrame_frame (f : MeterFrame) (s : State) :
    (heatFrame f s).sessions = s.sessions ∧
    (heatFrame f s).accounts = s.accounts ∧
    (heatFrame f s).tariff = s.tariff ∧
    (heatFrame f s).meter = s.meter ∧
    (heatFrame f s).supply = s.supply ∧
    (heatFrame f s).planner = s.planner ∧
    (heatFrame f s).isolation = s.isolation ∧
    (heatFrame f s).localizer = s.localizer ∧
    (heatFrame f s).attention = s.attention ∧
    (heatFrame f s).portsStarted = s.portsStarted ∧
    (heatFrame f s).control = s.control ∧
    (heatFrame f s).billing = s.billing ∧
    (heatFrame f s).choices = s.choices ∧
    (heatFrame f s).freeCount = s.freeCount ∧
    (heatFrame f s).pending = s.pending := by
  simp [heatFrame]

@[simp] theorem storeAdmission_frame (s : State) :
    (storeAdmission s).sessions = s.sessions ∧
    (storeAdmission s).accounts = s.accounts ∧
    (storeAdmission s).tariff = s.tariff ∧
    (storeAdmission s).meter = s.meter ∧
    (storeAdmission s).supply = s.supply ∧
    (storeAdmission s).planner = s.planner ∧
    (storeAdmission s).isolation = s.isolation ∧
    (storeAdmission s).localizer = s.localizer ∧
    (storeAdmission s).attention = s.attention ∧
    (storeAdmission s).portsStarted = s.portsStarted ∧
    (storeAdmission s).control = s.control ∧
    (storeAdmission s).billing = s.billing ∧
    (storeAdmission s).choices = s.choices ∧
    (storeAdmission s).freeCount = s.freeCount ∧
    (storeAdmission s).pending = s.pending := by
  simp [storeAdmission]

@[simp] theorem excludeZone_frame (z : Fin 6) (s : State) :
    (excludeZone z s).sessions = s.sessions ∧
    (excludeZone z s).accounts = s.accounts ∧
    (excludeZone z s).tariff = s.tariff ∧
    (excludeZone z s).meter = s.meter ∧
    (excludeZone z s).supply = s.supply ∧
    (excludeZone z s).localizer = s.localizer ∧
    (excludeZone z s).attention = s.attention ∧
    (excludeZone z s).portsStarted = s.portsStarted ∧
    (excludeZone z s).control = s.control ∧
    (excludeZone z s).billing = s.billing ∧
    (excludeZone z s).choices = s.choices ∧
    (excludeZone z s).freeCount = s.freeCount ∧
    (excludeZone z s).pending = s.pending := by
  unfold excludeZone
  (repeat' split) <;> simp

@[simp] theorem putUnderTest_frame (z : Fin 6) (s : State) :
    (putUnderTest z s).sessions = s.sessions ∧
    (putUnderTest z s).accounts = s.accounts ∧
    (putUnderTest z s).tariff = s.tariff ∧
    (putUnderTest z s).meter = s.meter ∧
    (putUnderTest z s).supply = s.supply ∧
    (putUnderTest z s).isolation = s.isolation ∧
    (putUnderTest z s).localizer = s.localizer ∧
    (putUnderTest z s).attention = s.attention ∧
    (putUnderTest z s).portsStarted = s.portsStarted ∧
    (putUnderTest z s).control = s.control ∧
    (putUnderTest z s).billing = s.billing ∧
    (putUnderTest z s).choices = s.choices ∧
    (putUnderTest z s).freeCount = s.freeCount ∧
    (putUnderTest z s).pending = s.pending := by
  simp [putUnderTest]

@[simp] theorem clearUnderTest_frame (z : Fin 6) (s : State) :
    (clearUnderTest z s).sessions = s.sessions ∧
    (clearUnderTest z s).accounts = s.accounts ∧
    (clearUnderTest z s).tariff = s.tariff ∧
    (clearUnderTest z s).meter = s.meter ∧
    (clearUnderTest z s).supply = s.supply ∧
    (clearUnderTest z s).planner = s.planner ∧
    (clearUnderTest z s).isolation = s.isolation ∧
    (clearUnderTest z s).localizer = s.localizer ∧
    (clearUnderTest z s).attention = s.attention ∧
    (clearUnderTest z s).portsStarted = s.portsStarted ∧
    (clearUnderTest z s).control = s.control ∧
    (clearUnderTest z s).billing = s.billing ∧
    (clearUnderTest z s).choices = s.choices ∧
    (clearUnderTest z s).freeCount = s.freeCount ∧
    (clearUnderTest z s).pending = s.pending := by
  simp [clearUnderTest]

/-! ### The Fault Table and the pause reasons -/

@[simp] theorem changeReasonsQuietly_frame (i : Fin 8) (f : PauseReasons → PauseReasons) (s : State) :
    (changeReasonsQuietly i f s).accounts = s.accounts ∧
    (changeReasonsQuietly i f s).tariff = s.tariff ∧
    (changeReasonsQuietly i f s).meter = s.meter ∧
    (changeReasonsQuietly i f s).supply = s.supply ∧
    (changeReasonsQuietly i f s).heating = s.heating ∧
    (changeReasonsQuietly i f s).isolation = s.isolation ∧
    (changeReasonsQuietly i f s).localizer = s.localizer ∧
    (changeReasonsQuietly i f s).portsStarted = s.portsStarted ∧
    (changeReasonsQuietly i f s).control = s.control ∧
    (changeReasonsQuietly i f s).billing = s.billing ∧
    (changeReasonsQuietly i f s).choices = s.choices ∧
    (changeReasonsQuietly i f s).freeCount = s.freeCount ∧
    (changeReasonsQuietly i f s).pending = s.pending := by
  unfold changeReasonsQuietly
  dsimp only
  (repeat' split) <;> simp

@[simp] theorem changeLiveQuietly_frame (f : PauseReasons → PauseReasons) (s : State) :
    (changeLiveQuietly f s).accounts = s.accounts ∧
    (changeLiveQuietly f s).tariff = s.tariff ∧
    (changeLiveQuietly f s).meter = s.meter ∧
    (changeLiveQuietly f s).supply = s.supply ∧
    (changeLiveQuietly f s).heating = s.heating ∧
    (changeLiveQuietly f s).isolation = s.isolation ∧
    (changeLiveQuietly f s).localizer = s.localizer ∧
    (changeLiveQuietly f s).portsStarted = s.portsStarted ∧
    (changeLiveQuietly f s).control = s.control ∧
    (changeLiveQuietly f s).billing = s.billing ∧
    (changeLiveQuietly f s).choices = s.choices ∧
    (changeLiveQuietly f s).freeCount = s.freeCount ∧
    (changeLiveQuietly f s).pending = s.pending := by
  unfold changeLiveQuietly
  (repeat' split) <;> simp

@[simp] theorem confirmFault_frame (k : Fin 12) (reading : Option Nat) (s : State) :
    (confirmFault k reading s).sessions = s.sessions ∧
    (confirmFault k reading s).accounts = s.accounts ∧
    (confirmFault k reading s).tariff = s.tariff ∧
    (confirmFault k reading s).meter = s.meter ∧
    (confirmFault k reading s).supply = s.supply ∧
    (confirmFault k reading s).planner = s.planner ∧
    (confirmFault k reading s).heating = s.heating ∧
    (confirmFault k reading s).localizer = s.localizer ∧
    (confirmFault k reading s).portsStarted = s.portsStarted ∧
    (confirmFault k reading s).control = s.control ∧
    (confirmFault k reading s).billing = s.billing ∧
    (confirmFault k reading s).choices = s.choices ∧
    (confirmFault k reading s).freeCount = s.freeCount ∧
    (confirmFault k reading s).pending = s.pending := by
  unfold confirmFault
  (repeat' split) <;> simp

@[simp] theorem clearFault_frame (k : Fin 12) (s : State) :
    (clearFault k s).sessions = s.sessions ∧
    (clearFault k s).accounts = s.accounts ∧
    (clearFault k s).tariff = s.tariff ∧
    (clearFault k s).meter = s.meter ∧
    (clearFault k s).supply = s.supply ∧
    (clearFault k s).planner = s.planner ∧
    (clearFault k s).heating = s.heating ∧
    (clearFault k s).localizer = s.localizer ∧
    (clearFault k s).portsStarted = s.portsStarted ∧
    (clearFault k s).control = s.control ∧
    (clearFault k s).billing = s.billing ∧
    (clearFault k s).choices = s.choices ∧
    (clearFault k s).freeCount = s.freeCount ∧
    (clearFault k s).pending = s.pending := by
  unfold clearFault
  (repeat' split) <;> simp

@[simp] theorem handIsolation_frame (before : Bool) (s : State) :
    (handIsolation before s).accounts = s.accounts ∧
    (handIsolation before s).tariff = s.tariff ∧
    (handIsolation before s).meter = s.meter ∧
    (handIsolation before s).supply = s.supply ∧
    (handIsolation before s).heating = s.heating ∧
    (handIsolation before s).isolation = s.isolation ∧
    (handIsolation before s).localizer = s.localizer ∧
    (handIsolation before s).portsStarted = s.portsStarted ∧
    (handIsolation before s).control = s.control ∧
    (handIsolation before s).billing = s.billing ∧
    (handIsolation before s).choices = s.choices ∧
    (handIsolation before s).freeCount = s.freeCount ∧
    (handIsolation before s).pending = s.pending := by
  unfold handIsolation
  (repeat' split) <;> simp

@[simp] theorem writeVerdict_frame (rail : Rail) (v : Verdict) (s : State) :
    (writeVerdict rail v s).accounts = s.accounts ∧
    (writeVerdict rail v s).tariff = s.tariff ∧
    (writeVerdict rail v s).meter = s.meter ∧
    (writeVerdict rail v s).supply = s.supply ∧
    (writeVerdict rail v s).heating = s.heating ∧
    (writeVerdict rail v s).localizer = s.localizer ∧
    (writeVerdict rail v s).portsStarted = s.portsStarted ∧
    (writeVerdict rail v s).control = s.control ∧
    (writeVerdict rail v s).billing = s.billing ∧
    (writeVerdict rail v s).choices = s.choices ∧
    (writeVerdict rail v s).freeCount = s.freeCount ∧
    (writeVerdict rail v s).pending = s.pending := by
  simp [writeVerdict]

/-! ### Chapter 10 -/

@[simp] theorem releaseSuspect_frame (s : State) :
    (releaseSuspect s).sessions = s.sessions ∧
    (releaseSuspect s).accounts = s.accounts ∧
    (releaseSuspect s).tariff = s.tariff ∧
    (releaseSuspect s).meter = s.meter ∧
    (releaseSuspect s).supply = s.supply ∧
    (releaseSuspect s).planner = s.planner ∧
    (releaseSuspect s).isolation = s.isolation ∧
    (releaseSuspect s).attention = s.attention ∧
    (releaseSuspect s).portsStarted = s.portsStarted ∧
    (releaseSuspect s).control = s.control ∧
    (releaseSuspect s).billing = s.billing ∧
    (releaseSuspect s).choices = s.choices ∧
    (releaseSuspect s).freeCount = s.freeCount ∧
    (releaseSuspect s).pending = s.pending := by
  unfold releaseSuspect
  (repeat' split) <;> simp

@[simp] theorem verdictEffect_frame (v : Verdict) (s : State) :
    (verdictEffect v s).sessions = s.sessions ∧
    (verdictEffect v s).accounts = s.accounts ∧
    (verdictEffect v s).tariff = s.tariff ∧
    (verdictEffect v s).meter = s.meter ∧
    (verdictEffect v s).supply = s.supply ∧
    (verdictEffect v s).attention = s.attention ∧
    (verdictEffect v s).portsStarted = s.portsStarted ∧
    (verdictEffect v s).control = s.control ∧
    (verdictEffect v s).billing = s.billing ∧
    (verdictEffect v s).choices = s.choices ∧
    (verdictEffect v s).freeCount = s.freeCount ∧
    (verdictEffect v s).pending = s.pending := by
  unfold verdictEffect
  (repeat' split) <;> simp

@[simp] theorem deliverVerdict_frame (v : Verdict) (s : State) :
    (deliverVerdict v s).accounts = s.accounts ∧
    (deliverVerdict v s).tariff = s.tariff ∧
    (deliverVerdict v s).meter = s.meter ∧
    (deliverVerdict v s).supply = s.supply ∧
    (deliverVerdict v s).portsStarted = s.portsStarted ∧
    (deliverVerdict v s).control = s.control ∧
    (deliverVerdict v s).billing = s.billing ∧
    (deliverVerdict v s).choices = s.choices ∧
    (deliverVerdict v s).freeCount = s.freeCount ∧
    (deliverVerdict v s).pending = s.pending := by
  unfold deliverVerdict
  (repeat' split) <;> simp

@[simp] theorem beginStep_frame (x : Suspect) (rest : List Suspect) (s : State) :
    (beginStep x rest s).sessions = s.sessions ∧
    (beginStep x rest s).accounts = s.accounts ∧
    (beginStep x rest s).tariff = s.tariff ∧
    (beginStep x rest s).meter = s.meter ∧
    (beginStep x rest s).supply = s.supply ∧
    (beginStep x rest s).isolation = s.isolation ∧
    (beginStep x rest s).attention = s.attention ∧
    (beginStep x rest s).portsStarted = s.portsStarted ∧
    (beginStep x rest s).control = s.control ∧
    (beginStep x rest s).billing = s.billing ∧
    (beginStep x rest s).choices = s.choices ∧
    (beginStep x rest s).freeCount = s.freeCount ∧
    (beginStep x rest s).pending = s.pending := by
  unfold beginStep
  (repeat' split) <;> simp

@[simp] theorem takeSuspect_frame (l : List Suspect) (s : State) :
    (takeSuspect l s).accounts = s.accounts ∧
    (takeSuspect l s).tariff = s.tariff ∧
    (takeSuspect l s).meter = s.meter ∧
    (takeSuspect l s).supply = s.supply ∧
    (takeSuspect l s).portsStarted = s.portsStarted ∧
    (takeSuspect l s).control = s.control ∧
    (takeSuspect l s).billing = s.billing ∧
    (takeSuspect l s).choices = s.choices ∧
    (takeSuspect l s).freeCount = s.freeCount ∧
    (takeSuspect l s).pending = s.pending := by
  induction l generalizing s with
  | nil => simp [takeSuspect]
  | cons x below ih => unfold takeSuspect; split <;> simp [ih]

@[simp] theorem nextStep_frame (s : State) :
    (nextStep s).accounts = s.accounts ∧
    (nextStep s).tariff = s.tariff ∧
    (nextStep s).meter = s.meter ∧
    (nextStep s).supply = s.supply ∧
    (nextStep s).portsStarted = s.portsStarted ∧
    (nextStep s).control = s.control ∧
    (nextStep s).billing = s.billing ∧
    (nextStep s).choices = s.choices ∧
    (nextStep s).freeCount = s.freeCount ∧
    (nextStep s).pending = s.pending := by
  simp [nextStep]

@[simp] theorem startLocalization_frame (rail : Rail) (s : State) :
    (startLocalization rail s).accounts = s.accounts ∧
    (startLocalization rail s).tariff = s.tariff ∧
    (startLocalization rail s).meter = s.meter ∧
    (startLocalization rail s).supply = s.supply ∧
    (startLocalization rail s).portsStarted = s.portsStarted ∧
    (startLocalization rail s).control = s.control ∧
    (startLocalization rail s).billing = s.billing ∧
    (startLocalization rail s).choices = s.choices ∧
    (startLocalization rail s).freeCount = s.freeCount ∧
    (startLocalization rail s).pending = s.pending := by
  simp [startLocalization]

@[simp] theorem warningConfirmed_frame (rail : Rail) (s : State) :
    (warningConfirmed rail s).accounts = s.accounts ∧
    (warningConfirmed rail s).tariff = s.tariff ∧
    (warningConfirmed rail s).meter = s.meter ∧
    (warningConfirmed rail s).supply = s.supply ∧
    (warningConfirmed rail s).portsStarted = s.portsStarted ∧
    (warningConfirmed rail s).control = s.control ∧
    (warningConfirmed rail s).billing = s.billing ∧
    (warningConfirmed rail s).choices = s.choices ∧
    (warningConfirmed rail s).freeCount = s.freeCount ∧
    (warningConfirmed rail s).pending = s.pending := by
  unfold warningConfirmed
  (repeat' split) <;> simp

@[simp] theorem advanceSuspect_frame (s : State) :
    (advanceSuspect s).accounts = s.accounts ∧
    (advanceSuspect s).tariff = s.tariff ∧
    (advanceSuspect s).meter = s.meter ∧
    (advanceSuspect s).supply = s.supply ∧
    (advanceSuspect s).portsStarted = s.portsStarted ∧
    (advanceSuspect s).control = s.control ∧
    (advanceSuspect s).billing = s.billing ∧
    (advanceSuspect s).choices = s.choices ∧
    (advanceSuspect s).freeCount = s.freeCount ∧
    (advanceSuspect s).pending = s.pending := by
  simp [advanceSuspect]

@[simp] theorem abortDwell_frame (s : State) :
    (abortDwell s).accounts = s.accounts ∧
    (abortDwell s).tariff = s.tariff ∧
    (abortDwell s).meter = s.meter ∧
    (abortDwell s).supply = s.supply ∧
    (abortDwell s).portsStarted = s.portsStarted ∧
    (abortDwell s).control = s.control ∧
    (abortDwell s).billing = s.billing ∧
    (abortDwell s).choices = s.choices ∧
    (abortDwell s).freeCount = s.freeCount ∧
    (abortDwell s).pending = s.pending := by
  unfold abortDwell
  (repeat' split) <;> simp

@[simp] theorem localizerSessionLeft_frame (s : State) :
    (localizerSessionLeft s).accounts = s.accounts ∧
    (localizerSessionLeft s).tariff = s.tariff ∧
    (localizerSessionLeft s).meter = s.meter ∧
    (localizerSessionLeft s).supply = s.supply ∧
    (localizerSessionLeft s).portsStarted = s.portsStarted ∧
    (localizerSessionLeft s).control = s.control ∧
    (localizerSessionLeft s).billing = s.billing ∧
    (localizerSessionLeft s).choices = s.choices ∧
    (localizerSessionLeft s).freeCount = s.freeCount ∧
    (localizerSessionLeft s).pending = s.pending := by
  unfold localizerSessionLeft
  (repeat' split) <;> simp

@[simp] theorem localizerZoneOff_frame (z : Fin 6) (s : State) :
    (localizerZoneOff z s).accounts = s.accounts ∧
    (localizerZoneOff z s).tariff = s.tariff ∧
    (localizerZoneOff z s).meter = s.meter ∧
    (localizerZoneOff z s).supply = s.supply ∧
    (localizerZoneOff z s).portsStarted = s.portsStarted ∧
    (localizerZoneOff z s).control = s.control ∧
    (localizerZoneOff z s).billing = s.billing ∧
    (localizerZoneOff z s).choices = s.choices ∧
    (localizerZoneOff z s).freeCount = s.freeCount ∧
    (localizerZoneOff z s).pending = s.pending := by
  unfold localizerZoneOff
  (repeat' split) <;> simp

@[simp] theorem evaluateStep_frame (s : State) :
    (evaluateStep s).accounts = s.accounts ∧
    (evaluateStep s).tariff = s.tariff ∧
    (evaluateStep s).meter = s.meter ∧
    (evaluateStep s).supply = s.supply ∧
    (evaluateStep s).portsStarted = s.portsStarted ∧
    (evaluateStep s).control = s.control ∧
    (evaluateStep s).billing = s.billing ∧
    (evaluateStep s).choices = s.choices ∧
    (evaluateStep s).freeCount = s.freeCount ∧
    (evaluateStep s).pending = s.pending := by
  unfold evaluateStep
  (repeat' split) <;> simp

@[simp] theorem localizerFrame_frame (f : MeterFrame) (s : State) :
    (localizerFrame f s).accounts = s.accounts ∧
    (localizerFrame f s).tariff = s.tariff ∧
    (localizerFrame f s).meter = s.meter ∧
    (localizerFrame f s).supply = s.supply ∧
    (localizerFrame f s).portsStarted = s.portsStarted ∧
    (localizerFrame f s).control = s.control ∧
    (localizerFrame f s).billing = s.billing ∧
    (localizerFrame f s).choices = s.choices ∧
    (localizerFrame f s).freeCount = s.freeCount ∧
    (localizerFrame f s).pending = s.pending := by
  unfold localizerFrame
  dsimp only
  (repeat' split) <;> simp

/-! ### Chapters 1 and 2 -/

@[simp] theorem sessionChanged_frame (left : Bool) (s : State) :
    (sessionChanged left s).accounts = s.accounts ∧
    (sessionChanged left s).tariff = s.tariff ∧
    (sessionChanged left s).meter = s.meter ∧
    (sessionChanged left s).supply = s.supply ∧
    (sessionChanged left s).portsStarted = s.portsStarted ∧
    (sessionChanged left s).control = s.control ∧
    (sessionChanged left s).billing = s.billing ∧
    (sessionChanged left s).choices = s.choices ∧
    (sessionChanged left s).freeCount = s.freeCount ∧
    (sessionChanged left s).pending = s.pending := by
  unfold sessionChanged
  (repeat' split) <;> simp

@[simp] theorem changeReasons_frame (i : Fin 8) (f : PauseReasons → PauseReasons) (s : State) :
    (changeReasons i f s).accounts = s.accounts ∧
    (changeReasons i f s).tariff = s.tariff ∧
    (changeReasons i f s).meter = s.meter ∧
    (changeReasons i f s).supply = s.supply ∧
    (changeReasons i f s).portsStarted = s.portsStarted ∧
    (changeReasons i f s).control = s.control ∧
    (changeReasons i f s).billing = s.billing ∧
    (changeReasons i f s).choices = s.choices ∧
    (changeReasons i f s).freeCount = s.freeCount ∧
    (changeReasons i f s).pending = s.pending := by
  unfold changeReasons
  dsimp only
  (repeat' split) <;> simp

@[simp] theorem changeLive_frame (f : PauseReasons → PauseReasons) (s : State) :
    (changeLive f s).accounts = s.accounts ∧
    (changeLive f s).tariff = s.tariff ∧
    (changeLive f s).meter = s.meter ∧
    (changeLive f s).supply = s.supply ∧
    (changeLive f s).portsStarted = s.portsStarted ∧
    (changeLive f s).control = s.control ∧
    (changeLive f s).billing = s.billing ∧
    (changeLive f s).choices = s.choices ∧
    (changeLive f s).freeCount = s.freeCount ∧
    (changeLive f s).pending = s.pending := by
  unfold changeLive
  (repeat' split) <;> simp

@[simp] theorem takeHold_frame (a : Fin 16) (s : State) :
    (takeHold a s).sessions = s.sessions ∧
    (takeHold a s).tariff = s.tariff ∧
    (takeHold a s).meter = s.meter ∧
    (takeHold a s).supply = s.supply ∧
    (takeHold a s).planner = s.planner ∧
    (takeHold a s).heating = s.heating ∧
    (takeHold a s).isolation = s.isolation ∧
    (takeHold a s).localizer = s.localizer ∧
    (takeHold a s).attention = s.attention ∧
    (takeHold a s).portsStarted = s.portsStarted ∧
    (takeHold a s).control = s.control ∧
    (takeHold a s).billing = s.billing ∧
    (takeHold a s).choices = s.choices ∧
    (takeHold a s).freeCount = s.freeCount ∧
    (takeHold a s).pending = s.pending := by
  simp [takeHold]

@[simp] theorem releaseHold_frame (a : Fin 16) (hold : Nat) (s : State) :
    (releaseHold a hold s).sessions = s.sessions ∧
    (releaseHold a hold s).tariff = s.tariff ∧
    (releaseHold a hold s).meter = s.meter ∧
    (releaseHold a hold s).supply = s.supply ∧
    (releaseHold a hold s).planner = s.planner ∧
    (releaseHold a hold s).heating = s.heating ∧
    (releaseHold a hold s).isolation = s.isolation ∧
    (releaseHold a hold s).localizer = s.localizer ∧
    (releaseHold a hold s).attention = s.attention ∧
    (releaseHold a hold s).portsStarted = s.portsStarted ∧
    (releaseHold a hold s).control = s.control ∧
    (releaseHold a hold s).billing = s.billing ∧
    (releaseHold a hold s).choices = s.choices ∧
    (releaseHold a hold s).freeCount = s.freeCount ∧
    (releaseHold a hold s).pending = s.pending := by
  simp [releaseHold]

@[simp] theorem settleAccount_frame (a : Fin 16) (cost : Nat) (hold : Nat) (s : State) :
    (settleAccount a cost hold s).sessions = s.sessions ∧
    (settleAccount a cost hold s).tariff = s.tariff ∧
    (settleAccount a cost hold s).meter = s.meter ∧
    (settleAccount a cost hold s).supply = s.supply ∧
    (settleAccount a cost hold s).planner = s.planner ∧
    (settleAccount a cost hold s).heating = s.heating ∧
    (settleAccount a cost hold s).isolation = s.isolation ∧
    (settleAccount a cost hold s).localizer = s.localizer ∧
    (settleAccount a cost hold s).attention = s.attention ∧
    (settleAccount a cost hold s).portsStarted = s.portsStarted ∧
    (settleAccount a cost hold s).control = s.control ∧
    (settleAccount a cost hold s).billing = s.billing ∧
    (settleAccount a cost hold s).choices = s.choices ∧
    (settleAccount a cost hold s).freeCount = s.freeCount ∧
    (settleAccount a cost hold s).pending = s.pending := by
  simp [settleAccount]

@[simp] theorem settle_frame (i : Fin 8) (s : State) :
    (settle i s).tariff = s.tariff ∧
    (settle i s).meter = s.meter ∧
    (settle i s).supply = s.supply ∧
    (settle i s).planner = s.planner ∧
    (settle i s).heating = s.heating ∧
    (settle i s).isolation = s.isolation ∧
    (settle i s).localizer = s.localizer ∧
    (settle i s).attention = s.attention ∧
    (settle i s).portsStarted = s.portsStarted ∧
    (settle i s).control = s.control ∧
    (settle i s).billing = s.billing ∧
    (settle i s).choices = s.choices ∧
    (settle i s).freeCount = s.freeCount ∧
    (settle i s).pending = s.pending := by
  unfold settle
  dsimp only
  (repeat' split) <;> simp

@[simp] theorem judgeCredit_frame (i : Fin 8) (role : HoldRole) (grant : Nat) (s : State) :
    (judgeCredit i role grant s).accounts = s.accounts ∧
    (judgeCredit i role grant s).tariff = s.tariff ∧
    (judgeCredit i role grant s).meter = s.meter ∧
    (judgeCredit i role grant s).supply = s.supply ∧
    (judgeCredit i role grant s).portsStarted = s.portsStarted ∧
    (judgeCredit i role grant s).control = s.control ∧
    (judgeCredit i role grant s).billing = s.billing ∧
    (judgeCredit i role grant s).choices = s.choices ∧
    (judgeCredit i role grant s).freeCount = s.freeCount ∧
    (judgeCredit i role grant s).pending = s.pending := by
  unfold judgeCredit
  dsimp only
  (repeat' split) <;> simp

@[simp] theorem askTopUp_frame (i : Fin 8) (role : HoldRole) (s : State) :
    (askTopUp i role s).tariff = s.tariff ∧
    (askTopUp i role s).meter = s.meter ∧
    (askTopUp i role s).supply = s.supply ∧
    (askTopUp i role s).portsStarted = s.portsStarted ∧
    (askTopUp i role s).control = s.control ∧
    (askTopUp i role s).billing = s.billing ∧
    (askTopUp i role s).choices = s.choices ∧
    (askTopUp i role s).freeCount = s.freeCount ∧
    (askTopUp i role s).pending = s.pending := by
  unfold askTopUp
  (repeat' split) <;> simp

@[simp] theorem checkHold_frame (i : Fin 8) (role : HoldRole) (s : State) :
    (checkHold i role s).tariff = s.tariff ∧
    (checkHold i role s).meter = s.meter ∧
    (checkHold i role s).supply = s.supply ∧
    (checkHold i role s).portsStarted = s.portsStarted ∧
    (checkHold i role s).control = s.control ∧
    (checkHold i role s).billing = s.billing ∧
    (checkHold i role s).choices = s.choices ∧
    (checkHold i role s).freeCount = s.freeCount ∧
    (checkHold i role s).pending = s.pending := by
  unfold checkHold
  (repeat' split) <;> simp

@[simp] theorem checkLowWater_frame (i : Fin 8) (s : State) :
    (checkLowWater i s).tariff = s.tariff ∧
    (checkLowWater i s).meter = s.meter ∧
    (checkLowWater i s).supply = s.supply ∧
    (checkLowWater i s).portsStarted = s.portsStarted ∧
    (checkLowWater i s).control = s.control ∧
    (checkLowWater i s).billing = s.billing ∧
    (checkLowWater i s).choices = s.choices ∧
    (checkLowWater i s).freeCount = s.freeCount ∧
    (checkLowWater i s).pending = s.pending := by
  simp [checkLowWater]

@[simp] theorem retrySession_frame (a : Fin 16) (s : State) (i : Fin 8) :
    (retrySession a s i).tariff = s.tariff ∧
    (retrySession a s i).meter = s.meter ∧
    (retrySession a s i).supply = s.supply ∧
    (retrySession a s i).portsStarted = s.portsStarted ∧
    (retrySession a s i).control = s.control ∧
    (retrySession a s i).billing = s.billing ∧
    (retrySession a s i).choices = s.choices ∧
    (retrySession a s i).freeCount = s.freeCount ∧
    (retrySession a s i).pending = s.pending := by
  unfold retrySession
  dsimp only
  (repeat' split) <;> simp

@[simp] theorem creditRetry_frame (a : Fin 16) (s : State) :
    (creditRetry a s).tariff = s.tariff ∧
    (creditRetry a s).meter = s.meter ∧
    (creditRetry a s).supply = s.supply ∧
    (creditRetry a s).portsStarted = s.portsStarted ∧
    (creditRetry a s).control = s.control ∧
    (creditRetry a s).billing = s.billing ∧
    (creditRetry a s).choices = s.choices ∧
    (creditRetry a s).freeCount = s.freeCount ∧
    (creditRetry a s).pending = s.pending := by
  refine ⟨?_, ?_, ?_, ?_, ?_, ?_, ?_, ?_, ?_⟩ <;>
    exact foldl_reads _ _ (fun t i => by simp) _ s

@[simp] theorem enterComplete_frame (i : Fin 8) (s : State) :
    (enterComplete i s).accounts = s.accounts ∧
    (enterComplete i s).tariff = s.tariff ∧
    (enterComplete i s).meter = s.meter ∧
    (enterComplete i s).supply = s.supply ∧
    (enterComplete i s).portsStarted = s.portsStarted ∧
    (enterComplete i s).control = s.control ∧
    (enterComplete i s).billing = s.billing ∧
    (enterComplete i s).choices = s.choices ∧
    (enterComplete i s).freeCount = s.freeCount ∧
    (enterComplete i s).pending = s.pending := by
  simp [enterComplete]

@[simp] theorem goLive_frame (s : State) :
    (goLive s).accounts = s.accounts ∧
    (goLive s).tariff = s.tariff ∧
    (goLive s).meter = s.meter ∧
    (goLive s).supply = s.supply ∧
    (goLive s).planner = s.planner ∧
    (goLive s).heating = s.heating ∧
    (goLive s).isolation = s.isolation ∧
    (goLive s).localizer = s.localizer ∧
    (goLive s).portsStarted = s.portsStarted ∧
    (goLive s).control = s.control ∧
    (goLive s).billing = s.billing ∧
    (goLive s).choices = s.choices ∧
    (goLive s).freeCount = s.freeCount ∧
    (goLive s).pending = s.pending := by
  unfold goLive
  (repeat' split) <;> simp

@[simp] theorem handOver_frame (s : State) :
    (handOver s).accounts = s.accounts ∧
    (handOver s).tariff = s.tariff ∧
    (handOver s).meter = s.meter ∧
    (handOver s).supply = s.supply ∧
    (handOver s).planner = s.planner ∧
    (handOver s).heating = s.heating ∧
    (handOver s).isolation = s.isolation ∧
    (handOver s).localizer = s.localizer ∧
    (handOver s).portsStarted = s.portsStarted ∧
    (handOver s).control = s.control ∧
    (handOver s).billing = s.billing ∧
    (handOver s).choices = s.choices ∧
    (handOver s).freeCount = s.freeCount ∧
    (handOver s).pending = s.pending := by
  unfold handOver
  (repeat' split) <;> simp

@[simp] theorem voidSession_frame (i : Fin 8) (s : State) :
    (voidSession i s).meter = s.meter ∧
    (voidSession i s).supply = s.supply ∧
    (voidSession i s).planner = s.planner ∧
    (voidSession i s).heating = s.heating ∧
    (voidSession i s).isolation = s.isolation ∧
    (voidSession i s).localizer = s.localizer ∧
    (voidSession i s).portsStarted = s.portsStarted ∧
    (voidSession i s).control = s.control ∧
    (voidSession i s).billing = s.billing ∧
    (voidSession i s).choices = s.choices ∧
    (voidSession i s).freeCount = s.freeCount ∧
    (voidSession i s).pending = s.pending := by
  unfold voidSession
  dsimp only
  (repeat' split) <;> simp

@[simp] theorem closeRecord_frame (reason : CloseReason) (i : Fin 8) (s : State) :
    (closeRecord reason i s).meter = s.meter ∧
    (closeRecord reason i s).supply = s.supply ∧
    (closeRecord reason i s).planner = s.planner ∧
    (closeRecord reason i s).heating = s.heating ∧
    (closeRecord reason i s).isolation = s.isolation ∧
    (closeRecord reason i s).localizer = s.localizer ∧
    (closeRecord reason i s).portsStarted = s.portsStarted ∧
    (closeRecord reason i s).control = s.control ∧
    (closeRecord reason i s).billing = s.billing ∧
    (closeRecord reason i s).choices = s.choices ∧
    (closeRecord reason i s).freeCount = s.freeCount ∧
    (closeRecord reason i s).pending = s.pending := by
  simp [closeRecord]

@[simp] theorem closeSession_frame (reason : CloseReason) (i : Fin 8) (s : State) :
    (closeSession reason i s).meter = s.meter ∧
    (closeSession reason i s).supply = s.supply ∧
    (closeSession reason i s).portsStarted = s.portsStarted ∧
    (closeSession reason i s).control = s.control ∧
    (closeSession reason i s).billing = s.billing ∧
    (closeSession reason i s).choices = s.choices ∧
    (closeSession reason i s).freeCount = s.freeCount ∧
    (closeSession reason i s).pending = s.pending := by
  unfold closeSession
  (repeat' split) <;> simp

@[simp] theorem endClosing_frame (s : State) :
    (endClosing s).meter = s.meter ∧
    (endClosing s).supply = s.supply ∧
    (endClosing s).portsStarted = s.portsStarted ∧
    (endClosing s).control = s.control ∧
    (endClosing s).billing = s.billing ∧
    (endClosing s).choices = s.choices ∧
    (endClosing s).freeCount = s.freeCount ∧
    (endClosing s).pending = s.pending := by
  unfold endClosing
  (repeat' split) <;> simp

@[simp] theorem sessionsUnplugged_frame (s : State) :
    (sessionsUnplugged s).meter = s.meter ∧
    (sessionsUnplugged s).supply = s.supply ∧
    (sessionsUnplugged s).portsStarted = s.portsStarted ∧
    (sessionsUnplugged s).control = s.control ∧
    (sessionsUnplugged s).billing = s.billing ∧
    (sessionsUnplugged s).choices = s.choices ∧
    (sessionsUnplugged s).freeCount = s.freeCount ∧
    (sessionsUnplugged s).pending = s.pending := by
  unfold sessionsUnplugged
  (repeat' split) <;> simp

@[simp] theorem sessionsMeterLost_frame (s : State) :
    (sessionsMeterLost s).meter = s.meter ∧
    (sessionsMeterLost s).supply = s.supply ∧
    (sessionsMeterLost s).portsStarted = s.portsStarted ∧
    (sessionsMeterLost s).control = s.control ∧
    (sessionsMeterLost s).billing = s.billing ∧
    (sessionsMeterLost s).choices = s.choices ∧
    (sessionsMeterLost s).freeCount = s.freeCount ∧
    (sessionsMeterLost s).pending = s.pending := by
  unfold sessionsMeterLost
  (repeat' split) <;> simp

@[simp] theorem sessionsReset_frame (s : State) :
    (sessionsReset s).meter = s.meter ∧
    (sessionsReset s).supply = s.supply ∧
    (sessionsReset s).planner = s.planner ∧
    (sessionsReset s).heating = s.heating ∧
    (sessionsReset s).isolation = s.isolation ∧
    (sessionsReset s).localizer = s.localizer ∧
    (sessionsReset s).portsStarted = s.portsStarted ∧
    (sessionsReset s).control = s.control ∧
    (sessionsReset s).billing = s.billing ∧
    (sessionsReset s).choices = s.choices ∧
    (sessionsReset s).freeCount = s.freeCount ∧
    (sessionsReset s).pending = s.pending := by
  unfold sessionsReset
  (repeat' split) <;> simp

@[simp] theorem judgeCold_frame (s : State) :
    (judgeCold s).accounts = s.accounts ∧
    (judgeCold s).tariff = s.tariff ∧
    (judgeCold s).meter = s.meter ∧
    (judgeCold s).supply = s.supply ∧
    (judgeCold s).portsStarted = s.portsStarted ∧
    (judgeCold s).control = s.control ∧
    (judgeCold s).billing = s.billing ∧
    (judgeCold s).choices = s.choices ∧
    (judgeCold s).freeCount = s.freeCount ∧
    (judgeCold s).pending = s.pending := by
  unfold judgeCold
  (repeat' split) <;> simp

@[simp] theorem evaluateAdmission_frame (s : State) :
    (evaluateAdmission s).accounts = s.accounts ∧
    (evaluateAdmission s).tariff = s.tariff ∧
    (evaluateAdmission s).meter = s.meter ∧
    (evaluateAdmission s).supply = s.supply ∧
    (evaluateAdmission s).portsStarted = s.portsStarted ∧
    (evaluateAdmission s).control = s.control ∧
    (evaluateAdmission s).billing = s.billing ∧
    (evaluateAdmission s).choices = s.choices ∧
    (evaluateAdmission s).freeCount = s.freeCount ∧
    (evaluateAdmission s).pending = s.pending := by
  simp [evaluateAdmission]

@[simp] theorem sessionsSupply_frame (s : State) :
    (sessionsSupply s).accounts = s.accounts ∧
    (sessionsSupply s).tariff = s.tariff ∧
    (sessionsSupply s).meter = s.meter ∧
    (sessionsSupply s).supply = s.supply ∧
    (sessionsSupply s).portsStarted = s.portsStarted ∧
    (sessionsSupply s).control = s.control ∧
    (sessionsSupply s).billing = s.billing ∧
    (sessionsSupply s).choices = s.choices ∧
    (sessionsSupply s).freeCount = s.freeCount ∧
    (sessionsSupply s).pending = s.pending := by
  simp [sessionsSupply]

@[simp] theorem sessionsSynced_frame (s : State) :
    (sessionsSynced s).accounts = s.accounts ∧
    (sessionsSynced s).tariff = s.tariff ∧
    (sessionsSynced s).meter = s.meter ∧
    (sessionsSynced s).supply = s.supply ∧
    (sessionsSynced s).portsStarted = s.portsStarted ∧
    (sessionsSynced s).control = s.control ∧
    (sessionsSynced s).billing = s.billing ∧
    (sessionsSynced s).choices = s.choices ∧
    (sessionsSynced s).freeCount = s.freeCount ∧
    (sessionsSynced s).pending = s.pending := by
  simp [sessionsSynced]

/-! ### Chapter 4 -/

@[simp] theorem priceOne_frame (i : Fin 8) (role : HoldRole) (s : State) :
    (priceOne i role s).tariff = s.tariff ∧
    (priceOne i role s).meter = s.meter ∧
    (priceOne i role s).supply = s.supply ∧
    (priceOne i role s).portsStarted = s.portsStarted ∧
    (priceOne i role s).control = s.control ∧
    (priceOne i role s).billing = s.billing ∧
    (priceOne i role s).choices = s.choices ∧
    (priceOne i role s).freeCount = s.freeCount ∧
    (priceOne i role s).pending = s.pending := by
  simp [priceOne]

@[simp] theorem priceMany_frame (i : Fin 8) (role : HoldRole) (n : Nat) (s : State) :
    (priceMany i role n s).tariff = s.tariff ∧
    (priceMany i role n s).meter = s.meter ∧
    (priceMany i role n s).supply = s.supply ∧
    (priceMany i role n s).portsStarted = s.portsStarted ∧
    (priceMany i role n s).control = s.control ∧
    (priceMany i role n s).billing = s.billing ∧
    (priceMany i role n s).choices = s.choices ∧
    (priceMany i role n s).freeCount = s.freeCount ∧
    (priceMany i role n s).pending = s.pending := by
  induction n generalizing s with
  | zero => simp [priceMany]
  | succ n ih => simp [priceMany, ih]

@[simp] theorem judgeCompletion_frame (i : Fin 8) (s : State) :
    (judgeCompletion i s).tariff = s.tariff ∧
    (judgeCompletion i s).meter = s.meter ∧
    (judgeCompletion i s).supply = s.supply ∧
    (judgeCompletion i s).portsStarted = s.portsStarted ∧
    (judgeCompletion i s).control = s.control ∧
    (judgeCompletion i s).billing = s.billing ∧
    (judgeCompletion i s).choices = s.choices ∧
    (judgeCompletion i s).freeCount = s.freeCount ∧
    (judgeCompletion i s).pending = s.pending := by
  unfold judgeCompletion
  dsimp only
  (repeat' split) <;> simp

@[simp] theorem accrueEnergy_frame (i : Fin 8) (p : Powers) (held : Bool) (s : State) :
    (accrueEnergy i p held s).tariff = s.tariff ∧
    (accrueEnergy i p held s).meter = s.meter ∧
    (accrueEnergy i p held s).supply = s.supply ∧
    (accrueEnergy i p held s).portsStarted = s.portsStarted ∧
    (accrueEnergy i p held s).control = s.control ∧
    (accrueEnergy i p held s).billing = s.billing ∧
    (accrueEnergy i p held s).choices = s.choices ∧
    (accrueEnergy i p held s).freeCount = s.freeCount ∧
    (accrueEnergy i p held s).pending = s.pending := by
  unfold accrueEnergy
  dsimp only
  (repeat' split) <;> simp

@[simp] theorem accrue_frame (held : Bool) (source : Option BudgetSource) (s : State) :
    (accrue held source s).tariff = s.tariff ∧
    (accrue held source s).meter = s.meter ∧
    (accrue held source s).supply = s.supply ∧
    (accrue held source s).portsStarted = s.portsStarted ∧
    (accrue held source s).control = s.control ∧
    (accrue held source s).billing = s.billing ∧
    (accrue held source s).choices = s.choices ∧
    (accrue held source s).freeCount = s.freeCount ∧
    (accrue held source s).pending = s.pending := by
  unfold accrue
  (repeat' split) <;> simp

@[simp] theorem chargeOccupancy_frame (i : Fin 8) (rate : Nat) (s : State) :
    (chargeOccupancy i rate s).tariff = s.tariff ∧
    (chargeOccupancy i rate s).meter = s.meter ∧
    (chargeOccupancy i rate s).supply = s.supply ∧
    (chargeOccupancy i rate s).portsStarted = s.portsStarted ∧
    (chargeOccupancy i rate s).control = s.control ∧
    (chargeOccupancy i rate s).billing = s.billing ∧
    (chargeOccupancy i rate s).choices = s.choices ∧
    (chargeOccupancy i rate s).freeCount = s.freeCount ∧
    (chargeOccupancy i rate s).pending = s.pending := by
  simp [chargeOccupancy]

/-! ### Chapter 7, the cycle -/

@[simp] theorem buildPlan_frame (s : State) :
    (buildPlan s).sessions = s.sessions ∧
    (buildPlan s).accounts = s.accounts ∧
    (buildPlan s).tariff = s.tariff ∧
    (buildPlan s).meter = s.meter ∧
    (buildPlan s).isolation = s.isolation ∧
    (buildPlan s).localizer = s.localizer ∧
    (buildPlan s).attention = s.attention ∧
    (buildPlan s).portsStarted = s.portsStarted ∧
    (buildPlan s).control = s.control ∧
    (buildPlan s).billing = s.billing ∧
    (buildPlan s).choices = s.choices ∧
    (buildPlan s).freeCount = s.freeCount ∧
    (buildPlan s).pending = s.pending := by
  simp [buildPlan]

@[simp] theorem cycleBoundary_frame (s : State) :
    (cycleBoundary s).accounts = s.accounts ∧
    (cycleBoundary s).tariff = s.tariff ∧
    (cycleBoundary s).meter = s.meter ∧
    (cycleBoundary s).portsStarted = s.portsStarted ∧
    (cycleBoundary s).control = s.control ∧
    (cycleBoundary s).billing = s.billing ∧
    (cycleBoundary s).choices = s.choices ∧
    (cycleBoundary s).freeCount = s.freeCount ∧
    (cycleBoundary s).pending = s.pending := by
  simp [cycleBoundary]

@[simp] theorem endSlot_frame (s : State) :
    (endSlot s).accounts = s.accounts ∧
    (endSlot s).tariff = s.tariff ∧
    (endSlot s).meter = s.meter ∧
    (endSlot s).portsStarted = s.portsStarted ∧
    (endSlot s).control = s.control ∧
    (endSlot s).billing = s.billing ∧
    (endSlot s).choices = s.choices ∧
    (endSlot s).freeCount = s.freeCount ∧
    (endSlot s).pending = s.pending := by
  unfold endSlot
  (repeat' split) <;> simp

@[simp] theorem plannerHeld_frame (s : State) :
    (plannerHeld s).accounts = s.accounts ∧
    (plannerHeld s).tariff = s.tariff ∧
    (plannerHeld s).meter = s.meter ∧
    (plannerHeld s).portsStarted = s.portsStarted ∧
    (plannerHeld s).control = s.control ∧
    (plannerHeld s).billing = s.billing ∧
    (plannerHeld s).choices = s.choices ∧
    (plannerHeld s).freeCount = s.freeCount ∧
    (plannerHeld s).pending = s.pending := by
  unfold plannerHeld
  (repeat' split) <;> simp

@[simp] theorem plannerAccepted_frame (f : MeterFrame) (haltedBefore : Bool) (entered : Bool) (s : State) :
    (plannerAccepted f haltedBefore entered s).accounts = s.accounts ∧
    (plannerAccepted f haltedBefore entered s).tariff = s.tariff ∧
    (plannerAccepted f haltedBefore entered s).meter = s.meter ∧
    (plannerAccepted f haltedBefore entered s).portsStarted = s.portsStarted ∧
    (plannerAccepted f haltedBefore entered s).control = s.control ∧
    (plannerAccepted f haltedBefore entered s).billing = s.billing ∧
    (plannerAccepted f haltedBefore entered s).choices = s.choices ∧
    (plannerAccepted f haltedBefore entered s).freeCount = s.freeCount ∧
    (plannerAccepted f haltedBefore entered s).pending = s.pending := by
  unfold plannerAccepted
  dsimp only
  (repeat' split) <;> simp

/-! ### Chapter 9 -/

@[simp] theorem tripConfirmed_frame (before : Bool) (s : State) :
    (tripConfirmed before s).accounts = s.accounts ∧
    (tripConfirmed before s).tariff = s.tariff ∧
    (tripConfirmed before s).meter = s.meter ∧
    (tripConfirmed before s).portsStarted = s.portsStarted ∧
    (tripConfirmed before s).control = s.control ∧
    (tripConfirmed before s).billing = s.billing ∧
    (tripConfirmed before s).choices = s.choices ∧
    (tripConfirmed before s).freeCount = s.freeCount ∧
    (tripConfirmed before s).pending = s.pending := by
  simp [tripConfirmed]

@[simp] theorem confirmedHandOff_frame (k : CompareKind) (r : Rail) (before : Bool) (s : State) :
    (confirmedHandOff k r before s).accounts = s.accounts ∧
    (confirmedHandOff k r before s).tariff = s.tariff ∧
    (confirmedHandOff k r before s).meter = s.meter ∧
    (confirmedHandOff k r before s).portsStarted = s.portsStarted ∧
    (confirmedHandOff k r before s).control = s.control ∧
    (confirmedHandOff k r before s).billing = s.billing ∧
    (confirmedHandOff k r before s).choices = s.choices ∧
    (confirmedHandOff k r before s).freeCount = s.freeCount ∧
    (confirmedHandOff k r before s).pending = s.pending := by
  unfold confirmedHandOff
  (repeat' split) <;> simp

@[simp] theorem actOnRecord_frame (k : CompareKind) (r : Rail) (reading : Nat) (s : State) :
    (actOnRecord k r reading s).accounts = s.accounts ∧
    (actOnRecord k r reading s).tariff = s.tariff ∧
    (actOnRecord k r reading s).meter = s.meter ∧
    (actOnRecord k r reading s).portsStarted = s.portsStarted ∧
    (actOnRecord k r reading s).control = s.control ∧
    (actOnRecord k r reading s).billing = s.billing ∧
    (actOnRecord k r reading s).choices = s.choices ∧
    (actOnRecord k r reading s).freeCount = s.freeCount ∧
    (actOnRecord k r reading s).pending = s.pending := by
  unfold actOnRecord
  dsimp only
  (repeat' split) <;> simp

@[simp] theorem comparatorWork_frame (k : CompareKind) (r : Rail) (reading : Nat) (s : State) :
    (comparatorWork k r reading s).accounts = s.accounts ∧
    (comparatorWork k r reading s).tariff = s.tariff ∧
    (comparatorWork k r reading s).meter = s.meter ∧
    (comparatorWork k r reading s).portsStarted = s.portsStarted ∧
    (comparatorWork k r reading s).control = s.control ∧
    (comparatorWork k r reading s).billing = s.billing ∧
    (comparatorWork k r reading s).choices = s.choices ∧
    (comparatorWork k r reading s).freeCount = s.freeCount ∧
    (comparatorWork k r reading s).pending = s.pending := by
  simp [comparatorWork]

@[simp] theorem railWork_frame (r : Rail) (reading : Nat) (s : State) :
    (railWork r reading s).accounts = s.accounts ∧
    (railWork r reading s).tariff = s.tariff ∧
    (railWork r reading s).meter = s.meter ∧
    (railWork r reading s).portsStarted = s.portsStarted ∧
    (railWork r reading s).control = s.control ∧
    (railWork r reading s).billing = s.billing ∧
    (railWork r reading s).choices = s.choices ∧
    (railWork r reading s).freeCount = s.freeCount ∧
    (railWork r reading s).pending = s.pending := by
  simp [railWork]

@[simp] theorem countVotes_frame (e : PlanEntry) (mismatch : Bool) (s : State) :
    (countVotes e mismatch s).sessions = s.sessions ∧
    (countVotes e mismatch s).accounts = s.accounts ∧
    (countVotes e mismatch s).tariff = s.tariff ∧
    (countVotes e mismatch s).meter = s.meter ∧
    (countVotes e mismatch s).supply = s.supply ∧
    (countVotes e mismatch s).planner = s.planner ∧
    (countVotes e mismatch s).heating = s.heating ∧
    (countVotes e mismatch s).localizer = s.localizer ∧
    (countVotes e mismatch s).attention = s.attention ∧
    (countVotes e mismatch s).portsStarted = s.portsStarted ∧
    (countVotes e mismatch s).control = s.control ∧
    (countVotes e mismatch s).billing = s.billing ∧
    (countVotes e mismatch s).choices = s.choices ∧
    (countVotes e mismatch s).freeCount = s.freeCount ∧
    (countVotes e mismatch s).pending = s.pending := by
  simp [countVotes]

@[simp] theorem judgeVotes_frame (s : State) (z : Fin 6) :
    (judgeVotes s z).accounts = s.accounts ∧
    (judgeVotes s z).tariff = s.tariff ∧
    (judgeVotes s z).meter = s.meter ∧
    (judgeVotes s z).supply = s.supply ∧
    (judgeVotes s z).portsStarted = s.portsStarted ∧
    (judgeVotes s z).control = s.control ∧
    (judgeVotes s z).billing = s.billing ∧
    (judgeVotes s z).choices = s.choices ∧
    (judgeVotes s z).freeCount = s.freeCount ∧
    (judgeVotes s z).pending = s.pending := by
  unfold judgeVotes
  (repeat' split) <;> simp

@[simp] theorem mismatchWork_frame (f : MeterFrame) (ended : Option PlanEntry) (s : State) :
    (mismatchWork f ended s).accounts = s.accounts ∧
    (mismatchWork f ended s).tariff = s.tariff ∧
    (mismatchWork f ended s).meter = s.meter ∧
    (mismatchWork f ended s).supply = s.supply ∧
    (mismatchWork f ended s).portsStarted = s.portsStarted ∧
    (mismatchWork f ended s).control = s.control ∧
    (mismatchWork f ended s).billing = s.billing ∧
    (mismatchWork f ended s).choices = s.choices ∧
    (mismatchWork f ended s).freeCount = s.freeCount ∧
    (mismatchWork f ended s).pending = s.pending := by
  unfold mismatchWork
  split
  · simp
  · split
    · simp
    · refine ⟨?_, ?_, ?_, ?_, ?_, ?_, ?_, ?_, ?_, ?_⟩ <;>
        exact (foldl_reads _ _ (fun t x => by simp) _ _).trans (by simp)

@[simp] theorem isolationFrame_frame (f : MeterFrame) (ended : Option PlanEntry) (s : State) :
    (isolationFrame f ended s).accounts = s.accounts ∧
    (isolationFrame f ended s).tariff = s.tariff ∧
    (isolationFrame f ended s).meter = s.meter ∧
    (isolationFrame f ended s).portsStarted = s.portsStarted ∧
    (isolationFrame f ended s).control = s.control ∧
    (isolationFrame f ended s).billing = s.billing ∧
    (isolationFrame f ended s).choices = s.choices ∧
    (isolationFrame f ended s).freeCount = s.freeCount ∧
    (isolationFrame f ended s).pending = s.pending := by
  unfold isolationFrame
  (repeat' split) <;> simp

/-! ### Chapter 5 -/

@[simp] theorem takeAccepted_frame (f : MeterFrame) (a : Arrival) (entered : Bool) (s : State) (t : Taker) :
    (takeAccepted f a entered s t).meter = s.meter ∧
    (takeAccepted f a entered s t).portsStarted = s.portsStarted ∧
    (takeAccepted f a entered s t).control = s.control ∧
    (takeAccepted f a entered s t).billing = s.billing ∧
    (takeAccepted f a entered s t).choices = s.choices ∧
    (takeAccepted f a entered s t).freeCount = s.freeCount ∧
    (takeAccepted f a entered s t).pending = s.pending := by
  unfold takeAccepted
  (repeat' split) <;> simp

@[simp] theorem takeHeld_frame (a : Arrival) (s : State) (t : Taker) :
    (takeHeld a s t).meter = s.meter ∧
    (takeHeld a s t).portsStarted = s.portsStarted ∧
    (takeHeld a s t).control = s.control ∧
    (takeHeld a s t).billing = s.billing ∧
    (takeHeld a s t).choices = s.choices ∧
    (takeHeld a s t).freeCount = s.freeCount ∧
    (takeHeld a s t).pending = s.pending := by
  unfold takeHeld
  (repeat' split) <;> simp

@[simp] theorem enterSynced_frame (s : State) :
    (enterSynced s).accounts = s.accounts ∧
    (enterSynced s).tariff = s.tariff ∧
    (enterSynced s).supply = s.supply ∧
    (enterSynced s).portsStarted = s.portsStarted ∧
    (enterSynced s).control = s.control ∧
    (enterSynced s).billing = s.billing ∧
    (enterSynced s).choices = s.choices ∧
    (enterSynced s).freeCount = s.freeCount ∧
    (enterSynced s).pending = s.pending := by
  simp [enterSynced]

@[simp] theorem acceptFrame_frame (f : MeterFrame) (s : State) :
    (acceptFrame f s).portsStarted = s.portsStarted ∧
    (acceptFrame f s).control = s.control ∧
    (acceptFrame f s).billing = s.billing ∧
    (acceptFrame f s).freeCount = s.freeCount ∧
    (acceptFrame f s).pending = s.pending := by
  unfold acceptFrame
  refine ⟨?_, ?_, ?_, ?_, ?_⟩ <;>
    exact (foldl_reads _ _ (fun t x => by simp) _ _).trans (by split <;> simp)

@[simp] theorem takeDataWord_frame (w : Word) (s : State) :
    (takeDataWord w s).portsStarted = s.portsStarted ∧
    (takeDataWord w s).control = s.control ∧
    (takeDataWord w s).billing = s.billing ∧
    (takeDataWord w s).freeCount = s.freeCount ∧
    (takeDataWord w s).pending = s.pending := by
  unfold takeDataWord
  (repeat' split) <;> simp

@[simp] theorem takeFrameSync_frame (s : State) :
    (takeFrameSync s).sessions = s.sessions ∧
    (takeFrameSync s).accounts = s.accounts ∧
    (takeFrameSync s).tariff = s.tariff ∧
    (takeFrameSync s).supply = s.supply ∧
    (takeFrameSync s).planner = s.planner ∧
    (takeFrameSync s).heating = s.heating ∧
    (takeFrameSync s).isolation = s.isolation ∧
    (takeFrameSync s).localizer = s.localizer ∧
    (takeFrameSync s).attention = s.attention ∧
    (takeFrameSync s).portsStarted = s.portsStarted ∧
    (takeFrameSync s).control = s.control ∧
    (takeFrameSync s).billing = s.billing ∧
    (takeFrameSync s).choices = s.choices ∧
    (takeFrameSync s).freeCount = s.freeCount ∧
    (takeFrameSync s).pending = s.pending := by
  simp [takeFrameSync]

@[simp] theorem heldEvent_frame (s : State) :
    (heldEvent s).meter = s.meter ∧
    (heldEvent s).portsStarted = s.portsStarted ∧
    (heldEvent s).control = s.control ∧
    (heldEvent s).billing = s.billing ∧
    (heldEvent s).freeCount = s.freeCount ∧
    (heldEvent s).pending = s.pending := by
  unfold heldEvent
  refine ⟨?_, ?_, ?_, ?_, ?_, ?_⟩ <;> exact (foldl_reads _ _ (fun t x => by simp) _ _).trans (by simp)

@[simp] theorem lostEvent_frame (s : State) :
    (lostEvent s).meter = s.meter ∧
    (lostEvent s).supply = s.supply ∧
    (lostEvent s).portsStarted = s.portsStarted ∧
    (lostEvent s).control = s.control ∧
    (lostEvent s).billing = s.billing ∧
    (lostEvent s).choices = s.choices ∧
    (lostEvent s).freeCount = s.freeCount ∧
    (lostEvent s).pending = s.pending := by
  simp [lostEvent]

@[simp] theorem sessionsLost_frame (s : State) :
    (sessionsLost s).accounts = s.accounts ∧
    (sessionsLost s).tariff = s.tariff ∧
    (sessionsLost s).meter = s.meter ∧
    (sessionsLost s).supply = s.supply ∧
    (sessionsLost s).heating = s.heating ∧
    (sessionsLost s).isolation = s.isolation ∧
    (sessionsLost s).localizer = s.localizer ∧
    (sessionsLost s).portsStarted = s.portsStarted ∧
    (sessionsLost s).control = s.control ∧
    (sessionsLost s).billing = s.billing ∧
    (sessionsLost s).choices = s.choices ∧
    (sessionsLost s).freeCount = s.freeCount ∧
    (sessionsLost s).pending = s.pending := by
  simp [sessionsLost]

@[simp] theorem enterLost_frame (s : State) :
    (enterLost s).accounts = s.accounts ∧
    (enterLost s).tariff = s.tariff ∧
    (enterLost s).portsStarted = s.portsStarted ∧
    (enterLost s).control = s.control ∧
    (enterLost s).billing = s.billing ∧
    (enterLost s).choices = s.choices ∧
    (enterLost s).freeCount = s.freeCount ∧
    (enterLost s).pending = s.pending := by
  simp [enterLost]

@[simp] theorem rearmOverdue_frame (s : State) :
    (rearmOverdue s).sessions = s.sessions ∧
    (rearmOverdue s).accounts = s.accounts ∧
    (rearmOverdue s).tariff = s.tariff ∧
    (rearmOverdue s).supply = s.supply ∧
    (rearmOverdue s).planner = s.planner ∧
    (rearmOverdue s).heating = s.heating ∧
    (rearmOverdue s).isolation = s.isolation ∧
    (rearmOverdue s).localizer = s.localizer ∧
    (rearmOverdue s).attention = s.attention ∧
    (rearmOverdue s).portsStarted = s.portsStarted ∧
    (rearmOverdue s).control = s.control ∧
    (rearmOverdue s).billing = s.billing ∧
    (rearmOverdue s).choices = s.choices ∧
    (rearmOverdue s).freeCount = s.freeCount ∧
    (rearmOverdue s).pending = s.pending := by
  simp [rearmOverdue]

@[simp] theorem takeOverdue_frame (s : State) :
    (takeOverdue s).portsStarted = s.portsStarted ∧
    (takeOverdue s).control = s.control ∧
    (takeOverdue s).billing = s.billing ∧
    (takeOverdue s).freeCount = s.freeCount ∧
    (takeOverdue s).pending = s.pending := by
  unfold takeOverdue
  dsimp only
  (repeat' split) <;> simp

@[simp] theorem takeLostExpiry_frame (s : State) :
    (takeLostExpiry s).supply = s.supply ∧
    (takeLostExpiry s).portsStarted = s.portsStarted ∧
    (takeLostExpiry s).control = s.control ∧
    (takeLostExpiry s).billing = s.billing ∧
    (takeLostExpiry s).choices = s.choices ∧
    (takeLostExpiry s).freeCount = s.freeCount ∧
    (takeLostExpiry s).pending = s.pending := by
  unfold takeLostExpiry
  (repeat' split) <;> simp

/-! ### Chapter 6 -/

@[simp] theorem handSupplyToSessions_frame (before : SupplyState) (s : State) :
    (handSupplyToSessions before s).meter = s.meter ∧
    (handSupplyToSessions before s).supply = s.supply ∧
    (handSupplyToSessions before s).portsStarted = s.portsStarted ∧
    (handSupplyToSessions before s).control = s.control ∧
    (handSupplyToSessions before s).billing = s.billing ∧
    (handSupplyToSessions before s).choices = s.choices ∧
    (handSupplyToSessions before s).freeCount = s.freeCount ∧
    (handSupplyToSessions before s).pending = s.pending := by
  unfold handSupplyToSessions
  (repeat' split) <;> simp

@[simp] theorem handSupplyToFaults_frame (before : SupplyState) (s : State) :
    (handSupplyToFaults before s).sessions = s.sessions ∧
    (handSupplyToFaults before s).accounts = s.accounts ∧
    (handSupplyToFaults before s).tariff = s.tariff ∧
    (handSupplyToFaults before s).meter = s.meter ∧
    (handSupplyToFaults before s).supply = s.supply ∧
    (handSupplyToFaults before s).planner = s.planner ∧
    (handSupplyToFaults before s).heating = s.heating ∧
    (handSupplyToFaults before s).localizer = s.localizer ∧
    (handSupplyToFaults before s).portsStarted = s.portsStarted ∧
    (handSupplyToFaults before s).control = s.control ∧
    (handSupplyToFaults before s).billing = s.billing ∧
    (handSupplyToFaults before s).choices = s.choices ∧
    (handSupplyToFaults before s).freeCount = s.freeCount ∧
    (handSupplyToFaults before s).pending = s.pending := by
  unfold handSupplyToFaults
  (repeat' split) <;> simp

@[simp] theorem postPlug_frame (before : SupplyState) (s : State) :
    (postPlug before s).sessions = s.sessions ∧
    (postPlug before s).accounts = s.accounts ∧
    (postPlug before s).tariff = s.tariff ∧
    (postPlug before s).meter = s.meter ∧
    (postPlug before s).supply = s.supply ∧
    (postPlug before s).planner = s.planner ∧
    (postPlug before s).heating = s.heating ∧
    (postPlug before s).isolation = s.isolation ∧
    (postPlug before s).localizer = s.localizer ∧
    (postPlug before s).portsStarted = s.portsStarted ∧
    (postPlug before s).control = s.control ∧
    (postPlug before s).billing = s.billing ∧
    (postPlug before s).choices = s.choices ∧
    (postPlug before s).freeCount = s.freeCount ∧
    (postPlug before s).pending = s.pending := by
  unfold postPlug
  (repeat' split) <;> simp

@[simp] theorem takePeriod_frame (offer : Option Nat) (cls : LevelClass) (last : LastPeriod) (s : State) :
    (takePeriod offer cls last s).meter = s.meter ∧
    (takePeriod offer cls last s).portsStarted = s.portsStarted ∧
    (takePeriod offer cls last s).control = s.control ∧
    (takePeriod offer cls last s).billing = s.billing ∧
    (takePeriod offer cls last s).choices = s.choices ∧
    (takePeriod offer cls last s).freeCount = s.freeCount ∧
    (takePeriod offer cls last s).pending = s.pending := by
  simp [takePeriod]

@[simp] theorem restartOverflow_frame (s : State) :
    (restartOverflow s).sessions = s.sessions ∧
    (restartOverflow s).accounts = s.accounts ∧
    (restartOverflow s).tariff = s.tariff ∧
    (restartOverflow s).meter = s.meter ∧
    (restartOverflow s).planner = s.planner ∧
    (restartOverflow s).heating = s.heating ∧
    (restartOverflow s).isolation = s.isolation ∧
    (restartOverflow s).localizer = s.localizer ∧
    (restartOverflow s).attention = s.attention ∧
    (restartOverflow s).portsStarted = s.portsStarted ∧
    (restartOverflow s).control = s.control ∧
    (restartOverflow s).billing = s.billing ∧
    (restartOverflow s).choices = s.choices ∧
    (restartOverflow s).freeCount = s.freeCount ∧
    (restartOverflow s).pending = s.pending := by
  simp [restartOverflow]

@[simp] theorem setCapture_frame (c : Capture) (s : State) :
    (setCapture c s).sessions = s.sessions ∧
    (setCapture c s).accounts = s.accounts ∧
    (setCapture c s).tariff = s.tariff ∧
    (setCapture c s).meter = s.meter ∧
    (setCapture c s).planner = s.planner ∧
    (setCapture c s).heating = s.heating ∧
    (setCapture c s).isolation = s.isolation ∧
    (setCapture c s).localizer = s.localizer ∧
    (setCapture c s).attention = s.attention ∧
    (setCapture c s).portsStarted = s.portsStarted ∧
    (setCapture c s).control = s.control ∧
    (setCapture c s).billing = s.billing ∧
    (setCapture c s).choices = s.choices ∧
    (setCapture c s).freeCount = s.freeCount ∧
    (setCapture c s).pending = s.pending := by
  simp [setCapture]

@[simp] theorem completePeriod_frame (length : Nat) (high : Nat) (highPlateau : Word) (lowPlateau : Word) (s : State) :
    (completePeriod length high highPlateau lowPlateau s).meter = s.meter ∧
    (completePeriod length high highPlateau lowPlateau s).portsStarted = s.portsStarted ∧
    (completePeriod length high highPlateau lowPlateau s).control = s.control ∧
    (completePeriod length high highPlateau lowPlateau s).billing = s.billing ∧
    (completePeriod length high highPlateau lowPlateau s).choices = s.choices ∧
    (completePeriod length high highPlateau lowPlateau s).freeCount = s.freeCount ∧
    (completePeriod length high highPlateau lowPlateau s).pending = s.pending := by
  simp [completePeriod]

@[simp] theorem takeRisingEdge_frame (lowPlateau : Word) (s : State) :
    (takeRisingEdge lowPlateau s).meter = s.meter ∧
    (takeRisingEdge lowPlateau s).portsStarted = s.portsStarted ∧
    (takeRisingEdge lowPlateau s).control = s.control ∧
    (takeRisingEdge lowPlateau s).billing = s.billing ∧
    (takeRisingEdge lowPlateau s).choices = s.choices ∧
    (takeRisingEdge lowPlateau s).freeCount = s.freeCount ∧
    (takeRisingEdge lowPlateau s).pending = s.pending := by
  unfold takeRisingEdge
  (repeat' split) <;> simp

@[simp] theorem takeFallingEdge_frame (highPlateau : Word) (s : State) :
    (takeFallingEdge highPlateau s).sessions = s.sessions ∧
    (takeFallingEdge highPlateau s).accounts = s.accounts ∧
    (takeFallingEdge highPlateau s).tariff = s.tariff ∧
    (takeFallingEdge highPlateau s).meter = s.meter ∧
    (takeFallingEdge highPlateau s).planner = s.planner ∧
    (takeFallingEdge highPlateau s).heating = s.heating ∧
    (takeFallingEdge highPlateau s).isolation = s.isolation ∧
    (takeFallingEdge highPlateau s).localizer = s.localizer ∧
    (takeFallingEdge highPlateau s).attention = s.attention ∧
    (takeFallingEdge highPlateau s).portsStarted = s.portsStarted ∧
    (takeFallingEdge highPlateau s).control = s.control ∧
    (takeFallingEdge highPlateau s).billing = s.billing ∧
    (takeFallingEdge highPlateau s).choices = s.choices ∧
    (takeFallingEdge highPlateau s).freeCount = s.freeCount ∧
    (takeFallingEdge highPlateau s).pending = s.pending := by
  unfold takeFallingEdge
  (repeat' split) <;> simp

@[simp] theorem takeOverflow_frame (steadyLevel : Word) (s : State) :
    (takeOverflow steadyLevel s).meter = s.meter ∧
    (takeOverflow steadyLevel s).portsStarted = s.portsStarted ∧
    (takeOverflow steadyLevel s).control = s.control ∧
    (takeOverflow steadyLevel s).billing = s.billing ∧
    (takeOverflow steadyLevel s).choices = s.choices ∧
    (takeOverflow steadyLevel s).freeCount = s.freeCount ∧
    (takeOverflow steadyLevel s).pending = s.pending := by
  simp [takeOverflow]

/-! ### The minute event -/

@[simp] theorem voidIfExpired_frame (s : State) (i : Fin 8) :
    (voidIfExpired s i).meter = s.meter ∧
    (voidIfExpired s i).supply = s.supply ∧
    (voidIfExpired s i).planner = s.planner ∧
    (voidIfExpired s i).heating = s.heating ∧
    (voidIfExpired s i).isolation = s.isolation ∧
    (voidIfExpired s i).localizer = s.localizer ∧
    (voidIfExpired s i).portsStarted = s.portsStarted ∧
    (voidIfExpired s i).control = s.control ∧
    (voidIfExpired s i).billing = s.billing ∧
    (voidIfExpired s i).choices = s.choices ∧
    (voidIfExpired s i).freeCount = s.freeCount ∧
    (voidIfExpired s i).pending = s.pending := by
  unfold voidIfExpired
  (repeat' split) <;> simp

@[simp] theorem ageSessions_frame (s : State) :
    (ageSessions s).meter = s.meter ∧
    (ageSessions s).supply = s.supply ∧
    (ageSessions s).planner = s.planner ∧
    (ageSessions s).heating = s.heating ∧
    (ageSessions s).isolation = s.isolation ∧
    (ageSessions s).localizer = s.localizer ∧
    (ageSessions s).portsStarted = s.portsStarted ∧
    (ageSessions s).control = s.control ∧
    (ageSessions s).billing = s.billing ∧
    (ageSessions s).choices = s.choices ∧
    (ageSessions s).freeCount = s.freeCount ∧
    (ageSessions s).pending = s.pending := by
  unfold ageSessions
  refine ⟨?_, ?_, ?_, ?_, ?_, ?_, ?_, ?_, ?_, ?_, ?_, ?_⟩ <;> exact (foldl_reads _ _ (fun t x => by simp) _ _).trans (by simp)

@[simp] theorem payOccupancy_frame (due : Option (Fin 8 × Nat)) (s : State) :
    (payOccupancy due s).tariff = s.tariff ∧
    (payOccupancy due s).meter = s.meter ∧
    (payOccupancy due s).supply = s.supply ∧
    (payOccupancy due s).portsStarted = s.portsStarted ∧
    (payOccupancy due s).control = s.control ∧
    (payOccupancy due s).billing = s.billing ∧
    (payOccupancy due s).choices = s.choices ∧
    (payOccupancy due s).freeCount = s.freeCount ∧
    (payOccupancy due s).pending = s.pending := by
  unfold payOccupancy
  (repeat' split) <;> simp

@[simp] theorem takeMinutePart_frame (due : Option (Fin 8 × Nat)) (s : State) (t : Taker) :
    (takeMinutePart due s t).meter = s.meter ∧
    (takeMinutePart due s t).supply = s.supply ∧
    (takeMinutePart due s t).portsStarted = s.portsStarted ∧
    (takeMinutePart due s t).control = s.control ∧
    (takeMinutePart due s t).billing = s.billing ∧
    (takeMinutePart due s t).choices = s.choices ∧
    (takeMinutePart due s t).freeCount = s.freeCount ∧
    (takeMinutePart due s t).pending = s.pending := by
  unfold takeMinutePart
  (repeat' split) <;> simp

@[simp] theorem advanceCalendar_frame (m : Nat) (s : State) :
    (advanceCalendar m s).accounts = s.accounts ∧
    (advanceCalendar m s).meter = s.meter ∧
    (advanceCalendar m s).supply = s.supply ∧
    (advanceCalendar m s).planner = s.planner ∧
    (advanceCalendar m s).heating = s.heating ∧
    (advanceCalendar m s).isolation = s.isolation ∧
    (advanceCalendar m s).localizer = s.localizer ∧
    (advanceCalendar m s).attention = s.attention ∧
    (advanceCalendar m s).portsStarted = s.portsStarted ∧
    (advanceCalendar m s).control = s.control ∧
    (advanceCalendar m s).billing = s.billing ∧
    (advanceCalendar m s).choices = s.choices ∧
    (advanceCalendar m s).freeCount = s.freeCount ∧
    (advanceCalendar m s).pending = s.pending := by
  simp [advanceCalendar]

@[simp] theorem takeMinute_frame (s : State) :
    (takeMinute s).meter = s.meter ∧
    (takeMinute s).supply = s.supply ∧
    (takeMinute s).portsStarted = s.portsStarted ∧
    (takeMinute s).control = s.control ∧
    (takeMinute s).billing = s.billing ∧
    (takeMinute s).freeCount = s.freeCount ∧
    (takeMinute s).pending = s.pending := by
  unfold takeMinute
  split
  · simp
  · refine ⟨?_, ?_, ?_, ?_, ?_, ?_, ?_⟩ <;> exact (foldl_reads _ _ (fun t x => by simp) _ _).trans (by simp)

/-! ### The resets -/

@[simp] theorem resetAttention_frame (s : State) :
    (resetAttention s).sessions = s.sessions ∧
    (resetAttention s).accounts = s.accounts ∧
    (resetAttention s).tariff = s.tariff ∧
    (resetAttention s).meter = s.meter ∧
    (resetAttention s).supply = s.supply ∧
    (resetAttention s).planner = s.planner ∧
    (resetAttention s).heating = s.heating ∧
    (resetAttention s).isolation = s.isolation ∧
    (resetAttention s).localizer = s.localizer ∧
    (resetAttention s).portsStarted = s.portsStarted ∧
    (resetAttention s).control = s.control ∧
    (resetAttention s).billing = s.billing ∧
    (resetAttention s).choices = s.choices ∧
    (resetAttention s).freeCount = s.freeCount ∧
    (resetAttention s).pending = s.pending := by
  simp [resetAttention]

@[simp] theorem resetMeter_frame (s : State) :
    (resetMeter s).sessions = s.sessions ∧
    (resetMeter s).accounts = s.accounts ∧
    (resetMeter s).tariff = s.tariff ∧
    (resetMeter s).supply = s.supply ∧
    (resetMeter s).planner = s.planner ∧
    (resetMeter s).heating = s.heating ∧
    (resetMeter s).isolation = s.isolation ∧
    (resetMeter s).localizer = s.localizer ∧
    (resetMeter s).attention = s.attention ∧
    (resetMeter s).portsStarted = s.portsStarted ∧
    (resetMeter s).control = s.control ∧
    (resetMeter s).billing = s.billing ∧
    (resetMeter s).choices = s.choices ∧
    (resetMeter s).freeCount = s.freeCount ∧
    (resetMeter s).pending = s.pending := by
  simp [resetMeter]

@[simp] theorem resetIsolation_frame (s : State) :
    (resetIsolation s).sessions = s.sessions ∧
    (resetIsolation s).accounts = s.accounts ∧
    (resetIsolation s).tariff = s.tariff ∧
    (resetIsolation s).meter = s.meter ∧
    (resetIsolation s).supply = s.supply ∧
    (resetIsolation s).planner = s.planner ∧
    (resetIsolation s).heating = s.heating ∧
    (resetIsolation s).localizer = s.localizer ∧
    (resetIsolation s).attention = s.attention ∧
    (resetIsolation s).portsStarted = s.portsStarted ∧
    (resetIsolation s).control = s.control ∧
    (resetIsolation s).billing = s.billing ∧
    (resetIsolation s).choices = s.choices ∧
    (resetIsolation s).freeCount = s.freeCount ∧
    (resetIsolation s).pending = s.pending := by
  simp [resetIsolation]

@[simp] theorem resetSupply_frame (s : State) :
    (resetSupply s).sessions = s.sessions ∧
    (resetSupply s).accounts = s.accounts ∧
    (resetSupply s).tariff = s.tariff ∧
    (resetSupply s).meter = s.meter ∧
    (resetSupply s).planner = s.planner ∧
    (resetSupply s).heating = s.heating ∧
    (resetSupply s).localizer = s.localizer ∧
    (resetSupply s).portsStarted = s.portsStarted ∧
    (resetSupply s).control = s.control ∧
    (resetSupply s).billing = s.billing ∧
    (resetSupply s).choices = s.choices ∧
    (resetSupply s).freeCount = s.freeCount ∧
    (resetSupply s).pending = s.pending := by
  unfold resetSupply
  (repeat' split) <;> simp

@[simp] theorem resetHeating_frame (s : State) :
    (resetHeating s).sessions = s.sessions ∧
    (resetHeating s).accounts = s.accounts ∧
    (resetHeating s).tariff = s.tariff ∧
    (resetHeating s).meter = s.meter ∧
    (resetHeating s).supply = s.supply ∧
    (resetHeating s).planner = s.planner ∧
    (resetHeating s).isolation = s.isolation ∧
    (resetHeating s).localizer = s.localizer ∧
    (resetHeating s).attention = s.attention ∧
    (resetHeating s).portsStarted = s.portsStarted ∧
    (resetHeating s).control = s.control ∧
    (resetHeating s).billing = s.billing ∧
    (resetHeating s).choices = s.choices ∧
    (resetHeating s).freeCount = s.freeCount ∧
    (resetHeating s).pending = s.pending := by
  simp [resetHeating]

@[simp] theorem resetPlanner_frame (s : State) :
    (resetPlanner s).sessions = s.sessions ∧
    (resetPlanner s).accounts = s.accounts ∧
    (resetPlanner s).tariff = s.tariff ∧
    (resetPlanner s).meter = s.meter ∧
    (resetPlanner s).supply = s.supply ∧
    (resetPlanner s).heating = s.heating ∧
    (resetPlanner s).isolation = s.isolation ∧
    (resetPlanner s).localizer = s.localizer ∧
    (resetPlanner s).attention = s.attention ∧
    (resetPlanner s).portsStarted = s.portsStarted ∧
    (resetPlanner s).control = s.control ∧
    (resetPlanner s).billing = s.billing ∧
    (resetPlanner s).choices = s.choices ∧
    (resetPlanner s).freeCount = s.freeCount ∧
    (resetPlanner s).pending = s.pending := by
  simp [resetPlanner]

@[simp] theorem resetPorts_frame (s : State) :
    (resetPorts s).sessions = s.sessions ∧
    (resetPorts s).accounts = s.accounts ∧
    (resetPorts s).tariff = s.tariff ∧
    (resetPorts s).meter = s.meter ∧
    (resetPorts s).supply = s.supply ∧
    (resetPorts s).planner = s.planner ∧
    (resetPorts s).heating = s.heating ∧
    (resetPorts s).isolation = s.isolation ∧
    (resetPorts s).localizer = s.localizer ∧
    (resetPorts s).attention = s.attention ∧
    (resetPorts s).portsStarted = s.portsStarted ∧
    (resetPorts s).choices = s.choices ∧
    (resetPorts s).freeCount = s.freeCount ∧
    (resetPorts s).pending = s.pending := by
  simp [resetPorts]

@[simp] theorem warmReset_frame (s : State) :
    (warmReset s).portsStarted = s.portsStarted ∧
    (warmReset s).choices = s.choices ∧
    (warmReset s).freeCount = s.freeCount ∧
    (warmReset s).pending = s.pending := by
  simp [warmReset]

@[simp] theorem completeStart_frame (s : State) :
    (completeStart s).sessions = s.sessions ∧
    (completeStart s).accounts = s.accounts ∧
    (completeStart s).tariff = s.tariff ∧
    (completeStart s).meter = s.meter ∧
    (completeStart s).supply = s.supply ∧
    (completeStart s).planner = s.planner ∧
    (completeStart s).heating = s.heating ∧
    (completeStart s).isolation = s.isolation ∧
    (completeStart s).localizer = s.localizer ∧
    (completeStart s).choices = s.choices ∧
    (completeStart s).freeCount = s.freeCount ∧
    (completeStart s).pending = s.pending := by
  unfold completeStart
  (repeat' split) <;> simp

end Sys2Proof.Machine
end

