-- ==== Sys2Proof/Laws/Operations.lean ====
section
/-! SUPPORT. What the searches and folds of the planner and the Localizer come to: the zones that a cut removes, the slot
that a placement takes, the suspect that a step takes; when an event is accrued, when a dwell is aborted. -/

namespace Sys2Proof.Machine

/-! ### Removing zones from an entry (R120, R122) -/

theorem remove_zones (z y : Fin 6) (e : PlanEntry) :
    (e.remove z).zones[y] = if y = z then none else e.zones[y] := by
  by_cases hz : e.zones[z] = none
  · have : e.remove z = e := by unfold PlanEntry.remove; rw [hz]
    rw [this]; split
    · next h => rw [h, hz]
    · rfl
  · obtain ⟨w, hw⟩ := Option.ne_none_iff_exists'.mp hz
    have : e.remove z = { e with zones := e.zones.set z none, heaterPower := e.heaterPower - w } := by
      unfold PlanEntry.remove; rw [hw]
    rw [this]
    simp only [Fin.getElem_fin, Vector.getElem_set, Fin.val_inj, eq_comm]

theorem remove_heaterPower (z : Fin 6) (e : PlanEntry) :
    (e.remove z).heaterPower = e.heaterPower - (e.zones[z]).getD 0 := by
  unfold PlanEntry.remove
  split
  · next h => rw [h]; simp
  · next w h => rw [h]; simp

theorem remove_budget (z : Fin 6) (e : PlanEntry) : (e.remove z).budget = e.budget ∧ (e.remove z).command = e.command := by
  unfold PlanEntry.remove
  split <;> exact ⟨rfl, rfl⟩

/-- Zones removed one after another are gone, the others stay. -/
theorem foldl_remove_zones (y : Fin 6) : ∀ (gone : List (Fin 6)) (e : PlanEntry),
    (gone.foldl (fun e z => e.remove z) e).zones[y] = if y ∈ gone then none else e.zones[y]
  | [], e => by simp
  | z :: rest, e => by
    rw [List.foldl_cons, foldl_remove_zones y rest, remove_zones]
    by_cases h : y = z <;> simp [h]

/-- Different zones removed one after another take their rated powers from the heater power. -/
theorem foldl_remove_heaterPower : ∀ (gone : List (Fin 6)) (e : PlanEntry), gone.Nodup →
    (gone.foldl (fun e z => e.remove z) e).heaterPower = e.heaterPower - (gone.map fun z => (e.zones[z]).getD 0).sum
  | [], e, _ => by simp
  | z :: rest, e, h => by
    obtain ⟨hz, hr⟩ := List.nodup_cons.mp h
    rw [List.foldl_cons, foldl_remove_heaterPower rest _ hr, remove_heaterPower, List.map_cons, List.sum_cons]
    have : (rest.map fun y => ((e.remove z).zones[y]).getD 0) = rest.map fun y => (e.zones[y]).getD 0 :=
      List.map_congr_left fun y hy => by
        rw [remove_zones, if_neg]
        rintro rfl
        exact hz hy
    rw [this]
    omega

theorem foldl_remove_budget : ∀ (gone : List (Fin 6)) (e : PlanEntry),
    (gone.foldl (fun e z => e.remove z) e).budget = e.budget ∧ (gone.foldl (fun e z => e.remove z) e).command = e.command
  | [], _ => ⟨rfl, rfl⟩
  | z :: rest, e => by
    rw [List.foldl_cons]
    exact ⟨(foldl_remove_budget rest _).1.trans (remove_budget z e).1, (foldl_remove_budget rest _).2.trans (remove_budget z e).2⟩

theorem dropLatest_of_le (budget : Nat) : ∀ (zones : List (Fin 6)) (e : PlanEntry), e.heaterPower ≤ budget →
    dropLatest budget zones e = e
  | [], _, _ => rfl
  | z :: rest, e, h => by
    rw [dropLatest, if_neg (by omega)]
    exact dropLatest_of_le budget rest e h

/-- What `dropLatest` removes: zones from the front of the list, each while the heater power was still above the budget,
until it is not or no zone is left. -/
theorem dropLatest_removes (budget : Nat) : ∀ (zones : List (Fin 6)) (e : PlanEntry), ∃ gone kept, zones = gone ++ kept ∧
    dropLatest budget zones e = gone.foldl (fun e z => e.remove z) e ∧
    (kept ≠ [] → (dropLatest budget zones e).heaterPower ≤ budget) ∧
    ∀ before z, gone = before ++ [z] → budget < (before.foldl (fun e z => e.remove z) e).heaterPower
  | [], e => ⟨[], [], rfl, rfl, fun h => absurd rfl h, fun before z h => by simp at h⟩
  | z :: rest, e => by
    by_cases h : budget < e.heaterPower
    · obtain ⟨gone, kept, hs, hd, hk, hg⟩ := dropLatest_removes budget rest (e.remove z)
      have step : dropLatest budget (z :: rest) e = dropLatest budget rest (e.remove z) := by rw [dropLatest, if_pos h]
      refine ⟨z :: gone, kept, by rw [hs]; rfl, by rw [step, hd, List.foldl_cons], by rw [step]; exact hk, ?_⟩
      intro before y hy
      cases before with
      | nil => exact h
      | cons w before =>
        obtain ⟨rfl, hw⟩ := List.cons.inj hy
        exact hg before y hw
    · exact ⟨[], z :: rest, rfl, dropLatest_of_le budget _ e (by omega),
        fun _ => by rw [dropLatest_of_le budget _ e (by omega)]; omega, fun before y hy => by simp at hy⟩

/-! ### The slot that a placement takes (R115) -/

/-- Slot `k` comes before slot `j` for a placement: less heater power, or as much and earlier. -/
def lowerSlot (plan : Vector PlanEntry 16) (k j : Fin 16) : Prop :=
  (plan[k]).heaterPower < (plan[j]).heaterPower ∨ ((plan[k]).heaterPower = (plan[j]).heaterPower ∧ k < j)

/-- One slot of the search of `bestSlot`. -/
def betterSlot (cap : Nat) (z : Fin 6) (rated : Nat) (plan : Vector PlanEntry 16) (best : Option (Fin 16)) (k : Fin 16) :
    Option (Fin 16) :=
  if canTake cap z rated plan[k] then
    match best with
    | none => some k
    | some b => if (plan[k]).heaterPower < (plan[b]).heaterPower then some k else best
  else best

theorem foldl_betterSlot (cap : Nat) (z : Fin 6) (rated : Nat) (plan : Vector PlanEntry 16) :
    ∀ (slots : List (Fin 16)) (best : Option (Fin 16)), slots.Pairwise (· < ·) →
    (∀ b ∈ best, ∀ k ∈ slots, b < k) →
    match slots.foldl (betterSlot cap z rated plan) best with
    | none => best = none ∧ ∀ k ∈ slots, canTake cap z rated plan[k] = false
    | some b => (best = some b ∨ (b ∈ slots ∧ canTake cap z rated plan[b] = true)) ∧
      (∀ c ∈ best, c ≠ b → lowerSlot plan b c) ∧
      ∀ k ∈ slots, canTake cap z rated plan[k] = true → k ≠ b → lowerSlot plan b k
  | [], best, _, _ => by cases best <;> simp
  | k :: rest, best, hp, hb => by
    obtain ⟨hk, hr⟩ := List.pairwise_cons.mp hp
    rw [List.foldl_cons]
    have ih := foldl_betterSlot cap z rated plan rest (betterSlot cap z rated plan best k) hr (by
      intro b hm j hj
      by_cases ht : canTake cap z rated plan[k] = true
      · cases best with
        | none =>
          simp only [betterSlot, ht, if_true, Option.mem_def, Option.some.injEq] at hm
          exact hm ▸ hk j hj
        | some c =>
          simp only [betterSlot, ht, if_true] at hm
          split at hm
          · exact (Option.some.inj hm) ▸ hk j hj
          · exact hb b hm j (List.mem_cons_of_mem _ hj)
      · simp only [betterSlot, ht, Bool.false_eq_true, if_false] at hm
        exact hb b hm j (List.mem_cons_of_mem _ hj))
    by_cases ht : canTake cap z rated plan[k] = true
    · cases best with
      | none =>
        simp only [betterSlot, ht, if_true] at ih ⊢
        split at ih
        · exact absurd ih.1 (by simp)
        · next b _ =>
          refine ⟨.inr ?_, by simp, ?_⟩
          · rcases ih.1 with h | h
            · obtain rfl := Option.some.inj h; exact ⟨List.mem_cons_self, ht⟩
            · exact ⟨List.mem_cons_of_mem _ h.1, h.2⟩
          · intro j hj hc hn
            rcases List.mem_cons.mp hj with rfl | hj
            · exact ih.2.1 _ rfl hn
            · exact ih.2.2 j hj hc hn
      | some c =>
        by_cases hl : (plan[k]).heaterPower < (plan[c]).heaterPower
        · simp only [betterSlot, ht, if_true, hl] at ih ⊢
          split at ih
          · exact absurd ih.1 (by simp)
          · next b _ =>
            refine ⟨.inr ?_, ?_, ?_⟩
            · rcases ih.1 with h | h
              · obtain rfl := Option.some.inj h; exact ⟨List.mem_cons_self, ht⟩
              · exact ⟨List.mem_cons_of_mem _ h.1, h.2⟩
            · rintro d hd hn
              obtain rfl := Option.some.inj hd
              by_cases he : k = b
              · exact .inl (he ▸ hl)
              · rcases ih.2.1 k rfl he with h | h
                · exact .inl (by omega)
                · exact .inl (by omega)
            · intro j hj hc hn
              rcases List.mem_cons.mp hj with rfl | hj
              · exact ih.2.1 _ rfl hn
              · exact ih.2.2 j hj hc hn
        · simp only [betterSlot, ht, if_true, hl, if_false] at ih ⊢
          split at ih
          · exact absurd ih.1 (by simp)
          · next b _ =>
            refine ⟨ih.1.imp id fun h => ⟨List.mem_cons_of_mem _ h.1, h.2⟩, ih.2.1, ?_⟩
            intro j hj hc hn
            rcases List.mem_cons.mp hj with rfl | hj
            · by_cases he : c = b
              · subst he
                rcases Nat.lt_or_ge (plan[c]).heaterPower (plan[j]).heaterPower with h | h
                · exact .inl h
                · exact .inr ⟨by omega, hb c rfl j List.mem_cons_self⟩
              · have := hb c rfl j List.mem_cons_self
                rcases ih.2.1 c rfl he with h | h
                · exact .inl (by omega)
                · rcases Nat.lt_or_ge (plan[c]).heaterPower (plan[j]).heaterPower with g | g
                  · exact .inl (by omega)
                  · exact .inr ⟨by omega, by omega⟩
            · exact ih.2.2 j hj hc hn
    · simp only [betterSlot, ht, Bool.false_eq_true, if_false] at ih ⊢
      split at ih
      · next =>
        exact ⟨ih.1, fun j hj => (List.mem_cons.mp hj).elim (fun h => h ▸ by simpa using ht) (ih.2 j)⟩
      · next b _ =>
        refine ⟨ih.1.imp id fun h => ⟨List.mem_cons_of_mem _ h.1, h.2⟩, ih.2.1, ?_⟩
        intro j hj hc hn
        rcases List.mem_cons.mp hj with rfl | hj
        · exact absurd hc ht
        · exact ih.2.2 j hj hc hn

/-- The search finds no slot exactly where none can take the zone, and otherwise the lowest of those that can. -/
theorem bestSlot_finds (cap : Nat) (z : Fin 6) (rated : Nat) (plan : Vector PlanEntry 16) :
    match bestSlot cap z rated plan with
    | none => ∀ k : Fin 16, canTake cap z rated plan[k] = false
    | some b => canTake cap z rated plan[b] = true ∧
      ∀ k : Fin 16, canTake cap z rated plan[k] = true → k ≠ b → lowerSlot plan b k := by
  have h := foldl_betterSlot cap z rated plan (List.finRange 16) none (List.pairwise_lt_finRange 16) (by simp)
  have e : bestSlot cap z rated plan = (List.finRange 16).foldl (betterSlot cap z rated plan) none := rfl
  rw [e]
  split at h
  · exact fun k => h.2 k (List.mem_finRange k)
  · refine ⟨?_, fun k => h.2.2 k (List.mem_finRange k)⟩
    rcases h.1 with g | g
    · exact absurd g (by simp)
    · exact g.2

/-! ### The suspect that a step takes (R162) -/

/-- With no energizable suspect on the stack the verdict is PACK_SIDE. -/
theorem takeSuspect_none : ∀ (stack : List Suspect) (s : State), (∀ x ∈ stack, energizable s x = false) →
    takeSuspect stack s = deliverVerdict .packSide (s.setLocalizer { s.localizer with stack := [] })
  | [], _, _ => rfl
  | x :: below, s, h => by
    rw [takeSuspect, if_neg (by simp [h x List.mem_cons_self])]
    exact takeSuspect_none below s fun y hy => h y (List.mem_cons_of_mem _ hy)

/-- The first energizable suspect, from the top, begins its step with those below it left on the stack. -/
theorem takeSuspect_first (x : Suspect) (below : List Suspect) (s : State) (hx : energizable s x = true) :
    ∀ above : List Suspect, (∀ y ∈ above, energizable s y = false) →
    takeSuspect (above ++ x :: below) s = beginStep x below.reverse s
  | [], _ => by rw [List.nil_append, takeSuspect, if_pos hx]
  | y :: above, h => by
    rw [List.cons_append, takeSuspect, if_neg (by simp [h y List.mem_cons_self])]
    exact takeSuspect_first x below s hx above fun w hw => h w (List.mem_cons_of_mem _ hw)

/-! ### Energies that stand (R67) -/

/-- An event past the range, or any event once one was, leaves everything but the mark. -/
theorem accrueEnergy_stands (i : Fin 8) (p : Powers) (held : Bool) (s : State)
    (h : (s.session i).energyFrozen = true ∨ pastRange p (s.session i) = true) :
    accrueEnergy i p held s = s.setSession i { s.session i with energyFrozen := true } := by
  rcases h with h | h <;> simp [accrueEnergy, h]

/-- An event in range is accrued and its carries priced, and the mark stays clear. -/
theorem accrueEnergy_accrues (i : Fin 8) (p : Powers) (held : Bool) (s : State)
    (h : (s.session i).energyFrozen = false) (hp : pastRange p (s.session i) = false) :
    accrueEnergy i p held s = priceMany i .heat ((s.session i).heatEnergy.carry p.heat)
      (priceMany i .charge ((s.session i).chargeEnergy.carry p.charge)
        (s.setSession i ((s.session i).accrued p held))) ∧
    ((s.session i).accrued p held).energyFrozen = false := by
  simp [accrueEnergy, h, hp, Session.accrued]

/-! ### An aborted dwell (R166) -/

theorem abortDwell_idle (s : State) (h : s.localizer.state = .idle) : abortDwell s = s := by
  simp [abortDwell, h]

theorem abortDwell_dwell (s : State) (h : s.localizer.state = .dwell) :
    abortDwell s = deliverVerdict .unresolved s := by
  simp [abortDwell, h]

end Sys2Proof.Machine
end

