-- ==== Sys2Proof/Laws/Orders.lean ====
section
/-! SUPPORT. The orders of the takers of an event: each taker acts exactly once whatever `choices` holds; the slots that
the searches of Machine/Ops.lean find; the one form of every request command. -/

namespace Sys2Proof.Machine

/-! ### Orders (log 6) -/

theorem mem_arrange (needed wish : List Taker) (t : Taker) : t ∈ arrange needed wish ↔ t ∈ needed := by
  by_cases h : t ∈ wish <;> simp [arrange, h]

theorem arrange_nodup {needed : List Taker} (h : needed.Nodup) (wish : List Taker) : (arrange needed wish).Nodup := by
  refine List.Nodup.append (List.nodup_dedup _) (h.filter _) ?_
  intro t ht hn
  simp only [List.mem_dedup, List.mem_filter, decide_eq_true_eq] at ht hn
  exact hn.2 ht.1

/-- An arranged order is a reordering of what is needed. -/
theorem arrange_perm {needed : List Taker} (h : needed.Nodup) (wish : List Taker) :
    (arrange needed wish).Perm needed :=
  (List.perm_ext_iff_of_nodup (arrange_nodup h wish) h).mpr fun t => mem_arrange needed wish t

/-- Putting the planner last reorders the takers, of which it is one. -/
theorem plannerLast_perm {order : List Taker} (h : order.Nodup) (m : Taker.planner ∈ order) :
    (plannerLast order).Perm order := by
  refine (List.perm_ext_iff_of_nodup ?_ h).mpr fun t => ?_
  · exact List.Nodup.append (h.filter _) (by simp) (by simp)
  · by_cases e : t = .planner <;> simp [plannerLast, e, m]

/-- The planner is last once put there. -/
theorem plannerLast_getLast? (order : List Taker) : (plannerLast order).getLast? = some .planner := by
  simp [plannerLast]

/-- Every taker of an accepted event acts exactly once. -/
theorem acceptedOrder_perm (a : Arrival) (s : State) : (acceptedOrder a s).Perm acceptedTakers := by
  have h : (openOrder acceptedTakers s).Perm acceptedTakers := arrange_perm (by decide) _
  simp only [acceptedOrder]
  split
  · exact (plannerLast_perm (h.nodup_iff.mpr (by decide)) (h.mem_iff.mpr (by decide))).trans h
  · exact h

/-- At a boundary the planner acts last. -/
theorem acceptedOrder_boundary {a : Arrival} (h : a.boundary = true) (s : State) :
    (acceptedOrder a s).getLast? = some .planner := by
  simp only [acceptedOrder, h, if_true, plannerLast_getLast?]

/-- Every taker of a held event acts exactly once. -/
theorem heldOrder_perm (a : Arrival) (s : State) : (heldOrder a s).Perm heldTakers := by
  have h : (openOrder heldTakers s).Perm heldTakers := arrange_perm (by decide) _
  simp only [heldOrder]
  split
  · exact (plannerLast_perm (h.nodup_iff.mpr (by decide)) (h.mem_iff.mpr (by decide))).trans h
  · exact h

/-- Every taker of a minute event acts exactly once. -/
theorem minuteOrder_perm (s : State) : (openOrder minuteTakers s).Perm minuteTakers :=
  arrange_perm (by decide) _

/-! ### Searches of the session slots -/

theorem liveSlot_some {s : State} {i : Fin 8} (h : liveSlot s = some i) : (s.session i).state.isLive = true := by
  simpa using List.find?_some h

theorem liveSlot_none {s : State} : liveSlot s = none ↔ ∀ i, (s.session i).state.isLive = false := by
  simp [liveSlot, List.find?_eq_none]

theorem accruingSlot_some {s : State} {i : Fin 8} (h : accruingSlot s = some i) : (s.session i).state.accrues = true := by
  simpa using List.find?_some h

theorem accruingSlot_none {s : State} : accruingSlot s = none ↔ ∀ i, (s.session i).state.accrues = false := by
  simp [accruingSlot, List.find?_eq_none]

theorem closingSlot_some {s : State} {i : Fin 8} (h : closingSlot s = some i) : (s.session i).state = .closing := by
  simpa using List.find?_some h

theorem closingSlot_none {s : State} : closingSlot s = none ↔ ∀ i, (s.session i).state ≠ .closing := by
  simp [closingSlot, List.find?_eq_none]

/-! ### Commands -/

/-- Every request command is its request taken at its port. -/
theorem exec_command (p : Port) (r : Request) (s : State) : exec (r.command p) s = .next (takeRequest p r s) := by
  cases r <;> rfl

/-- Every command answers a next state. -/
theorem exec_next (c : Instr) (s : State) : ∃ t, exec c s = .next t := by cases c <;> exact ⟨_, rfl⟩

/-- Every step answers a next state. -/
theorem step_next (s : State) : ∃ t, step s = .next t := by
  unfold step idle
  split
  · split
    · exact ⟨_, rfl⟩
    · exact exec_next _ _
    · exact exec_next _ _
  · exact exec_next _ _

end Sys2Proof.Machine
end

