-- ==== Sys2Proof/Laws/RequestFrames.lean ====
section
/-! SUPPORT. The frame of every request: every field of the state that its reply leaves as it was. -/

namespace Sys2Proof.Machine

@[simp] theorem accept_state (s : State) (d : List Byte) : (accept s d).state = s := rfl
@[simp] theorem accept_result (s : State) (d : List Byte) : (accept s d).result = .ok := rfl
@[simp] theorem accept_data (s : State) (d : List Byte) : (accept s d).data = d := rfl
@[simp] theorem refuse_state (s : State) (c : ResultCode) : (refuse s c).state = s := rfl
@[simp] theorem refuse_result (s : State) (c : ResultCode) : (refuse s c).result = c := rfl
@[simp] theorem refuse_data (s : State) (c : ResultCode) : (refuse s c).data = [] := rfl

/-! ### Chapter 3 -/

@[simp] theorem requestWriteBand_frame (band : Byte) (chain : Byte) (start : BitVec 16) (chargeRate : BitVec 16) (heatRate : BitVec 16) (occupancyRate : BitVec 16) (cap : Option (BitVec 32)) (next : Byte) (s : State) :
    (requestWriteBand band chain start chargeRate heatRate occupancyRate cap next s).state.sessions = s.sessions ∧
    (requestWriteBand band chain start chargeRate heatRate occupancyRate cap next s).state.accounts = s.accounts ∧
    (requestWriteBand band chain start chargeRate heatRate occupancyRate cap next s).state.meter = s.meter ∧
    (requestWriteBand band chain start chargeRate heatRate occupancyRate cap next s).state.supply = s.supply ∧
    (requestWriteBand band chain start chargeRate heatRate occupancyRate cap next s).state.planner = s.planner ∧
    (requestWriteBand band chain start chargeRate heatRate occupancyRate cap next s).state.heating = s.heating ∧
    (requestWriteBand band chain start chargeRate heatRate occupancyRate cap next s).state.isolation = s.isolation ∧
    (requestWriteBand band chain start chargeRate heatRate occupancyRate cap next s).state.localizer = s.localizer ∧
    (requestWriteBand band chain start chargeRate heatRate occupancyRate cap next s).state.attention = s.attention ∧
    (requestWriteBand band chain start chargeRate heatRate occupancyRate cap next s).state.portsStarted = s.portsStarted ∧
    (requestWriteBand band chain start chargeRate heatRate occupancyRate cap next s).state.control = s.control ∧
    (requestWriteBand band chain start chargeRate heatRate occupancyRate cap next s).state.billing = s.billing ∧
    (requestWriteBand band chain start chargeRate heatRate occupancyRate cap next s).state.choices = s.choices ∧
    (requestWriteBand band chain start chargeRate heatRate occupancyRate cap next s).state.freeCount = s.freeCount ∧
    (requestWriteBand band chain start chargeRate heatRate occupancyRate cap next s).state.pending = s.pending := by
  unfold requestWriteBand
  (repeat' split) <;> simp

@[simp] theorem requestFreeBand_frame (band : Byte) (s : State) :
    (requestFreeBand band s).state.sessions = s.sessions ∧
    (requestFreeBand band s).state.accounts = s.accounts ∧
    (requestFreeBand band s).state.meter = s.meter ∧
    (requestFreeBand band s).state.supply = s.supply ∧
    (requestFreeBand band s).state.planner = s.planner ∧
    (requestFreeBand band s).state.heating = s.heating ∧
    (requestFreeBand band s).state.isolation = s.isolation ∧
    (requestFreeBand band s).state.localizer = s.localizer ∧
    (requestFreeBand band s).state.attention = s.attention ∧
    (requestFreeBand band s).state.portsStarted = s.portsStarted ∧
    (requestFreeBand band s).state.control = s.control ∧
    (requestFreeBand band s).state.billing = s.billing ∧
    (requestFreeBand band s).state.choices = s.choices ∧
    (requestFreeBand band s).state.freeCount = s.freeCount ∧
    (requestFreeBand band s).state.pending = s.pending := by
  unfold requestFreeBand
  (repeat' split) <;> simp

@[simp] theorem requestSealChain_frame (chain : Byte) (id : BitVec 32) (s : State) :
    (requestSealChain chain id s).state.sessions = s.sessions ∧
    (requestSealChain chain id s).state.accounts = s.accounts ∧
    (requestSealChain chain id s).state.meter = s.meter ∧
    (requestSealChain chain id s).state.supply = s.supply ∧
    (requestSealChain chain id s).state.planner = s.planner ∧
    (requestSealChain chain id s).state.heating = s.heating ∧
    (requestSealChain chain id s).state.isolation = s.isolation ∧
    (requestSealChain chain id s).state.localizer = s.localizer ∧
    (requestSealChain chain id s).state.attention = s.attention ∧
    (requestSealChain chain id s).state.portsStarted = s.portsStarted ∧
    (requestSealChain chain id s).state.control = s.control ∧
    (requestSealChain chain id s).state.billing = s.billing ∧
    (requestSealChain chain id s).state.choices = s.choices ∧
    (requestSealChain chain id s).state.freeCount = s.freeCount ∧
    (requestSealChain chain id s).state.pending = s.pending := by
  unfold requestSealChain
  (repeat' split) <;> simp

@[simp] theorem requestUnsealChain_frame (chain : Byte) (id : BitVec 32) (s : State) :
    (requestUnsealChain chain id s).state.sessions = s.sessions ∧
    (requestUnsealChain chain id s).state.accounts = s.accounts ∧
    (requestUnsealChain chain id s).state.meter = s.meter ∧
    (requestUnsealChain chain id s).state.supply = s.supply ∧
    (requestUnsealChain chain id s).state.planner = s.planner ∧
    (requestUnsealChain chain id s).state.heating = s.heating ∧
    (requestUnsealChain chain id s).state.isolation = s.isolation ∧
    (requestUnsealChain chain id s).state.localizer = s.localizer ∧
    (requestUnsealChain chain id s).state.attention = s.attention ∧
    (requestUnsealChain chain id s).state.portsStarted = s.portsStarted ∧
    (requestUnsealChain chain id s).state.control = s.control ∧
    (requestUnsealChain chain id s).state.billing = s.billing ∧
    (requestUnsealChain chain id s).state.choices = s.choices ∧
    (requestUnsealChain chain id s).state.freeCount = s.freeCount ∧
    (requestUnsealChain chain id s).state.pending = s.pending := by
  unfold requestUnsealChain
  (repeat' split) <;> simp

@[simp] theorem requestLookBand_frame (band : Byte) (s : State) :
    (requestLookBand band s).state.sessions = s.sessions ∧
    (requestLookBand band s).state.accounts = s.accounts ∧
    (requestLookBand band s).state.tariff = s.tariff ∧
    (requestLookBand band s).state.meter = s.meter ∧
    (requestLookBand band s).state.supply = s.supply ∧
    (requestLookBand band s).state.planner = s.planner ∧
    (requestLookBand band s).state.heating = s.heating ∧
    (requestLookBand band s).state.isolation = s.isolation ∧
    (requestLookBand band s).state.localizer = s.localizer ∧
    (requestLookBand band s).state.attention = s.attention ∧
    (requestLookBand band s).state.portsStarted = s.portsStarted ∧
    (requestLookBand band s).state.control = s.control ∧
    (requestLookBand band s).state.billing = s.billing ∧
    (requestLookBand band s).state.choices = s.choices ∧
    (requestLookBand band s).state.freeCount = s.freeCount ∧
    (requestLookBand band s).state.pending = s.pending := by
  unfold requestLookBand
  (repeat' split) <;> simp

@[simp] theorem requestLookChain_frame (chain : Byte) (s : State) :
    (requestLookChain chain s).state.sessions = s.sessions ∧
    (requestLookChain chain s).state.accounts = s.accounts ∧
    (requestLookChain chain s).state.tariff = s.tariff ∧
    (requestLookChain chain s).state.meter = s.meter ∧
    (requestLookChain chain s).state.supply = s.supply ∧
    (requestLookChain chain s).state.planner = s.planner ∧
    (requestLookChain chain s).state.heating = s.heating ∧
    (requestLookChain chain s).state.isolation = s.isolation ∧
    (requestLookChain chain s).state.localizer = s.localizer ∧
    (requestLookChain chain s).state.attention = s.attention ∧
    (requestLookChain chain s).state.portsStarted = s.portsStarted ∧
    (requestLookChain chain s).state.control = s.control ∧
    (requestLookChain chain s).state.billing = s.billing ∧
    (requestLookChain chain s).state.choices = s.choices ∧
    (requestLookChain chain s).state.freeCount = s.freeCount ∧
    (requestLookChain chain s).state.pending = s.pending := by
  unfold requestLookChain
  (repeat' split) <;> simp

@[simp] theorem requestLookCalendar_frame (s : State) :
    (requestLookCalendar s).state.sessions = s.sessions ∧
    (requestLookCalendar s).state.accounts = s.accounts ∧
    (requestLookCalendar s).state.tariff = s.tariff ∧
    (requestLookCalendar s).state.meter = s.meter ∧
    (requestLookCalendar s).state.supply = s.supply ∧
    (requestLookCalendar s).state.planner = s.planner ∧
    (requestLookCalendar s).state.heating = s.heating ∧
    (requestLookCalendar s).state.isolation = s.isolation ∧
    (requestLookCalendar s).state.localizer = s.localizer ∧
    (requestLookCalendar s).state.attention = s.attention ∧
    (requestLookCalendar s).state.portsStarted = s.portsStarted ∧
    (requestLookCalendar s).state.control = s.control ∧
    (requestLookCalendar s).state.billing = s.billing ∧
    (requestLookCalendar s).state.choices = s.choices ∧
    (requestLookCalendar s).state.freeCount = s.freeCount ∧
    (requestLookCalendar s).state.pending = s.pending := by
  simp [requestLookCalendar]

@[simp] theorem requestSetCalendar_frame (minute : BitVec 16) (s : State) :
    (requestSetCalendar minute s).state.accounts = s.accounts ∧
    (requestSetCalendar minute s).state.meter = s.meter ∧
    (requestSetCalendar minute s).state.supply = s.supply ∧
    (requestSetCalendar minute s).state.planner = s.planner ∧
    (requestSetCalendar minute s).state.heating = s.heating ∧
    (requestSetCalendar minute s).state.isolation = s.isolation ∧
    (requestSetCalendar minute s).state.localizer = s.localizer ∧
    (requestSetCalendar minute s).state.attention = s.attention ∧
    (requestSetCalendar minute s).state.portsStarted = s.portsStarted ∧
    (requestSetCalendar minute s).state.control = s.control ∧
    (requestSetCalendar minute s).state.billing = s.billing ∧
    (requestSetCalendar minute s).state.choices = s.choices ∧
    (requestSetCalendar minute s).state.freeCount = s.freeCount ∧
    (requestSetCalendar minute s).state.pending = s.pending := by
  unfold requestSetCalendar
  (repeat' split) <;> simp

@[simp] theorem requestSetLifetime_frame (minutes : BitVec 16) (s : State) :
    (requestSetLifetime minutes s).state.sessions = s.sessions ∧
    (requestSetLifetime minutes s).state.accounts = s.accounts ∧
    (requestSetLifetime minutes s).state.meter = s.meter ∧
    (requestSetLifetime minutes s).state.supply = s.supply ∧
    (requestSetLifetime minutes s).state.planner = s.planner ∧
    (requestSetLifetime minutes s).state.heating = s.heating ∧
    (requestSetLifetime minutes s).state.isolation = s.isolation ∧
    (requestSetLifetime minutes s).state.localizer = s.localizer ∧
    (requestSetLifetime minutes s).state.attention = s.attention ∧
    (requestSetLifetime minutes s).state.portsStarted = s.portsStarted ∧
    (requestSetLifetime minutes s).state.control = s.control ∧
    (requestSetLifetime minutes s).state.billing = s.billing ∧
    (requestSetLifetime minutes s).state.choices = s.choices ∧
    (requestSetLifetime minutes s).state.freeCount = s.freeCount ∧
    (requestSetLifetime minutes s).state.pending = s.pending := by
  unfold requestSetLifetime
  (repeat' split) <;> simp

/-! ### Chapter 7, withdrawals and halts -/

@[simp] theorem requestLookPlan_frame (s : State) :
    (requestLookPlan s).state.sessions = s.sessions ∧
    (requestLookPlan s).state.accounts = s.accounts ∧
    (requestLookPlan s).state.tariff = s.tariff ∧
    (requestLookPlan s).state.meter = s.meter ∧
    (requestLookPlan s).state.supply = s.supply ∧
    (requestLookPlan s).state.planner = s.planner ∧
    (requestLookPlan s).state.heating = s.heating ∧
    (requestLookPlan s).state.isolation = s.isolation ∧
    (requestLookPlan s).state.localizer = s.localizer ∧
    (requestLookPlan s).state.attention = s.attention ∧
    (requestLookPlan s).state.portsStarted = s.portsStarted ∧
    (requestLookPlan s).state.control = s.control ∧
    (requestLookPlan s).state.billing = s.billing ∧
    (requestLookPlan s).state.choices = s.choices ∧
    (requestLookPlan s).state.freeCount = s.freeCount ∧
    (requestLookPlan s).state.pending = s.pending := by
  simp [requestLookPlan]

/-! ### Chapter 5 -/

@[simp] theorem requestLookMeter_frame (s : State) :
    (requestLookMeter s).state.sessions = s.sessions ∧
    (requestLookMeter s).state.accounts = s.accounts ∧
    (requestLookMeter s).state.tariff = s.tariff ∧
    (requestLookMeter s).state.meter = s.meter ∧
    (requestLookMeter s).state.supply = s.supply ∧
    (requestLookMeter s).state.planner = s.planner ∧
    (requestLookMeter s).state.heating = s.heating ∧
    (requestLookMeter s).state.isolation = s.isolation ∧
    (requestLookMeter s).state.localizer = s.localizer ∧
    (requestLookMeter s).state.attention = s.attention ∧
    (requestLookMeter s).state.portsStarted = s.portsStarted ∧
    (requestLookMeter s).state.control = s.control ∧
    (requestLookMeter s).state.billing = s.billing ∧
    (requestLookMeter s).state.choices = s.choices ∧
    (requestLookMeter s).state.freeCount = s.freeCount ∧
    (requestLookMeter s).state.pending = s.pending := by
  simp [requestLookMeter]

/-! ### Chapter 6 -/

@[simp] theorem requestLookSupply_frame (s : State) :
    (requestLookSupply s).state.sessions = s.sessions ∧
    (requestLookSupply s).state.accounts = s.accounts ∧
    (requestLookSupply s).state.tariff = s.tariff ∧
    (requestLookSupply s).state.meter = s.meter ∧
    (requestLookSupply s).state.supply = s.supply ∧
    (requestLookSupply s).state.planner = s.planner ∧
    (requestLookSupply s).state.heating = s.heating ∧
    (requestLookSupply s).state.isolation = s.isolation ∧
    (requestLookSupply s).state.localizer = s.localizer ∧
    (requestLookSupply s).state.attention = s.attention ∧
    (requestLookSupply s).state.portsStarted = s.portsStarted ∧
    (requestLookSupply s).state.control = s.control ∧
    (requestLookSupply s).state.billing = s.billing ∧
    (requestLookSupply s).state.choices = s.choices ∧
    (requestLookSupply s).state.freeCount = s.freeCount ∧
    (requestLookSupply s).state.pending = s.pending := by
  simp [requestLookSupply]

/-! ### Session requests -/

@[simp] theorem takeHolds_frame (z : Authorization) (s : State) :
    (takeHolds z s).sessions = s.sessions ∧
    (takeHolds z s).tariff = s.tariff ∧
    (takeHolds z s).meter = s.meter ∧
    (takeHolds z s).supply = s.supply ∧
    (takeHolds z s).planner = s.planner ∧
    (takeHolds z s).heating = s.heating ∧
    (takeHolds z s).isolation = s.isolation ∧
    (takeHolds z s).localizer = s.localizer ∧
    (takeHolds z s).attention = s.attention ∧
    (takeHolds z s).portsStarted = s.portsStarted ∧
    (takeHolds z s).control = s.control ∧
    (takeHolds z s).billing = s.billing ∧
    (takeHolds z s).choices = s.choices ∧
    (takeHolds z s).freeCount = s.freeCount ∧
    (takeHolds z s).pending = s.pending := by
  unfold takeHolds
  (repeat' split) <;> simp

@[simp] theorem fillSlot_frame (i : Fin 8) (z : Authorization) (s : State) :
    (fillSlot i z s).meter = s.meter ∧
    (fillSlot i z s).supply = s.supply ∧
    (fillSlot i z s).planner = s.planner ∧
    (fillSlot i z s).heating = s.heating ∧
    (fillSlot i z s).isolation = s.isolation ∧
    (fillSlot i z s).localizer = s.localizer ∧
    (fillSlot i z s).attention = s.attention ∧
    (fillSlot i z s).portsStarted = s.portsStarted ∧
    (fillSlot i z s).control = s.control ∧
    (fillSlot i z s).billing = s.billing ∧
    (fillSlot i z s).choices = s.choices ∧
    (fillSlot i z s).freeCount = s.freeCount ∧
    (fillSlot i z s).pending = s.pending := by
  simp [fillSlot]

@[simp] theorem liveAtOnce_frame (s : State) :
    (liveAtOnce s).accounts = s.accounts ∧
    (liveAtOnce s).tariff = s.tariff ∧
    (liveAtOnce s).meter = s.meter ∧
    (liveAtOnce s).supply = s.supply ∧
    (liveAtOnce s).planner = s.planner ∧
    (liveAtOnce s).heating = s.heating ∧
    (liveAtOnce s).isolation = s.isolation ∧
    (liveAtOnce s).localizer = s.localizer ∧
    (liveAtOnce s).portsStarted = s.portsStarted ∧
    (liveAtOnce s).control = s.control ∧
    (liveAtOnce s).billing = s.billing ∧
    (liveAtOnce s).choices = s.choices ∧
    (liveAtOnce s).freeCount = s.freeCount ∧
    (liveAtOnce s).pending = s.pending := by
  unfold liveAtOnce
  (repeat' split) <;> simp

@[simp] theorem requestAuthorize_frame (charge : Byte) (heat : Option Byte) (chain : Byte) (target : Option (BitVec 32)) (s : State) :
    (requestAuthorize charge heat chain target s).state.meter = s.meter ∧
    (requestAuthorize charge heat chain target s).state.supply = s.supply ∧
    (requestAuthorize charge heat chain target s).state.planner = s.planner ∧
    (requestAuthorize charge heat chain target s).state.heating = s.heating ∧
    (requestAuthorize charge heat chain target s).state.isolation = s.isolation ∧
    (requestAuthorize charge heat chain target s).state.localizer = s.localizer ∧
    (requestAuthorize charge heat chain target s).state.portsStarted = s.portsStarted ∧
    (requestAuthorize charge heat chain target s).state.control = s.control ∧
    (requestAuthorize charge heat chain target s).state.billing = s.billing ∧
    (requestAuthorize charge heat chain target s).state.choices = s.choices ∧
    (requestAuthorize charge heat chain target s).state.freeCount = s.freeCount ∧
    (requestAuthorize charge heat chain target s).state.pending = s.pending := by
  unfold requestAuthorize
  (repeat' split) <;> simp

@[simp] theorem requestCancel_frame (slot : Byte) (serial : BitVec 16) (s : State) :
    (requestCancel slot serial s).state.meter = s.meter ∧
    (requestCancel slot serial s).state.supply = s.supply ∧
    (requestCancel slot serial s).state.planner = s.planner ∧
    (requestCancel slot serial s).state.heating = s.heating ∧
    (requestCancel slot serial s).state.isolation = s.isolation ∧
    (requestCancel slot serial s).state.localizer = s.localizer ∧
    (requestCancel slot serial s).state.portsStarted = s.portsStarted ∧
    (requestCancel slot serial s).state.control = s.control ∧
    (requestCancel slot serial s).state.billing = s.billing ∧
    (requestCancel slot serial s).state.choices = s.choices ∧
    (requestCancel slot serial s).state.freeCount = s.freeCount ∧
    (requestCancel slot serial s).state.pending = s.pending := by
  unfold requestCancel onSession
  dsimp only
  (repeat' split) <;> simp

@[simp] theorem stopSession_frame (p : Port) (i : Fin 8) (s : State) :
    (stopSession p i s).accounts = s.accounts ∧
    (stopSession p i s).tariff = s.tariff ∧
    (stopSession p i s).meter = s.meter ∧
    (stopSession p i s).supply = s.supply ∧
    (stopSession p i s).portsStarted = s.portsStarted ∧
    (stopSession p i s).control = s.control ∧
    (stopSession p i s).billing = s.billing ∧
    (stopSession p i s).choices = s.choices ∧
    (stopSession p i s).freeCount = s.freeCount ∧
    (stopSession p i s).pending = s.pending := by
  simp [stopSession]

@[simp] theorem requestStop_frame (p : Port) (slot : Byte) (serial : BitVec 16) (s : State) :
    (requestStop p slot serial s).state.accounts = s.accounts ∧
    (requestStop p slot serial s).state.tariff = s.tariff ∧
    (requestStop p slot serial s).state.meter = s.meter ∧
    (requestStop p slot serial s).state.supply = s.supply ∧
    (requestStop p slot serial s).state.portsStarted = s.portsStarted ∧
    (requestStop p slot serial s).state.control = s.control ∧
    (requestStop p slot serial s).state.billing = s.billing ∧
    (requestStop p slot serial s).state.choices = s.choices ∧
    (requestStop p slot serial s).state.freeCount = s.freeCount ∧
    (requestStop p slot serial s).state.pending = s.pending := by
  unfold requestStop onSession
  dsimp only
  (repeat' split) <;> simp

@[simp] theorem requestLookSession_frame (slot : Byte) (s : State) :
    (requestLookSession slot s).state.sessions = s.sessions ∧
    (requestLookSession slot s).state.accounts = s.accounts ∧
    (requestLookSession slot s).state.tariff = s.tariff ∧
    (requestLookSession slot s).state.meter = s.meter ∧
    (requestLookSession slot s).state.supply = s.supply ∧
    (requestLookSession slot s).state.planner = s.planner ∧
    (requestLookSession slot s).state.heating = s.heating ∧
    (requestLookSession slot s).state.isolation = s.isolation ∧
    (requestLookSession slot s).state.localizer = s.localizer ∧
    (requestLookSession slot s).state.attention = s.attention ∧
    (requestLookSession slot s).state.portsStarted = s.portsStarted ∧
    (requestLookSession slot s).state.control = s.control ∧
    (requestLookSession slot s).state.billing = s.billing ∧
    (requestLookSession slot s).state.choices = s.choices ∧
    (requestLookSession slot s).state.freeCount = s.freeCount ∧
    (requestLookSession slot s).state.pending = s.pending := by
  unfold requestLookSession
  (repeat' split) <;> simp

@[simp] theorem requestCollect_frame (p : Port) (slot : Byte) (serial : BitVec 16) (s : State) :
    (requestCollect p slot serial s).state.accounts = s.accounts ∧
    (requestCollect p slot serial s).state.tariff = s.tariff ∧
    (requestCollect p slot serial s).state.meter = s.meter ∧
    (requestCollect p slot serial s).state.supply = s.supply ∧
    (requestCollect p slot serial s).state.planner = s.planner ∧
    (requestCollect p slot serial s).state.heating = s.heating ∧
    (requestCollect p slot serial s).state.isolation = s.isolation ∧
    (requestCollect p slot serial s).state.localizer = s.localizer ∧
    (requestCollect p slot serial s).state.attention = s.attention ∧
    (requestCollect p slot serial s).state.portsStarted = s.portsStarted ∧
    (requestCollect p slot serial s).state.control = s.control ∧
    (requestCollect p slot serial s).state.billing = s.billing ∧
    (requestCollect p slot serial s).state.choices = s.choices ∧
    (requestCollect p slot serial s).state.freeCount = s.freeCount ∧
    (requestCollect p slot serial s).state.pending = s.pending := by
  unfold requestCollect onSession
  dsimp only
  (repeat' split) <;> simp

@[simp] theorem lowerCount_frame (a : Fin 16) (s : State) :
    (lowerCount a s).sessions = s.sessions ∧
    (lowerCount a s).tariff = s.tariff ∧
    (lowerCount a s).meter = s.meter ∧
    (lowerCount a s).supply = s.supply ∧
    (lowerCount a s).planner = s.planner ∧
    (lowerCount a s).heating = s.heating ∧
    (lowerCount a s).isolation = s.isolation ∧
    (lowerCount a s).localizer = s.localizer ∧
    (lowerCount a s).attention = s.attention ∧
    (lowerCount a s).portsStarted = s.portsStarted ∧
    (lowerCount a s).control = s.control ∧
    (lowerCount a s).billing = s.billing ∧
    (lowerCount a s).choices = s.choices ∧
    (lowerCount a s).freeCount = s.freeCount ∧
    (lowerCount a s).pending = s.pending := by
  simp [lowerCount]

@[simp] theorem releaseSession_frame (i : Fin 8) (s : State) :
    (releaseSession i s).tariff = s.tariff ∧
    (releaseSession i s).meter = s.meter ∧
    (releaseSession i s).supply = s.supply ∧
    (releaseSession i s).planner = s.planner ∧
    (releaseSession i s).heating = s.heating ∧
    (releaseSession i s).isolation = s.isolation ∧
    (releaseSession i s).localizer = s.localizer ∧
    (releaseSession i s).attention = s.attention ∧
    (releaseSession i s).portsStarted = s.portsStarted ∧
    (releaseSession i s).control = s.control ∧
    (releaseSession i s).billing = s.billing ∧
    (releaseSession i s).choices = s.choices ∧
    (releaseSession i s).freeCount = s.freeCount ∧
    (releaseSession i s).pending = s.pending := by
  unfold releaseSession
  (repeat' split) <;> simp

@[simp] theorem requestRelease_frame (p : Port) (slot : Byte) (serial : BitVec 16) (s : State) :
    (requestRelease p slot serial s).state.tariff = s.tariff ∧
    (requestRelease p slot serial s).state.meter = s.meter ∧
    (requestRelease p slot serial s).state.supply = s.supply ∧
    (requestRelease p slot serial s).state.planner = s.planner ∧
    (requestRelease p slot serial s).state.heating = s.heating ∧
    (requestRelease p slot serial s).state.isolation = s.isolation ∧
    (requestRelease p slot serial s).state.localizer = s.localizer ∧
    (requestRelease p slot serial s).state.attention = s.attention ∧
    (requestRelease p slot serial s).state.portsStarted = s.portsStarted ∧
    (requestRelease p slot serial s).state.control = s.control ∧
    (requestRelease p slot serial s).state.billing = s.billing ∧
    (requestRelease p slot serial s).state.choices = s.choices ∧
    (requestRelease p slot serial s).state.freeCount = s.freeCount ∧
    (requestRelease p slot serial s).state.pending = s.pending := by
  unfold requestRelease onSession
  dsimp only
  (repeat' split) <;> simp

@[simp] theorem requestPause_frame (slot : Byte) (serial : BitVec 16) (s : State) :
    (requestPause slot serial s).state.accounts = s.accounts ∧
    (requestPause slot serial s).state.tariff = s.tariff ∧
    (requestPause slot serial s).state.meter = s.meter ∧
    (requestPause slot serial s).state.supply = s.supply ∧
    (requestPause slot serial s).state.portsStarted = s.portsStarted ∧
    (requestPause slot serial s).state.control = s.control ∧
    (requestPause slot serial s).state.billing = s.billing ∧
    (requestPause slot serial s).state.choices = s.choices ∧
    (requestPause slot serial s).state.freeCount = s.freeCount ∧
    (requestPause slot serial s).state.pending = s.pending := by
  unfold requestPause onSession
  dsimp only
  (repeat' split) <;> simp

@[simp] theorem requestResume_frame (slot : Byte) (serial : BitVec 16) (s : State) :
    (requestResume slot serial s).state.accounts = s.accounts ∧
    (requestResume slot serial s).state.tariff = s.tariff ∧
    (requestResume slot serial s).state.meter = s.meter ∧
    (requestResume slot serial s).state.supply = s.supply ∧
    (requestResume slot serial s).state.portsStarted = s.portsStarted ∧
    (requestResume slot serial s).state.control = s.control ∧
    (requestResume slot serial s).state.billing = s.billing ∧
    (requestResume slot serial s).state.choices = s.choices ∧
    (requestResume slot serial s).state.freeCount = s.freeCount ∧
    (requestResume slot serial s).state.pending = s.pending := by
  unfold requestResume onSession
  dsimp only
  (repeat' split) <;> simp

@[simp] theorem requestMarkComplete_frame (slot : Byte) (serial : BitVec 16) (s : State) :
    (requestMarkComplete slot serial s).state.accounts = s.accounts ∧
    (requestMarkComplete slot serial s).state.tariff = s.tariff ∧
    (requestMarkComplete slot serial s).state.meter = s.meter ∧
    (requestMarkComplete slot serial s).state.supply = s.supply ∧
    (requestMarkComplete slot serial s).state.portsStarted = s.portsStarted ∧
    (requestMarkComplete slot serial s).state.control = s.control ∧
    (requestMarkComplete slot serial s).state.billing = s.billing ∧
    (requestMarkComplete slot serial s).state.choices = s.choices ∧
    (requestMarkComplete slot serial s).state.freeCount = s.freeCount ∧
    (requestMarkComplete slot serial s).state.pending = s.pending := by
  unfold requestMarkComplete onSession
  dsimp only
  (repeat' split) <;> simp

@[simp] theorem retarget_frame (i : Fin 8) (t : Option Nat) (s : State) :
    (retarget i t s).accounts = s.accounts ∧
    (retarget i t s).tariff = s.tariff ∧
    (retarget i t s).meter = s.meter ∧
    (retarget i t s).supply = s.supply ∧
    (retarget i t s).portsStarted = s.portsStarted ∧
    (retarget i t s).control = s.control ∧
    (retarget i t s).billing = s.billing ∧
    (retarget i t s).choices = s.choices ∧
    (retarget i t s).freeCount = s.freeCount ∧
    (retarget i t s).pending = s.pending := by
  simp [retarget]

@[simp] theorem requestSetTarget_frame (slot : Byte) (serial : BitVec 16) (target : BitVec 32) (s : State) :
    (requestSetTarget slot serial target s).state.accounts = s.accounts ∧
    (requestSetTarget slot serial target s).state.tariff = s.tariff ∧
    (requestSetTarget slot serial target s).state.meter = s.meter ∧
    (requestSetTarget slot serial target s).state.supply = s.supply ∧
    (requestSetTarget slot serial target s).state.portsStarted = s.portsStarted ∧
    (requestSetTarget slot serial target s).state.control = s.control ∧
    (requestSetTarget slot serial target s).state.billing = s.billing ∧
    (requestSetTarget slot serial target s).state.choices = s.choices ∧
    (requestSetTarget slot serial target s).state.freeCount = s.freeCount ∧
    (requestSetTarget slot serial target s).state.pending = s.pending := by
  unfold requestSetTarget onSession
  dsimp only
  (repeat' split) <;> simp

/-! ### Account requests -/

@[simp] theorem requestOpenAccount_frame (id : BitVec 32) (kind : Byte) (balance : BitVec 40) (limit : BitVec 40) (holdStep : BitVec 40) (s : State) :
    (requestOpenAccount id kind balance limit holdStep s).state.sessions = s.sessions ∧
    (requestOpenAccount id kind balance limit holdStep s).state.tariff = s.tariff ∧
    (requestOpenAccount id kind balance limit holdStep s).state.meter = s.meter ∧
    (requestOpenAccount id kind balance limit holdStep s).state.supply = s.supply ∧
    (requestOpenAccount id kind balance limit holdStep s).state.planner = s.planner ∧
    (requestOpenAccount id kind balance limit holdStep s).state.heating = s.heating ∧
    (requestOpenAccount id kind balance limit holdStep s).state.isolation = s.isolation ∧
    (requestOpenAccount id kind balance limit holdStep s).state.localizer = s.localizer ∧
    (requestOpenAccount id kind balance limit holdStep s).state.attention = s.attention ∧
    (requestOpenAccount id kind balance limit holdStep s).state.portsStarted = s.portsStarted ∧
    (requestOpenAccount id kind balance limit holdStep s).state.control = s.control ∧
    (requestOpenAccount id kind balance limit holdStep s).state.billing = s.billing ∧
    (requestOpenAccount id kind balance limit holdStep s).state.choices = s.choices ∧
    (requestOpenAccount id kind balance limit holdStep s).state.freeCount = s.freeCount ∧
    (requestOpenAccount id kind balance limit holdStep s).state.pending = s.pending := by
  unfold requestOpenAccount
  (repeat' split) <;> simp

@[simp] theorem adjustAccount_frame (a : Fin 16) (sum : Int) (s : State) :
    (adjustAccount a sum s).sessions = s.sessions ∧
    (adjustAccount a sum s).tariff = s.tariff ∧
    (adjustAccount a sum s).meter = s.meter ∧
    (adjustAccount a sum s).supply = s.supply ∧
    (adjustAccount a sum s).planner = s.planner ∧
    (adjustAccount a sum s).heating = s.heating ∧
    (adjustAccount a sum s).isolation = s.isolation ∧
    (adjustAccount a sum s).localizer = s.localizer ∧
    (adjustAccount a sum s).attention = s.attention ∧
    (adjustAccount a sum s).portsStarted = s.portsStarted ∧
    (adjustAccount a sum s).control = s.control ∧
    (adjustAccount a sum s).billing = s.billing ∧
    (adjustAccount a sum s).choices = s.choices ∧
    (adjustAccount a sum s).freeCount = s.freeCount ∧
    (adjustAccount a sum s).pending = s.pending := by
  simp [adjustAccount]

@[simp] theorem requestAdjust_frame (index : Byte) (id : BitVec 32) (amount : BitVec 40) (s : State) :
    (requestAdjust index id amount s).state.tariff = s.tariff ∧
    (requestAdjust index id amount s).state.meter = s.meter ∧
    (requestAdjust index id amount s).state.supply = s.supply ∧
    (requestAdjust index id amount s).state.portsStarted = s.portsStarted ∧
    (requestAdjust index id amount s).state.control = s.control ∧
    (requestAdjust index id amount s).state.billing = s.billing ∧
    (requestAdjust index id amount s).state.choices = s.choices ∧
    (requestAdjust index id amount s).state.freeCount = s.freeCount ∧
    (requestAdjust index id amount s).state.pending = s.pending := by
  unfold requestAdjust onAccount
  dsimp only
  (repeat' split) <;> simp

@[simp] theorem requestSetLimit_frame (index : Byte) (id : BitVec 32) (limit : BitVec 40) (s : State) :
    (requestSetLimit index id limit s).state.tariff = s.tariff ∧
    (requestSetLimit index id limit s).state.meter = s.meter ∧
    (requestSetLimit index id limit s).state.supply = s.supply ∧
    (requestSetLimit index id limit s).state.portsStarted = s.portsStarted ∧
    (requestSetLimit index id limit s).state.control = s.control ∧
    (requestSetLimit index id limit s).state.billing = s.billing ∧
    (requestSetLimit index id limit s).state.choices = s.choices ∧
    (requestSetLimit index id limit s).state.freeCount = s.freeCount ∧
    (requestSetLimit index id limit s).state.pending = s.pending := by
  unfold requestSetLimit onAccount
  dsimp only
  (repeat' split) <;> simp

@[simp] theorem requestSetStep_frame (index : Byte) (id : BitVec 32) (holdStep : BitVec 40) (s : State) :
    (requestSetStep index id holdStep s).state.sessions = s.sessions ∧
    (requestSetStep index id holdStep s).state.tariff = s.tariff ∧
    (requestSetStep index id holdStep s).state.meter = s.meter ∧
    (requestSetStep index id holdStep s).state.supply = s.supply ∧
    (requestSetStep index id holdStep s).state.planner = s.planner ∧
    (requestSetStep index id holdStep s).state.heating = s.heating ∧
    (requestSetStep index id holdStep s).state.isolation = s.isolation ∧
    (requestSetStep index id holdStep s).state.localizer = s.localizer ∧
    (requestSetStep index id holdStep s).state.attention = s.attention ∧
    (requestSetStep index id holdStep s).state.portsStarted = s.portsStarted ∧
    (requestSetStep index id holdStep s).state.control = s.control ∧
    (requestSetStep index id holdStep s).state.billing = s.billing ∧
    (requestSetStep index id holdStep s).state.choices = s.choices ∧
    (requestSetStep index id holdStep s).state.freeCount = s.freeCount ∧
    (requestSetStep index id holdStep s).state.pending = s.pending := by
  unfold requestSetStep onAccount
  (repeat' split) <;> simp

@[simp] theorem requestBlock_frame (index : Byte) (id : BitVec 32) (s : State) :
    (requestBlock index id s).state.sessions = s.sessions ∧
    (requestBlock index id s).state.tariff = s.tariff ∧
    (requestBlock index id s).state.meter = s.meter ∧
    (requestBlock index id s).state.supply = s.supply ∧
    (requestBlock index id s).state.planner = s.planner ∧
    (requestBlock index id s).state.heating = s.heating ∧
    (requestBlock index id s).state.isolation = s.isolation ∧
    (requestBlock index id s).state.localizer = s.localizer ∧
    (requestBlock index id s).state.attention = s.attention ∧
    (requestBlock index id s).state.portsStarted = s.portsStarted ∧
    (requestBlock index id s).state.control = s.control ∧
    (requestBlock index id s).state.billing = s.billing ∧
    (requestBlock index id s).state.choices = s.choices ∧
    (requestBlock index id s).state.freeCount = s.freeCount ∧
    (requestBlock index id s).state.pending = s.pending := by
  unfold requestBlock onAccount
  (repeat' split) <;> simp

@[simp] theorem requestUnblock_frame (index : Byte) (id : BitVec 32) (s : State) :
    (requestUnblock index id s).state.tariff = s.tariff ∧
    (requestUnblock index id s).state.meter = s.meter ∧
    (requestUnblock index id s).state.supply = s.supply ∧
    (requestUnblock index id s).state.portsStarted = s.portsStarted ∧
    (requestUnblock index id s).state.control = s.control ∧
    (requestUnblock index id s).state.billing = s.billing ∧
    (requestUnblock index id s).state.choices = s.choices ∧
    (requestUnblock index id s).state.freeCount = s.freeCount ∧
    (requestUnblock index id s).state.pending = s.pending := by
  unfold requestUnblock onAccount
  dsimp only
  (repeat' split) <;> simp

@[simp] theorem requestCloseAccount_frame (index : Byte) (id : BitVec 32) (s : State) :
    (requestCloseAccount index id s).state.sessions = s.sessions ∧
    (requestCloseAccount index id s).state.tariff = s.tariff ∧
    (requestCloseAccount index id s).state.meter = s.meter ∧
    (requestCloseAccount index id s).state.supply = s.supply ∧
    (requestCloseAccount index id s).state.planner = s.planner ∧
    (requestCloseAccount index id s).state.heating = s.heating ∧
    (requestCloseAccount index id s).state.isolation = s.isolation ∧
    (requestCloseAccount index id s).state.localizer = s.localizer ∧
    (requestCloseAccount index id s).state.attention = s.attention ∧
    (requestCloseAccount index id s).state.portsStarted = s.portsStarted ∧
    (requestCloseAccount index id s).state.control = s.control ∧
    (requestCloseAccount index id s).state.billing = s.billing ∧
    (requestCloseAccount index id s).state.choices = s.choices ∧
    (requestCloseAccount index id s).state.freeCount = s.freeCount ∧
    (requestCloseAccount index id s).state.pending = s.pending := by
  unfold requestCloseAccount onAccount
  dsimp only
  (repeat' split) <;> simp

@[simp] theorem requestLookAccount_frame (index : Byte) (s : State) :
    (requestLookAccount index s).state.sessions = s.sessions ∧
    (requestLookAccount index s).state.accounts = s.accounts ∧
    (requestLookAccount index s).state.tariff = s.tariff ∧
    (requestLookAccount index s).state.meter = s.meter ∧
    (requestLookAccount index s).state.supply = s.supply ∧
    (requestLookAccount index s).state.planner = s.planner ∧
    (requestLookAccount index s).state.heating = s.heating ∧
    (requestLookAccount index s).state.isolation = s.isolation ∧
    (requestLookAccount index s).state.localizer = s.localizer ∧
    (requestLookAccount index s).state.attention = s.attention ∧
    (requestLookAccount index s).state.portsStarted = s.portsStarted ∧
    (requestLookAccount index s).state.control = s.control ∧
    (requestLookAccount index s).state.billing = s.billing ∧
    (requestLookAccount index s).state.choices = s.choices ∧
    (requestLookAccount index s).state.freeCount = s.freeCount ∧
    (requestLookAccount index s).state.pending = s.pending := by
  unfold requestLookAccount
  (repeat' split) <;> simp

/-! ### Heating requests -/

@[simp] theorem requestSetAdmission_frame (count : Byte) (entries : Vector AdmissionOperand 8) (s : State) :
    (requestSetAdmission count entries s).state.sessions = s.sessions ∧
    (requestSetAdmission count entries s).state.accounts = s.accounts ∧
    (requestSetAdmission count entries s).state.tariff = s.tariff ∧
    (requestSetAdmission count entries s).state.meter = s.meter ∧
    (requestSetAdmission count entries s).state.supply = s.supply ∧
    (requestSetAdmission count entries s).state.planner = s.planner ∧
    (requestSetAdmission count entries s).state.isolation = s.isolation ∧
    (requestSetAdmission count entries s).state.localizer = s.localizer ∧
    (requestSetAdmission count entries s).state.attention = s.attention ∧
    (requestSetAdmission count entries s).state.portsStarted = s.portsStarted ∧
    (requestSetAdmission count entries s).state.control = s.control ∧
    (requestSetAdmission count entries s).state.billing = s.billing ∧
    (requestSetAdmission count entries s).state.choices = s.choices ∧
    (requestSetAdmission count entries s).state.freeCount = s.freeCount ∧
    (requestSetAdmission count entries s).state.pending = s.pending := by
  unfold requestSetAdmission
  (repeat' split) <;> simp

@[simp] theorem requestSetHeating_frame (share : Byte) (budget : BitVec 32) (preheat : BitVec 16) (s : State) :
    (requestSetHeating share budget preheat s).state.sessions = s.sessions ∧
    (requestSetHeating share budget preheat s).state.accounts = s.accounts ∧
    (requestSetHeating share budget preheat s).state.tariff = s.tariff ∧
    (requestSetHeating share budget preheat s).state.meter = s.meter ∧
    (requestSetHeating share budget preheat s).state.supply = s.supply ∧
    (requestSetHeating share budget preheat s).state.planner = s.planner ∧
    (requestSetHeating share budget preheat s).state.isolation = s.isolation ∧
    (requestSetHeating share budget preheat s).state.localizer = s.localizer ∧
    (requestSetHeating share budget preheat s).state.attention = s.attention ∧
    (requestSetHeating share budget preheat s).state.portsStarted = s.portsStarted ∧
    (requestSetHeating share budget preheat s).state.control = s.control ∧
    (requestSetHeating share budget preheat s).state.billing = s.billing ∧
    (requestSetHeating share budget preheat s).state.choices = s.choices ∧
    (requestSetHeating share budget preheat s).state.freeCount = s.freeCount ∧
    (requestSetHeating share budget preheat s).state.pending = s.pending := by
  unfold requestSetHeating
  (repeat' split) <;> simp

@[simp] theorem setZoneTo_frame (z : Fin 6) (mode : ZoneMode) (target : Int) (rated : Nat) (s : State) :
    (setZoneTo z mode target rated s).accounts = s.accounts ∧
    (setZoneTo z mode target rated s).tariff = s.tariff ∧
    (setZoneTo z mode target rated s).meter = s.meter ∧
    (setZoneTo z mode target rated s).supply = s.supply ∧
    (setZoneTo z mode target rated s).portsStarted = s.portsStarted ∧
    (setZoneTo z mode target rated s).control = s.control ∧
    (setZoneTo z mode target rated s).billing = s.billing ∧
    (setZoneTo z mode target rated s).choices = s.choices ∧
    (setZoneTo z mode target rated s).freeCount = s.freeCount ∧
    (setZoneTo z mode target rated s).pending = s.pending := by
  unfold setZoneTo
  dsimp only
  (repeat' split) <;> simp

@[simp] theorem requestSetZone_frame (zone : Byte) (mode : Byte) (target : BitVec 16) (rated : BitVec 32) (s : State) :
    (requestSetZone zone mode target rated s).state.accounts = s.accounts ∧
    (requestSetZone zone mode target rated s).state.tariff = s.tariff ∧
    (requestSetZone zone mode target rated s).state.meter = s.meter ∧
    (requestSetZone zone mode target rated s).state.supply = s.supply ∧
    (requestSetZone zone mode target rated s).state.portsStarted = s.portsStarted ∧
    (requestSetZone zone mode target rated s).state.control = s.control ∧
    (requestSetZone zone mode target rated s).state.billing = s.billing ∧
    (requestSetZone zone mode target rated s).state.choices = s.choices ∧
    (requestSetZone zone mode target rated s).state.freeCount = s.freeCount ∧
    (requestSetZone zone mode target rated s).state.pending = s.pending := by
  unfold requestSetZone
  (repeat' split) <;> simp

@[simp] theorem driveOff_frame (z : Fin 6) (s : State) :
    (driveOff z s).accounts = s.accounts ∧
    (driveOff z s).tariff = s.tariff ∧
    (driveOff z s).meter = s.meter ∧
    (driveOff z s).supply = s.supply ∧
    (driveOff z s).portsStarted = s.portsStarted ∧
    (driveOff z s).control = s.control ∧
    (driveOff z s).billing = s.billing ∧
    (driveOff z s).choices = s.choices ∧
    (driveOff z s).freeCount = s.freeCount ∧
    (driveOff z s).pending = s.pending := by
  simp [driveOff]

@[simp] theorem driveZoneTo_frame (z : Fin 6) (on : Bool) (s : State) :
    (driveZoneTo z on s).accounts = s.accounts ∧
    (driveZoneTo z on s).tariff = s.tariff ∧
    (driveZoneTo z on s).meter = s.meter ∧
    (driveZoneTo z on s).supply = s.supply ∧
    (driveZoneTo z on s).portsStarted = s.portsStarted ∧
    (driveZoneTo z on s).control = s.control ∧
    (driveZoneTo z on s).billing = s.billing ∧
    (driveZoneTo z on s).choices = s.choices ∧
    (driveZoneTo z on s).freeCount = s.freeCount ∧
    (driveZoneTo z on s).pending = s.pending := by
  unfold driveZoneTo
  (repeat' split) <;> simp

@[simp] theorem requestDriveZone_frame (zone : Byte) (drive : Byte) (s : State) :
    (requestDriveZone zone drive s).state.accounts = s.accounts ∧
    (requestDriveZone zone drive s).state.tariff = s.tariff ∧
    (requestDriveZone zone drive s).state.meter = s.meter ∧
    (requestDriveZone zone drive s).state.supply = s.supply ∧
    (requestDriveZone zone drive s).state.portsStarted = s.portsStarted ∧
    (requestDriveZone zone drive s).state.control = s.control ∧
    (requestDriveZone zone drive s).state.billing = s.billing ∧
    (requestDriveZone zone drive s).state.choices = s.choices ∧
    (requestDriveZone zone drive s).state.freeCount = s.freeCount ∧
    (requestDriveZone zone drive s).state.pending = s.pending := by
  unfold requestDriveZone
  (repeat' split) <;> simp

@[simp] theorem restoreZone_frame (z : Fin 6) (s : State) :
    (restoreZone z s).sessions = s.sessions ∧
    (restoreZone z s).accounts = s.accounts ∧
    (restoreZone z s).tariff = s.tariff ∧
    (restoreZone z s).meter = s.meter ∧
    (restoreZone z s).supply = s.supply ∧
    (restoreZone z s).planner = s.planner ∧
    (restoreZone z s).localizer = s.localizer ∧
    (restoreZone z s).portsStarted = s.portsStarted ∧
    (restoreZone z s).control = s.control ∧
    (restoreZone z s).billing = s.billing ∧
    (restoreZone z s).choices = s.choices ∧
    (restoreZone z s).freeCount = s.freeCount ∧
    (restoreZone z s).pending = s.pending := by
  simp [restoreZone]

@[simp] theorem requestRestoreZone_frame (zone : Byte) (s : State) :
    (requestRestoreZone zone s).state.sessions = s.sessions ∧
    (requestRestoreZone zone s).state.accounts = s.accounts ∧
    (requestRestoreZone zone s).state.tariff = s.tariff ∧
    (requestRestoreZone zone s).state.meter = s.meter ∧
    (requestRestoreZone zone s).state.supply = s.supply ∧
    (requestRestoreZone zone s).state.planner = s.planner ∧
    (requestRestoreZone zone s).state.localizer = s.localizer ∧
    (requestRestoreZone zone s).state.portsStarted = s.portsStarted ∧
    (requestRestoreZone zone s).state.control = s.control ∧
    (requestRestoreZone zone s).state.billing = s.billing ∧
    (requestRestoreZone zone s).state.choices = s.choices ∧
    (requestRestoreZone zone s).state.freeCount = s.freeCount ∧
    (requestRestoreZone zone s).state.pending = s.pending := by
  unfold requestRestoreZone
  (repeat' split) <;> simp

@[simp] theorem requestLookZone_frame (zone : Byte) (s : State) :
    (requestLookZone zone s).state.sessions = s.sessions ∧
    (requestLookZone zone s).state.accounts = s.accounts ∧
    (requestLookZone zone s).state.tariff = s.tariff ∧
    (requestLookZone zone s).state.meter = s.meter ∧
    (requestLookZone zone s).state.supply = s.supply ∧
    (requestLookZone zone s).state.planner = s.planner ∧
    (requestLookZone zone s).state.heating = s.heating ∧
    (requestLookZone zone s).state.isolation = s.isolation ∧
    (requestLookZone zone s).state.localizer = s.localizer ∧
    (requestLookZone zone s).state.attention = s.attention ∧
    (requestLookZone zone s).state.portsStarted = s.portsStarted ∧
    (requestLookZone zone s).state.control = s.control ∧
    (requestLookZone zone s).state.billing = s.billing ∧
    (requestLookZone zone s).state.choices = s.choices ∧
    (requestLookZone zone s).state.freeCount = s.freeCount ∧
    (requestLookZone zone s).state.pending = s.pending := by
  unfold requestLookZone
  (repeat' split) <;> simp

/-! ### Requests of the monitor, the Localizer and the Attention Unit -/

@[simp] theorem requestLookFault_frame (p : Port) (key : Byte) (s : State) :
    (requestLookFault p key s).state.sessions = s.sessions ∧
    (requestLookFault p key s).state.accounts = s.accounts ∧
    (requestLookFault p key s).state.tariff = s.tariff ∧
    (requestLookFault p key s).state.meter = s.meter ∧
    (requestLookFault p key s).state.supply = s.supply ∧
    (requestLookFault p key s).state.planner = s.planner ∧
    (requestLookFault p key s).state.heating = s.heating ∧
    (requestLookFault p key s).state.localizer = s.localizer ∧
    (requestLookFault p key s).state.attention = s.attention ∧
    (requestLookFault p key s).state.portsStarted = s.portsStarted ∧
    (requestLookFault p key s).state.control = s.control ∧
    (requestLookFault p key s).state.billing = s.billing ∧
    (requestLookFault p key s).state.choices = s.choices ∧
    (requestLookFault p key s).state.freeCount = s.freeCount ∧
    (requestLookFault p key s).state.pending = s.pending := by
  unfold requestLookFault
  (repeat' split) <;> simp

@[simp] theorem requestTestFaults_frame (m : BitVec 16) (filter : Byte) (s : State) :
    (requestTestFaults m filter s).state.sessions = s.sessions ∧
    (requestTestFaults m filter s).state.accounts = s.accounts ∧
    (requestTestFaults m filter s).state.tariff = s.tariff ∧
    (requestTestFaults m filter s).state.meter = s.meter ∧
    (requestTestFaults m filter s).state.supply = s.supply ∧
    (requestTestFaults m filter s).state.planner = s.planner ∧
    (requestTestFaults m filter s).state.heating = s.heating ∧
    (requestTestFaults m filter s).state.isolation = s.isolation ∧
    (requestTestFaults m filter s).state.localizer = s.localizer ∧
    (requestTestFaults m filter s).state.attention = s.attention ∧
    (requestTestFaults m filter s).state.portsStarted = s.portsStarted ∧
    (requestTestFaults m filter s).state.control = s.control ∧
    (requestTestFaults m filter s).state.billing = s.billing ∧
    (requestTestFaults m filter s).state.choices = s.choices ∧
    (requestTestFaults m filter s).state.freeCount = s.freeCount ∧
    (requestTestFaults m filter s).state.pending = s.pending := by
  unfold requestTestFaults
  split
  · simp
  · by_cases h : 4096 ≤ m.toNat
    · simp only [h, if_true, refuse_state, and_self]
    · simp only [h, if_false, accept_state, and_self]

@[simp] theorem retireFault_frame (k : Fin 12) (s : State) :
    (retireFault k s).accounts = s.accounts ∧
    (retireFault k s).tariff = s.tariff ∧
    (retireFault k s).meter = s.meter ∧
    (retireFault k s).supply = s.supply ∧
    (retireFault k s).portsStarted = s.portsStarted ∧
    (retireFault k s).control = s.control ∧
    (retireFault k s).billing = s.billing ∧
    (retireFault k s).choices = s.choices ∧
    (retireFault k s).freeCount = s.freeCount ∧
    (retireFault k s).pending = s.pending := by
  unfold retireFault
  (repeat' split) <;> simp

@[simp] theorem requestRetireFault_frame (key : Byte) (s : State) :
    (requestRetireFault key s).state.accounts = s.accounts ∧
    (requestRetireFault key s).state.tariff = s.tariff ∧
    (requestRetireFault key s).state.meter = s.meter ∧
    (requestRetireFault key s).state.supply = s.supply ∧
    (requestRetireFault key s).state.portsStarted = s.portsStarted ∧
    (requestRetireFault key s).state.control = s.control ∧
    (requestRetireFault key s).state.billing = s.billing ∧
    (requestRetireFault key s).state.choices = s.choices ∧
    (requestRetireFault key s).state.freeCount = s.freeCount ∧
    (requestRetireFault key s).state.pending = s.pending := by
  unfold requestRetireFault
  (repeat' split) <;> simp

@[simp] theorem requestSetIsolation_frame (warning : Byte) (trip : Byte) (persistence : Byte) (autoLocalize : Byte) (dwell : Byte) (s : State) :
    (requestSetIsolation warning trip persistence autoLocalize dwell s).state.sessions = s.sessions ∧
    (requestSetIsolation warning trip persistence autoLocalize dwell s).state.accounts = s.accounts ∧
    (requestSetIsolation warning trip persistence autoLocalize dwell s).state.tariff = s.tariff ∧
    (requestSetIsolation warning trip persistence autoLocalize dwell s).state.meter = s.meter ∧
    (requestSetIsolation warning trip persistence autoLocalize dwell s).state.supply = s.supply ∧
    (requestSetIsolation warning trip persistence autoLocalize dwell s).state.planner = s.planner ∧
    (requestSetIsolation warning trip persistence autoLocalize dwell s).state.heating = s.heating ∧
    (requestSetIsolation warning trip persistence autoLocalize dwell s).state.localizer = s.localizer ∧
    (requestSetIsolation warning trip persistence autoLocalize dwell s).state.attention = s.attention ∧
    (requestSetIsolation warning trip persistence autoLocalize dwell s).state.portsStarted = s.portsStarted ∧
    (requestSetIsolation warning trip persistence autoLocalize dwell s).state.control = s.control ∧
    (requestSetIsolation warning trip persistence autoLocalize dwell s).state.billing = s.billing ∧
    (requestSetIsolation warning trip persistence autoLocalize dwell s).state.choices = s.choices ∧
    (requestSetIsolation warning trip persistence autoLocalize dwell s).state.freeCount = s.freeCount ∧
    (requestSetIsolation warning trip persistence autoLocalize dwell s).state.pending = s.pending := by
  unfold requestSetIsolation
  (repeat' split) <;> simp

@[simp] theorem requestLocalize_frame (key : Byte) (s : State) :
    (requestLocalize key s).state.accounts = s.accounts ∧
    (requestLocalize key s).state.tariff = s.tariff ∧
    (requestLocalize key s).state.meter = s.meter ∧
    (requestLocalize key s).state.supply = s.supply ∧
    (requestLocalize key s).state.portsStarted = s.portsStarted ∧
    (requestLocalize key s).state.control = s.control ∧
    (requestLocalize key s).state.billing = s.billing ∧
    (requestLocalize key s).state.choices = s.choices ∧
    (requestLocalize key s).state.freeCount = s.freeCount ∧
    (requestLocalize key s).state.pending = s.pending := by
  unfold requestLocalize
  (repeat' split) <;> simp

@[simp] theorem requestCancelLocalize_frame (s : State) :
    (requestCancelLocalize s).state.accounts = s.accounts ∧
    (requestCancelLocalize s).state.tariff = s.tariff ∧
    (requestCancelLocalize s).state.meter = s.meter ∧
    (requestCancelLocalize s).state.supply = s.supply ∧
    (requestCancelLocalize s).state.portsStarted = s.portsStarted ∧
    (requestCancelLocalize s).state.control = s.control ∧
    (requestCancelLocalize s).state.billing = s.billing ∧
    (requestCancelLocalize s).state.choices = s.choices ∧
    (requestCancelLocalize s).state.freeCount = s.freeCount ∧
    (requestCancelLocalize s).state.pending = s.pending := by
  simp [requestCancelLocalize]

@[simp] theorem requestSetAttention_frame (p : Port) (m : BitVec 16) (s : State) :
    (requestSetAttention p m s).state.sessions = s.sessions ∧
    (requestSetAttention p m s).state.accounts = s.accounts ∧
    (requestSetAttention p m s).state.tariff = s.tariff ∧
    (requestSetAttention p m s).state.meter = s.meter ∧
    (requestSetAttention p m s).state.supply = s.supply ∧
    (requestSetAttention p m s).state.planner = s.planner ∧
    (requestSetAttention p m s).state.heating = s.heating ∧
    (requestSetAttention p m s).state.isolation = s.isolation ∧
    (requestSetAttention p m s).state.localizer = s.localizer ∧
    (requestSetAttention p m s).state.portsStarted = s.portsStarted ∧
    (requestSetAttention p m s).state.control = s.control ∧
    (requestSetAttention p m s).state.billing = s.billing ∧
    (requestSetAttention p m s).state.choices = s.choices ∧
    (requestSetAttention p m s).state.freeCount = s.freeCount ∧
    (requestSetAttention p m s).state.pending = s.pending := by
  unfold requestSetAttention
  (repeat' split) <;> simp

@[simp] theorem requestReadAttention_frame (p : Port) (s : State) :
    (requestReadAttention p s).state.sessions = s.sessions ∧
    (requestReadAttention p s).state.accounts = s.accounts ∧
    (requestReadAttention p s).state.tariff = s.tariff ∧
    (requestReadAttention p s).state.meter = s.meter ∧
    (requestReadAttention p s).state.supply = s.supply ∧
    (requestReadAttention p s).state.planner = s.planner ∧
    (requestReadAttention p s).state.heating = s.heating ∧
    (requestReadAttention p s).state.isolation = s.isolation ∧
    (requestReadAttention p s).state.localizer = s.localizer ∧
    (requestReadAttention p s).state.attention = s.attention ∧
    (requestReadAttention p s).state.portsStarted = s.portsStarted ∧
    (requestReadAttention p s).state.control = s.control ∧
    (requestReadAttention p s).state.billing = s.billing ∧
    (requestReadAttention p s).state.choices = s.choices ∧
    (requestReadAttention p s).state.freeCount = s.freeCount ∧
    (requestReadAttention p s).state.pending = s.pending := by
  simp [requestReadAttention]

@[simp] theorem requestClearAttention_frame (p : Port) (m : BitVec 16) (s : State) :
    (requestClearAttention p m s).state.sessions = s.sessions ∧
    (requestClearAttention p m s).state.accounts = s.accounts ∧
    (requestClearAttention p m s).state.tariff = s.tariff ∧
    (requestClearAttention p m s).state.meter = s.meter ∧
    (requestClearAttention p m s).state.supply = s.supply ∧
    (requestClearAttention p m s).state.planner = s.planner ∧
    (requestClearAttention p m s).state.heating = s.heating ∧
    (requestClearAttention p m s).state.isolation = s.isolation ∧
    (requestClearAttention p m s).state.localizer = s.localizer ∧
    (requestClearAttention p m s).state.portsStarted = s.portsStarted ∧
    (requestClearAttention p m s).state.control = s.control ∧
    (requestClearAttention p m s).state.billing = s.billing ∧
    (requestClearAttention p m s).state.choices = s.choices ∧
    (requestClearAttention p m s).state.freeCount = s.freeCount ∧
    (requestClearAttention p m s).state.pending = s.pending := by
  unfold requestClearAttention
  (repeat' split) <;> simp

@[simp] theorem requestWarmReset_frame (s : State) :
    (requestWarmReset s).state.portsStarted = s.portsStarted ∧
    (requestWarmReset s).state.choices = s.choices ∧
    (requestWarmReset s).state.freeCount = s.freeCount ∧
    (requestWarmReset s).state.pending = s.pending := by
  simp [requestWarmReset]

end Sys2Proof.Machine
end

