-- ==== Sys2Proof/WellFormed.lean ====
section
/-! DEFINITION. Which commands can reach the part at all. A request's fields are as wide as its frame, so every
request is well formed; the checks are about what a pin or a transaction can bring. -/

namespace Sys2Proof

/-- No more than the overflow timer's 3,000 µs lie between an edge and the edge or overflow before it: a longer
silence is a capture overflow, not an edge (R93, R94). -/
def edgeInTime (elapsed : Nat) : Bool := elapsed ≤ Config.overflowPeriod

/-- A transaction that begins with the fetch code 0x00 is a fetch, not a request (section 11.2). -/
def notFetch : List Byte → Bool
  | b :: _ => b != 0
  | [] => true

/-- The command can reach the part: edges in time (R94), request transactions that are not fetches, and fetches
that clock in at least the fetch code (section 11.2). -/
def Instr.wellFormed : Instr → Bool
  | .risingEdge elapsed _ => edgeInTime elapsed
  | .fallingEdge elapsed _ => edgeInTime elapsed
  | .cpRequestTransaction bytes => notFetch bytes
  | .cpFetchTransaction clocked => 1 ≤ clocked
  | _ => true

end Sys2Proof
end

