-- ==== Sys2Proof/Tests/Slice0.lean ====
section
/-! SUPPORT. The model's own tests: one small step or two for each command, the checks of well-formedness, and for the
statements with hypotheses states that meet them. -/

namespace Sys2Proof.Tests

open Sys2Proof.Machine

/-! ### Small states -/

/-- What a command leaves, read by `f`; nothing where it stops. -/
def after {α : Type} (c : Instr) (s : State) (f : State → α) : Option α :=
  match exec c s with
  | .next t => some (f t)
  | .fault _ => none
  | .refused _ => none

/-- The response that a request on the Control Port leaves in the buffer: result and data. -/
def reply (c : Instr) (s : State) : Option (ResultCode × List Byte) :=
  (after c s fun t => t.control.buffer.map fun r => (r.result, r.data)).join

/-- The first `n` bytes of the response that a request on the Billing Port sends, without its check byte. -/
def sent (n : Nat) (c : Instr) (s : State) : Option (List Byte) :=
  (after c s fun t => t.billing.sending.map fun bs => bs.take n).join

/-- The ports have started. -/
def started : State := { State.reset with portsStarted := true }

/-- A chain of two bands, sealed or open. -/
def chained (st : ChainState) : State :=
  ((started.setBand 0 ⟨.used, 0, 0, 30, 20, 7, some 3600, 1⟩).setBand 1 ⟨.used, 0, 600, 40, 25, 9, none, 0⟩).setChain 0
    ⟨if st = .sealed then some 7 else none, st, some 0, 2, 0⟩

/-- Two accounts, a sealed chain and a set calendar. -/
def base : State :=
  (((chained .sealed).setTariff { (chained .sealed).tariff with
    calendar := some 599, minuteTimer := some 60000000 }).setAccount 0
    ⟨.opened, 17, some .prepaid, 1000000, none, 0, 1000, 0⟩).setAccount 1 ⟨.opened, 34, some .creditLine, 0, some 5000, 0, 500, 0⟩

/-- The record of slot 0 in a state, with both accounts. -/
def record (st : SessionState) : Session :=
  { Session.free with
    serial := 1, state := st, chargeAccount := 0, heatAccount := some 1, authorizedMinute := 599
    queuedMinutes := if st = .authorized then some 0 else none
    currentBand := if st.accrues then some 0 else none
    chargeHold := if st = .closed then 0 else 1000, heatHold := some (if st = .closed then 0 else 500) }

/-- Slot 0 holds a session in a state, on an offering supply. -/
def holding (st : SessionState) : State :=
  { ((base.setAccount 0 ⟨.opened, 17, some .prepaid, 1000000, none, if st = .closed then 0 else 1000, 1000, 1⟩).setAccount
      1 ⟨.opened, 34, some .creditLine, 0, some 5000, if st = .closed then 0 else 500, 500, 1⟩).setChain 0
      ⟨some 7, .sealed, some 0, 2, if st = .closed then 0 else 1⟩ with
    sessions :=
      { (base.setSession 0 (record st)).sessions with queue := if st = .authorized then [0] else [], nextSerial := 2 }
    supply := { base.supply with state := .offering, level := .connected, offered := some 320 } }

/-- The words 0 to 13 of a meter frame. -/
def frameWords : List Word := [1, 4000, 100, 7000, 0, 500, 500, 40, 40, 40, 40, 40, 40, 25]

/-! ### Well-formedness: one ill-formed command for each check -/

theorem test_lateEdge : (Instr.risingEdge 3001 0).wellFormed = false ∧ (Instr.risingEdge 3000 0).wellFormed = true := by decide
theorem test_lateFallingEdge : (Instr.fallingEdge 3001 0).wellFormed = false := by decide
theorem test_fetchCodeInRequest : (Instr.cpRequestTransaction [0, 1]).wellFormed = false ∧
    (Instr.cpRequestTransaction [1]).wellFormed = true := by decide
theorem test_fetchOfNothing : (Instr.cpFetchTransaction 0).wellFormed = false ∧
    (Instr.cpFetchTransaction 1).wellFormed = true := by decide

/-! ### Frames, written out from section 11.1 -/

theorem test_frameOfStop : parseFrame [3, 3, 2, 1, 0, 247] = some (.stop 2 256) := by decide
theorem test_frameOfLookCalendar : parseFrame [38, 0, 218] = some .lookCalendar := by decide
theorem test_frameOfOptional : parseFrame [1, 8, 2, 3, 9, 1, 0, 0, 1, 0, 231] = some (.authorize 3 none 1 (some 256)) := by
  decide
theorem test_frameOfZone : parseFrame [48, 8, 5, 1, 0xFF, 0xF6, 0, 0, 3, 232, 226] = some (.setZone 5 1 0xFFF6 1000) := by
  decide
theorem test_frameBadSum : parseFrame [38, 0, 217] = none ∧ parseFrame [38, 1, 0, 217] = none ∧
    parseFrame [11, 0, 245] = none := by decide

/-! ### Sessions -/

theorem test_authorize : sent 7 (.authorize .bp 0 (some 1) 0 none) base = some [0, 1, 4, 0, 0, 1, 1] := by decide
theorem test_authorizeHolds : after (.authorize .bp 0 (some 1) 0 none) base (fun t =>
    ((t.account 0).held, (t.account 1).held, (t.chain 0).lockCount, t.sessions.queue, t.sessions.nextSerial)) =
    some (1000, 500, 1, [0], 2) := by decide
theorem test_cancel : after (.cancel .cp 0 1) (holding .authorized) (fun t =>
    ((t.session 0).state, (t.account 0).held, (t.chain 0).lockCount, t.attention.pendingBp)) =
    some (.free, 0, 0, 16) := by decide
theorem test_stop : after (.stop .bp 0 1) (holding .active) (fun t =>
    ((t.session 0).state, (t.session 0).closeReason)) = some (.closing, some .stoppedBilling) := by decide
theorem test_lookSession : (reply (.lookSession .cp 7) started).map (fun r => (r.1, r.2.length)) = some (.ok, 77) := by decide
theorem test_collect : after (.collect .bp 0 1) (holding .closed) (fun t => (t.session 0).collectedBy) = some (some .bp) := by
  decide
theorem test_release : reply (.release .cp 0 1) (holding .closed) = some (.wrongState, []) := by decide
theorem test_pause : reply (.pause .cp 0 1) (holding .active) = some (.ok, [3, 1]) := by decide
theorem test_resume : reply (.resume .cp 0 1) (holding .active) = some (.ok, [2, 0]) := by decide
theorem test_markComplete : after (.markComplete .cp 0 1) (holding .active) (fun t => (t.session 0).state) =
    some .complete := by decide
theorem test_setTarget : after (.setTarget .cp 0 1 500) (holding .active) (fun t =>
    ((t.session 0).state, (t.session 0).energyTarget)) = some (.active, some 500) := by decide

/-! ### Accounts -/

theorem test_openAccount : sent 14 (.openAccount .bp 99 0 5000 0 1) base =
    some [0, 16, 6, 2, 0, 0, 0, 0x13, 0x88, 77] ∧
    after (.openAccount .bp 99 0 5000 0 1) base (fun t => t.account 2) =
      some ⟨.opened, 99, some .prepaid, 5000, none, 0, 1, 0⟩ := by decide
theorem test_adjust : sent 14 (.adjust .bp 0 17 (-1000000)) base =
    some [0, 17, 11, 0, 0, 0, 0, 0, 0, 0, 0, 0, 0, 1] := by decide
theorem test_adjustStale : sent 3 (.adjust .bp 0 18 1) base = some [8, 17, 0] := by decide
theorem test_setLimit : after (.setLimit .bp 1 34 9000) base (fun t => (t.account 1).limit) = some (some 9000) := by decide
theorem test_setStep : after (.setStep .bp 0 17 2000000000) base (fun t => (t.account 0).holdStep) = some 2000000000 := by
  decide
theorem test_staleBeforeLimit : sent 3 (.setLimit .bp 1 35 (-1)) base = some [8, 18, 0] ∧
    sent 3 (.setLimit .bp 1 34 (-1)) base = some [3, 18, 0] ∧ sent 3 (.setStep .bp 0 18 0) base = some [8, 19, 0] ∧
    sent 3 (.setStep .bp 0 17 0) base = some [3, 19, 0] := by decide
theorem test_block : after (.block .bp 0 17) base (fun t => (t.account 0).state) = some .blocked := by decide
theorem test_unblock : after (.unblock .bp 0 17) base (fun t => (t.account 0).state) = some .opened := by decide
theorem test_closeAccount : sent 8 (.closeAccount .bp 0 17) base = some [0, 22, 5, 0, 0, 0x0F, 0x42, 0x40] := by decide
theorem test_lookAccount : (reply (.lookAccount .cp 1) base).map (fun r => r.2.take 8) =
    some [1, 1, 1, 0, 0, 0, 34, 1] := by decide

/-! ### Tariffs and the calendar -/

theorem test_writeBand : after (.writeBand .bp 2 1 60 1 2 3 none 2) base (fun t => (t.band 2, (t.chain 1).head)) =
    some (⟨.used, 1, 60, 1, 2, 3, none, 2⟩, some 2) := by decide
theorem test_freeBand : after (.freeBand .bp 0) (chained .opened) (fun t => (t.chain 0, (t.band 0).state)) =
    some (⟨none, .opened, some 1, 1, 0⟩, .free) := by decide
theorem test_sealChain : after (.sealChain .bp 0 7) (chained .opened) (fun t => t.chain 0) =
    some ⟨some 7, .sealed, some 0, 2, 0⟩ := by decide
theorem test_unsealChain : after (.unsealChain .bp 0 7) base (fun t => t.chain 0) = some ⟨none, .opened, some 0, 2, 0⟩ := by
  decide
theorem test_lookBand : reply (.lookBand .cp 0) base =
    some (.ok, [1, 0, 1, 0, 0, 0, 0, 30, 0, 20, 0, 7, 0, 0, 0x0E, 0x10, 1]) := by decide
theorem test_lookChain : (reply (.lookChain .cp 0) base).map (fun r => r.2.take 12) =
    some [3, 2, 0, 0, 0, 7, 0, 2, 0, 2, 0, 1] := by decide
theorem test_lookCalendar : reply (.lookCalendar .cp) base = some (.ok, [3, 2, 87, 0, 0, 0, 120]) := by decide
theorem test_setCalendar : after (.setCalendar .cp 10079) started (fun t => (t.tariff.calendar, t.tariff.minuteTimer)) =
    some (some 10079, some 60000000) := by decide
theorem test_setLifetime : reply (.setLifetime .cp 1441) base = some (.badValue, []) := by decide
set_option maxRecDepth 4000 in
theorem test_minuteEvent : after .minuteEvent (holding .complete) (fun t =>
    (t.tariff.calendar, (t.session 0).currentBand, (t.session 0).chargeCost)) = some (some 600, some 1, 7) := by decide

/-! ### Heating and the plan -/

/-- Zone 2 in a mode, rated and with a demand. -/
def zoned (m : ZoneMode) (drive : Bool) : State := started.setZone 2 ⟨m, drive, 20, 1000, some 0, 0, 16, 0, false, false, false⟩

theorem test_setZone : after (.setZone .cp 2 1 20 1000) started (fun t => t.zone 2) =
    some ⟨.auto, false, 20, 1000, none, 0, 0, 0, false, false, false⟩ := by decide
theorem test_driveZone : reply (.driveZone .cp 2 1) (zoned .direct false) = some (.ok, [2, 1, 0, 0]) := by decide
theorem test_restoreZone : reply (.restoreZone .cp 2) (zoned .auto false) = some (.wrongState, []) := by decide
theorem test_setAdmission : after (.setAdmission .cp 1 (Vector.replicate 8 ⟨0, 500⟩)) started (fun t => t.heating.admission) =
    some [⟨0, 500⟩] := by decide
theorem test_setHeating : reply (.setHeating .cp 100 20000 0xFFFE) started =
    some (.ok, [100, 0, 0, 0x4E, 0x20, 0xFF, 0xFE]) := by decide
theorem test_lookZone : (reply (.lookZone .cp 2) (zoned .auto false)).map (fun r => r.2.take 11) =
    some [1, 2, 1, 0, 0, 20, 0, 0, 3, 232, 0] := by decide
set_option maxRecDepth 8000 in
theorem test_lookPlan : (reply (.lookPlan .cp) started).map (fun r => (r.1, r.2.length)) = some (.ok, 237) := by decide

/-! ### Isolation and localization -/

/-- The ISO_WARN record of the positive rail in a state, seen by the Control Port. -/
def warned (st : FaultState) : State :=
  started.setFault 0 ⟨st, 1, some 5, some 200, some 190, none, 1, some 1, none⟩

theorem test_setIsolation : after (.setIsolation .cp 7 6 16 0 64) started (fun t => t.isolation.settings) =
    some ⟨7, 6, 16, false, 64⟩ := by decide
theorem test_retireFault : after (.retireFault .cp 0) (warned .cleared) (fun t => t.fault 0) =
    some ⟨.free, 0, none, none, none, none, 2, none, none⟩ := by decide
theorem test_lookFault : reply (.lookFault .cp 0) (warned .active) =
    some (.ok, [0, 1, 1, 1, 0x17, 0, 5, 0, 200, 0, 190, 0, 1, 0]) := by decide
theorem test_testFaults : reply (.testFaults .cp 0xFFF 1) (warned .cleared) = some (.ok, [0, 1, 1]) ∧
    reply (.testFaults .cp 0xFFF 0) (warned .cleared) = some (.ok, [0, 0, 0]) := by decide
theorem test_localize : after (.localize .cp 0) (warned .active) (fun t => (t.localizer.lastOutcome, (t.fault 0).verdict)) =
    some (some (.pos, .packSide), some .packSide) := by decide
theorem test_cancelLocalize : after (.cancelLocalize .cp) started (fun t => t.localizer) = some started.localizer := by decide

/-! ### Supply and meter link -/

/-- The overflow of a line at 9.0 V, taken four times. -/
theorem test_captureOverflow : after (.captureOverflow 90) { started with
      supply := { started.supply with candidate := some .connected, classCount := 3 } } (fun t =>
    (t.supply.state, t.supply.level, t.attention.pendingCp)) = some (.plugged, .connected, 1) := by decide
theorem test_risingEdge : after (.risingEdge 7 0xFF88) started (fun t => (t.supply.capture, t.supply.overflow)) =
    some (.timing 0 none, 3000) := by decide
theorem test_risingEdgeTakesAPeriod : after (.risingEdge 500 0xFF88) { started with
      supply := { started.supply with capture := .timing 500 (some (420, 90)) } } (fun t => (t.supply.run, t.supply.last)) =
    some ([320], some (.period 1000 420 420 (.offer 320) .connected)) := by decide
theorem test_fallingEdge : after (.fallingEdge 420 90) { started with
      supply := { started.supply with capture := .timing 0 none } } (fun t => t.supply.capture) =
    some (.timing 420 (some (420, 90))) := by decide
theorem test_lookSupply : (reply (.lookSupply .cp) (holding .active)).map (fun r => r.2.take 5) =
    some [1, 2, 1, 1, 64] := by decide
theorem test_lookMeter : (reply (.lookMeter .cp) started).map (fun r => r.2.take 4) = some [0, 0, 0, 0] := by decide
theorem test_frameSync : after .frameSync started (fun t => t.meter.assembly) = some (some []) := by decide

/-- The assembly of a state is the fourteen words. -/
def framed (s : State) : State := { s with meter := { s.meter with assembly := some frameWords } }

/-- The check word of the fourteen. -/
def checkWord : Word := - frameWords.foldl (· + ·) 0

theorem test_dataWord : after (.dataWord 7) { started with meter := { started.meter with assembly := some [1] } }
    (fun t => t.meter.assembly) = some (some [1, 7]) := by decide
theorem test_dataWordAccepted : after (.dataWord checkWord) (framed (holding .active)) (fun t =>
    (t.meter.state, t.meter.goodCount, (t.session 0).supplyEnergy)) = some (.recovering, 1, ⟨0, 400000⟩) := by decide
theorem test_overdueExpiry : after .overdueExpiry { started with meter := { started.meter with state := .holding, heldCount := 4 } }
    (fun t => (t.meter.state, t.meter.lost, t.planner.state)) = some (.lost, some 10000000, .halted) := by decide
theorem test_lostTimerExpiry : after .lostTimerExpiry { holding .active with
      meter := { started.meter with state := .lost, heldCount := 5, lost := some 20 } } (fun t =>
    ((t.session 0).state, (t.session 0).closeReason)) = some (.closed, some .meterLost) := by decide

/-! ### Attention, ports and resets -/

theorem test_setAttention : reply (.setAttention .cp 0x3FF) started = some (.ok, [0, 0, 3, 255, 0]) := by decide
theorem test_readAttention : reply (.readAttention .cp) (post .plug started) = some (.ok, [0, 1, 0, 0, 0]) := by decide
theorem test_clearAttention : reply (.clearAttention .cp 1) (post .meterState (post .plug started)) =
    some (.ok, [2, 0, 0, 0, 0]) := by decide
theorem test_warmReset : after (.warmReset .cp) (holding .active) (fun t =>
    ((t.session 0).state, (t.session 0).closeReason, t.supply.state)) = some (.closed, some .reset, .unplugged) := by decide
theorem test_warmResetDenied : sent 3 (.warmReset .bp) started = some [1, 120, 0] := by decide
theorem test_resetAssertion : after .resetAssertion (zoned .direct true) (fun t => ((t.zone 2).mode, (t.zone 2).rated)) =
    some (.off, 1000) := by decide
theorem test_powerOn : after .powerOn (holding .active) (fun t => t) = some State.reset := by decide
theorem test_portStartComplete : after .portStartComplete State.reset (fun t => t) = some started := by decide
theorem test_cpRequestTransaction : after (.cpRequestTransaction [38, 0, 218]) started (fun t => t.control.buffer) =
    some (some ⟨.ok, 38, [0, 0, 0, 0, 0, 0, 120]⟩) := by decide
theorem test_cpFetchTransaction : after (.cpFetchTransaction 3) started (fun t => t.control.shifted) =
    some [0xFF, 0xFE, 0xFF] := by decide
theorem test_bpByteReceived : after (.bpByteReceived 61) { started with
      billing := { started.billing with assembly := some [4] } } (fun t => (t.billing.ignoring, t.billing.sending)) =
    some (true, some [2, 4, 0, 250]) := by decide
theorem test_bpFramingError : after .bpFramingError started (fun t => t) = some started := by decide
theorem test_bpGapTimeout : after .bpGapTimeout { started with billing := { started.billing with assembly := some [4] } }
    (fun t => t) = some started := by decide
theorem test_bpTransmissionEnd : after .bpTransmissionEnd { started with
      billing := { started.billing with sending := some [128], overrun := true } } (fun t => t) = some started := by decide

/-! ### Witnesses: states and operands that meet the hypotheses of the statements, clause by clause -/

theorem ready_started (p : Port) : Ready p started := by cases p <;> [exact ⟨rfl, rfl⟩; exact ⟨rfl, rfl, rfl, rfl⟩]
theorem ready_base (p : Port) : Ready p base := by cases p <;> [exact ⟨rfl, rfl⟩; exact ⟨rfl, rfl, rfl, rfl⟩]
theorem ready_holding (p : Port) (st : SessionState) : Ready p (holding st) := by
  cases p <;> [exact ⟨rfl, rfl⟩; exact ⟨rfl, rfl, rfl, rfl⟩]
theorem names_holding (st : SessionState) (h : st ≠ .free) : NamesSession (holding st) 0 1 0 := by
  cases st <;> first | exact absurd rfl h | exact ⟨rfl, by decide, by decide, rfl⟩
theorem names_base : NamesAccount base 0 17 0 ∧ NamesAccount base 1 34 1 :=
  ⟨⟨rfl, by decide, by decide, rfl⟩, rfl, by decide, by decide, rfl⟩

/-- ReadyPortAnswersEveryRequest: a permitted request, one that is not answered OK, and one answered BAD_CHAIN. -/
theorem witness_readyPort : Ready .cp started ∧ Ready .bp started ∧ permitted .cp .lookPlan = true ∧
    (answer .bp (.freeBand 32) started).result = .badValue ∧
    (answer .bp (.sealChain 0 7) ((chained .opened).setBand 0 ⟨.used, 0, 0, 0, 0, 0, none, 0⟩)).result = .badChain :=
  ⟨ready_started _, ready_started _, by decide⟩

/-- PermissionTable: a request refused at each port. -/
theorem witness_permission : permitted .cp (.freeBand 0) = false ∧ permitted .bp .warmReset = false ∧
    Ready .cp started ∧ Ready .bp started := ⟨by decide, by decide, ready_started _, ready_started _⟩

/-- ControlPortTransactions: a held response, a malformed frame and a request on an empty buffer, and a fetch of one byte. -/
theorem witness_controlPort : started.portsStarted = true ∧ started.control.buffer = none ∧ parseFrame [0xFF] = none ∧
    ([0xFF] : List Byte).head? ≠ some 0 ∧ (parseFrame [38, 0, 218]).isSome = true ∧
    (placeResponse ⟨.ok, 50, []⟩ started).control.buffer.isSome = true := by decide

/-- BillingPortAssembly: first and second byte, lengths 60 and 61, a frame one byte short and complete. -/
theorem witness_billingAssembly : started.portsStarted = true ∧ started.billing.ignoring = false ∧
    (takeByte started 4).billing.assembly = some [4] ∧ (60#8).toNat ≤ 60 ∧ 60 < (61#8).toNat ∧
    ([38, 1, 0] : List Byte).length < (([38, 1, 0] : List Byte).getD 1 0).toNat + 3 ∧
    (([38, 0, 218] : List Byte).getD 1 0).toNat + 3 ≤ ([38, 0, 218] : List Byte).length ∧
    (takeGap (discardFrame [4] started)).billing.ignoring = false ∧ (discardFrame [4] started).billing.ignoring = true := by
  decide

/-- BillingPortListAndTransmission: nothing going out; a response going out with three and with four frames waiting. -/
theorem witness_billingList : started.billing.sending = none ∧
    (∃ s : State, s.billing.sending = some [0] ∧ s.billing.waiting.length = 3) ∧
    (∃ s : State, s.billing.sending = some [128] ∧ s.billing.waiting.length = 4) :=
  ⟨rfl, ⟨started.setBilling ⟨none, false, List.replicate 3 (.malformed 0), some [0], false⟩, rfl, rfl⟩,
    started.setBilling ⟨none, false, List.replicate 4 (.malformed 0), some [128], true⟩, rfl, rfl⟩

/-- AuthorizeFillsTheLowestFreeSlot: with and without a heat account, targets 1 and 1,000,000. -/
theorem witness_authorize : Ready .bp base ∧ base.tariff.calendar = some 599 ∧ (base.chain 0).state = .sealed ∧
    (base.account 0).state = .opened ∧ (base.account 1).state = .opened ∧ (base.session 0).state = .free ∧
    (∀ j : Fin 8, j < 0 → (base.session j).state ≠ .free) ∧ covers (base.account 0) (base.account 0).holdStep = true ∧
    covers (base.account 1) (base.account 1).holdStep = true ∧ (1#32).toNat = 1 ∧ (1000000#32).toNat ≤ 1000000 ∧
    base.supply.state = .unplugged ∧ (∀ j : Fin 8, (base.session j).state.accrues = false) :=
  ⟨ready_base _, by decide⟩

/-- AuthorizeRefusals: each bad field at its bound, and each branch of the chain of refusals. -/
theorem witness_authorizeRefusals : Ready .bp base ∧ Ready .bp started ∧ 16 ≤ (16#8).toNat ∧ 4 ≤ (4#8).toNat ∧
    1000000 < (1000001#32).toNat ∧ started.tariff.calendar = none ∧ (base.chain 1).state ≠ .sealed ∧
    (base.account 2).state = .free ∧
    ((base.setAccount 0 { base.account 0 with state := .blocked }).account 0).state = .blocked ∧
    covers ({ base.account 0 with balance := 999 }) (base.account 0).holdStep = false ∧
    (∀ i : Fin 8, (State.session { base with sessions := ⟨Vector.replicate 8 (record .closed), [], 1⟩ } i).state ≠ .free) :=
  ⟨ready_base _, ready_started _, by decide⟩

/-- GoingLive: an empty queue, and one with a session and a calendar. -/
theorem witness_goingLive : base.sessions.queue = [] ∧ (holding .authorized).sessions.queue = [0] ∧
    (holding .authorized).tariff.calendar = some 599 := by decide

/-- RecordNamingRefusals: slot 8, serial 0, a FREE record, another serial; index 16, id 0, a FREE account, another id. -/
theorem witness_recordNaming : Ready .cp (holding .active) ∧ Ready .bp (holding .active) ∧
    permitted .cp (.pause 8 1) = true ∧ permitted .bp (.collect 0 2) = true ∧ 8 ≤ (8#8).toNat ∧
    ((holding .active).session 1).state = .free ∧ ((holding .active).session 0).serial ≠ (2#16).toNat ∧
    (1000000#32).toNat ≤ 1000000 ∧ 16 ≤ (16#8).toNat ∧ ((holding .active).account 2).state = .free ∧
    ((holding .active).account 0).id ≠ (18#32).toNat ∧ 0 ≤ (0#40).toInt ∧ 1 ≤ (1#40).toInt ∧
    (2000000000#40).toInt ≤ 2000000000 := ⟨ready_holding _ _, ready_holding _ _, by decide⟩

/-- CancelVoidsAnAuthorizedSession, StopMovesALiveSessionToClosing, MarkCompleteAndSetTarget: a session named in each state. -/
theorem witness_namedSessions : (∀ p, Ready p (holding .authorized) ∧ Ready p (holding .complete)) ∧
    NamesSession (holding .authorized) 0 1 0 ∧ NamesSession (holding .complete) 0 1 0 ∧
    NamesSession (holding .active) 0 1 0 ∧ NamesSession (holding .paused) 0 1 0 ∧
    NamesSession (holding .closing) 0 1 0 ∧ NamesSession (holding .closed) 0 1 0 ∧
    (∀ st, ((holding st).session 0).state = st) ∧ 1000000 < (1000001#32).toNat ∧ (1000000#32).toNat ≤ 1000000 :=
  ⟨fun p => ⟨ready_holding p _, ready_holding p _⟩, names_holding _ (by decide), names_holding _ (by decide),
    names_holding _ (by decide), names_holding _ (by decide), names_holding _ (by decide), names_holding _ (by decide),
    fun st => by cases st <;> rfl, by decide⟩

/-- The planner runs slot `k` of a cycle on a good link. -/
def running (k : Fin 16) : State :=
  { holding .active with
    planner := { Planner.powerOn with state := .running, slot := some k, source := some .grid }
    meter := { started.meter with state := .synced } }

/-- StopMovesALiveSessionToClosing: an ACTIVE session while the planner runs slot 14. -/
theorem witness_stopRunning : Ready .cp (running 14) ∧ NamesSession (running 14) 0 1 0 ∧
    ((running 14).session 0).state = .active ∧ (running 14).planner.state = .running ∧
    (running 14).planner.slot = some 14 ∧ (14 : Fin 16) < 15 :=
  ⟨⟨rfl, rfl⟩, names_holding _ (by decide), rfl, rfl, rfl, by decide⟩

/-- CollectAndRelease: a CLOSED session not collected, collected by the port, and by the other port. -/
theorem witness_collect (by' : Option Port) : ∃ s : State, Ready .cp s ∧ NamesSession s 0 1 0 ∧
    (s.session 0).state = .closed ∧ (s.session 0).collectedBy = by' :=
  ⟨(holding .closed).setSession 0 { record .closed with collectedBy := by' }, ⟨rfl, rfl⟩,
    ⟨rfl, by decide, nofun, rfl⟩, rfl, rfl⟩

/-- PauseAndResume: live without and with HOST, and not live. -/
theorem witness_pause : Ready .cp (holding .active) ∧ NamesSession (holding .active) 0 1 0 ∧
    ((holding .active).session 0).reasons.host = false ∧ ((holding .active).session 0).state.isLive = true ∧
    NamesSession (holding .closed) 0 1 0 ∧ ((holding .closed).session 0).state.isLive = false ∧
    (∃ s : State, Ready .cp s ∧ NamesSession s 0 1 0 ∧ (s.session 0).reasons.host = true ∧
      (s.session 0).state.isLive = true) :=
  ⟨ready_holding _ _, names_holding _ (by decide), rfl, rfl, names_holding _ (by decide), rfl,
    (holding .paused).setSession 0 { record .paused with reasons := { PauseReasons.empty with host := true } },
    ⟨rfl, rfl⟩, ⟨rfl, by decide, by decide, rfl⟩, rfl, rfl⟩

/-- SessionClose: a calendar, and two different accounts. -/
theorem witness_sessionClose : (holding .closing).tariff.calendar = some 599 ∧
    ((holding .closing).session 0).heatAccount ≠ some ((holding .closing).session 0).chargeAccount := by decide

/-- AvailableAmount: an account of each kind. -/
theorem witness_available : (base.account 0).kind = some .prepaid ∧ (base.account 1).kind = some .creditLine ∧
    (base.account 1).limit = some 5000 ∧ ({ base.account 0 with kind := some .depot }).kind = some .depot := by decide

/-- OpenAccount: each bad field at its bound, good fields of each kind, a duplicate id, a full table, a free record. -/
theorem witness_openAccount : Ready .bp base ∧ 3 ≤ (3#8).toNat ∧ (-1#40).toInt < 0 ∧ (1#40) ≠ 0 ∧ (0#40).toInt < 1 ∧
    2000000000 < (2000000001#40).toInt ∧ 0 ≤ (0#40).toInt ∧ 1 ≤ (1#40).toInt ∧ (2000000000#40).toInt ≤ 2000000000 ∧
    (∃ a, (base.account a).state ≠ .free ∧ (base.account a).id = (17#32).toNat) ∧
    (∀ b, (base.account b).state ≠ .free → (base.account b).id ≠ (99#32).toNat) ∧ (base.account 2).state = .free ∧
    (∀ b : Fin 16, b < 2 → (base.account b).state ≠ .free) ∧
    (∀ a, (State.account { base with accounts := Vector.replicate 16 (base.account 0) } a).state ≠ .free ∧
      (State.account { base with accounts := Vector.replicate 16 (base.account 0) } a).id ≠ (99#32).toNat) :=
  ⟨ready_base _, by decide⟩

/-- AdjustMovesTheBalance: named accounts, and a balance that rises and one that does not. -/
theorem witness_adjust : Ready .bp base ∧ NamesAccount base 0 17 0 ∧
    saturateMoney ((base.account 0).balance + (0#40).toInt) ≤ (base.account 0).balance ∧
    ¬ saturateMoney ((base.account 0).balance + (1#40).toInt) ≤ (base.account 0).balance :=
  ⟨ready_base _, names_base.1, by decide⟩

/-- AccountSettings: values at their bounds; accounts of kinds, states and session counts both ways. -/
theorem witness_accountSettings : Ready .bp base ∧ NamesAccount base 0 17 0 ∧ NamesAccount base 1 34 1 ∧
    (-1#40).toInt < 0 ∧ (0#40).toInt < 1 ∧ 2000000000 < (2000000001#40).toInt ∧ (base.account 0).kind ≠ some .creditLine ∧
    (base.account 1).kind = some .creditLine ∧ (base.account 1).limit = some 5000 ∧ (base.account 0).state = .opened ∧
    (base.account 0).sessionCount = 0 ∧ ((holding .active).account 0).sessionCount ≠ 0 ∧
    NamesAccount (holding .active) 0 17 0 ∧
    NamesAccount (base.setAccount 0 { base.account 0 with state := .blocked }) 0 17 0 :=
  ⟨ready_base _, names_base.1, names_base.2, by decide, by decide, by decide, by decide, by decide, by decide, by decide,
    by decide, by decide, ⟨rfl, by decide, by decide, rfl⟩, rfl, by decide, by decide, rfl⟩

/-- TopUp: both roles; accounts OPEN with a bound, without one, and BLOCKED; a grant of 0 and one above it. -/
theorem witness_topUp : ((holding .active).session 0).accountOf .charge = some 0 ∧
    ((holding .active).session 0).accountOf .heat = some 1 ∧ available (base.account 0) = some 1000000 ∧
    available { base.account 0 with kind := some .depot } = none ∧
    topUpGrant ((holding .active).account 0) = 1000 ∧ ((holding .active).session 0).state.isLive = true ∧
    topUpGrant { base.account 0 with state := .blocked } = 0 ∧
    (({ record .active with chargeCost := 1000 } : Session).holdOf .charge).getD 0 ≤
      ({ record .active with chargeCost := 1000 } : Session).coveredCost .charge ∧
    ((askTopUp 0 .charge (holding .active)).session 0).holdsAboveCosts = true := by decide

/-- WriteAndFreeBand: each bad field at its bound, good bounds, SEALED, OPEN and EMPTY chains, a USED and a FREE band. -/
theorem witness_bands : Ready .bp base ∧ Ready .bp (chained .opened) ∧ 32 ≤ (32#8).toNat ∧ 4 ≤ (4#8).toNat ∧
    10079 < (10080#16).toNat ∧ 65535 < (65536#32).toNat ∧ (10079#16).toNat ≤ 10079 ∧ (65535#32).toNat ≤ 65535 ∧
    (base.chain 0).state = .sealed ∧ (base.chain 1).state = .empty ∧ (base.band 0).state = .used ∧
    (base.chain (base.band 0).tag).state = .sealed ∧ ((chained .opened).band 0).state = .used ∧
    ((chained .opened).band 0).tag ≠ 1 ∧ ((chained .opened).band 2).state = .free ∧
    ((chained .opened).chain 0).bandCount = 2 := ⟨ready_base _, ⟨rfl, rfl, rfl, rfl⟩, by decide⟩

/-- SealAndUnsealChain: bad fields, a valid and an invalid OPEN chain, a SEALED one, an EMPTY one, a wrong id, a lock. -/
theorem witness_seal : Ready .bp base ∧ Ready .bp (chained .opened) ∧ 4 ≤ (4#8).toNat ∧
    ((chained .opened).chain 0).state = .opened ∧ validateChain (chained .opened).tariff 0 = .inr 0 ∧
    (∃ k b, validateChain ((chained .opened).setBand 0 Band.free).tariff 0 = .inl (k, b)) ∧
    (base.chain 0).state = .sealed ∧ (base.chain 0).id = some (7#32).toNat ∧ (base.chain 0).id ≠ some (8#32).toNat ∧
    (base.chain 0).lockCount = 0 ∧ ((holding .active).chain 0).lockCount ≠ 0 ∧ (base.chain 1).state ≠ .opened :=
  ⟨ready_base _, ⟨rfl, rfl, rfl, rfl⟩, by decide, rfl, by decide, ⟨_, _, rfl⟩, by decide⟩

/-- SetCalendarAndLifetime: the bounds of both fields. -/
theorem witness_calendar : Ready .cp base ∧ 10079 < (10080#16).toNat ∧ 1440 < (1441#16).toNat ∧ (1440#16).toNat ≤ 1440 ∧
    (10079#16).toNat ≤ 10079 := ⟨ready_base _, by decide⟩

/-- A dwell on a suspect, one frame short of its step length, with these readings. -/
def dwelling (x : Suspect) (readings : List Nat) (s : State) : State :=
  s.setLocalizer ⟨.dwell, some .pos, some x, 24, 25, readings, [], none⟩

/-- MinuteEvents: UNSET; a session AUTHORIZED, COMPLETE with a band, ACTIVE with a band; a lifetime of 0 and one run out. -/
theorem witness_minute : started.tariff.calendar = none ∧ (holding .complete).tariff.calendar = some 599 ∧
    ((holding .authorized).session 0).state = .authorized ∧ liveSlot (holding .complete) = some 0 ∧
    ((holding .complete).session 0).state = .complete ∧ ((holding .complete).session 0).currentBand = some 0 ∧
    ((holding .active).session 0).state.accrues = true ∧ ((holding .active).session 0).state ≠ .complete ∧
    ((holding .active).band ((holding .active).band 0).next).start = 600 ∧ (holding .active).tariff.lifetime = 120 := by
  decide

/-- GridHeatPower: a frame and both cases of heater power against supply power. -/
theorem witness_powers : (frameOf (frameWords ++ [checkWord])).isSome = true ∧
    (powersOf ⟨1, 10, 10, 10, 10, 0, 0, Vector.replicate 6 0, 0⟩ (some .grid)).charge = 0 ∧
    (powersOf ⟨1, 10, 10, 10, 0, 0, 0, Vector.replicate 6 0, 0⟩ (some .grid)).heat = 0 := by decide

/-- AcceptedFrameEnergies: an accepted frame with a live session; the last energy in range, and the first out of it. -/
theorem witness_energies : (framed (holding .active)).meter.assembly = some frameWords ∧ frameWords.length = 14 ∧
    (acceptedFrame (frameWords ++ [checkWord])).isSome = true ∧ accruingSlot (framed (holding .active)) = some 0 ∧
    4294967295 + (179599999 + 400000) / 180000000 ≤ 4294967295 ∧
    4294967295 < 4294967295 + (179600000 + 400000) / 180000000 ∧ accruingSlot (framed base) ≠ some 0 := by decide

/-- FrameAssembly: no assembly, thirteen words, fourteen, a sum that is not 0, a front-end fault. -/
theorem witness_assembly : started.meter.assembly = none ∧ (frameWords.take 13).length < 14 ∧ frameWords.length = 14 ∧
    acceptedFrame (frameWords ++ [checkWord + 1]) = none ∧
    acceptedFrame ((frameWords.set 0 3) ++ [checkWord - 2]) = none ∧
    (acceptedFrame (frameWords ++ [checkWord])).isSome = true ∧ (frameWords ++ [checkWord]).length = 15 := by decide

/-- AcceptedFrame: a frame with a missing and a present reading, on each link state, at streaks 14 and 15. -/
theorem witness_accepted : (framed base).meter.assembly = some frameWords ∧
    (acceptedFrame (frameWords ++ [checkWord])).isSome = true ∧
    ((acceptedFrame (frameWords.set 7 0x8000 ++ [checkWord + 40 - 0x8000])).map fun f =>
      (f.zoneTemps[0].toInt, f.zoneTemps[1].toInt)) = some (-32768, 40) ∧
    (running 0).meter.state = .synced ∧ base.meter.state ≠ .synced := by decide

set_option maxRecDepth 4000 in
/-- MinuteEvents: a session whose lifetime has run out, voided with its holds, counts and lock; a COMPLETE one whose charge
hold falls below low-water, which is topped up. -/
theorem witness_voidAtMinute :
    (let s := (holding .authorized).setTariff { (holding .authorized).tariff with lifetime := 1 }
     after .minuteEvent s (fun t => ((t.account 0).held, (t.account 0).sessionCount, (t.account 1).held,
      (t.chain 0).lockCount, t.sessions.queue)) = some (0, 0, 0, 0, []) ∧ after .minuteEvent s (fun t => t.session 0) = some .free) ∧
    after .minuteEvent ((holding .complete).setSession 0 { record .complete with chargeCost := 745 }) (fun t =>
      ((t.session 0).chargeCost, (t.session 0).chargeHold, (t.account 0).held)) = some (752, 2000, 2000) := by
  decide

/-- OverdueAndLostExpiry: held counts 3 and 4, links that are not held over, a CLOSING session, a running lost timer. -/
theorem witness_overdue : (∃ s : State, s.meter.state = .holding ∧ 4 ≤ s.meter.heldCount ∧ liveSlot s = some 0 ∧
      s.planner.state ≠ .halted) ∧
    started.meter.state = .searching ∧ (∀ i, (started.session i).state ≠ .closing) ∧
    closingSlot (holding .closing) = some 0 ∧ (0 : Fin 8) ∉ (holding .closing).sessions.queue ∧ started.meter.lost = none ∧
    liveSlot (holding .active) = some 0 ∧ (0 : Fin 8) ∉ (holding .active).sessions.queue ∧ liveSlot started = none :=
  ⟨⟨(running 0).setMeter { started.meter with state := .holding, heldCount := 4 }, by decide⟩, by decide⟩

/-- OverdueAndLostExpiry: the entry to LOST aborts a dwell on the charger; the lost timeout settles the live session. -/
theorem witness_lostAborts :
    (let s := (dwelling .charger [] (running 3)).setMeter { (running 3).meter with state := .holding, heldCount := 4 }
     s.localizer.state = .dwell ∧ s.localizer.target = some .pos ∧ (s.session 0).reasons.meter = false ∧
      after .overdueExpiry s (fun t => (t.localizer.lastOutcome, (t.fault 0).verdict, (t.session 0).state)) =
        some (some (.pos, .unresolved), some .unresolved, .paused)) ∧
    after .lostTimerExpiry (((holding .active).setSession 0 { record .active with chargeCost := 300 }).setMeter
      { started.meter with lost := some 5 }) (fun t => ((t.account 0).balance, (t.account 0).held, (t.chain 0).lockCount)) =
        some (999700, 0, 0) := by
  decide

/-- PeriodClass: both sides of each bound. -/
theorem witness_classes : -80 < (-79 : Int) ∧ (-80 : Int) ≤ -80 ∧ 100 ≤ (100 : Int) ∧ (99 : Int) < 100 ∧ 75 ≤ (75 : Int) ∧
    (74 : Int) < 75 ∧ 45 ≤ (45 : Int) ∧ (44 : Int) < 45 := by decide

/-- PeriodJudgementAndAdoption: lengths 899, 900, 1,100 and 1,101, duties 99, 100, 900 and 901; each case of a class. -/
theorem witness_judgement : 899 < 900 ∧ 1100 < 1101 ∧ 99 * 1000 / 1000 < 100 ∧ 100 ≤ 100 * 1000 / 1000 ∧
    900 * 1000 / 1000 ≤ 900 ∧ 900 < 901 * 1000 / 1000 ∧ LevelClass.opened = started.supply.level ∧
    LevelClass.fault ≠ started.supply.level ∧ started.supply.candidate ≠ some .fault ∧
    ({ started.supply with candidate := some .fault, classCount := 3 }).classCount + 1 = 4 := by decide

/-- EdgesAndOverflow: the three states of the capture. -/
theorem witness_edges : started.supply.capture = .waiting ∧
    ({ started.supply with capture := .timing 7 none }).capture = .timing 7 none ∧
    ({ started.supply with capture := .timing 7 (some (7, 90)) }).capture = .timing 7 (some (7, 90)) := by decide

/-- SupplyHandOffs: a plug event with a queued session, an unplug event and a change with a live one, a fault and its end,
no change, and a fall of the offered current. -/
theorem witness_handOffs :
    supplyOf .connected none ≠ .unplugged ∧ base.supply.state = .unplugged ∧
    (holding .authorized).sessions.queue = [0] ∧ supplyOf .opened (some 320) = .unplugged ∧
    (holding .active).supply.state ≠ .unplugged ∧ accruingSlot (holding .active) = some 0 ∧
    supplyOf .connected none ≠ (holding .active).supply.state ∧ liveSlot (holding .active) = some 0 ∧
    supplyOf .fault none = .faulted ∧ (holding .active).supply.state = supplyOf .connected (some 320) ∧
    (({ (holding .active).supply with run := [310, 310] }.adoptOffer (some 310)).offered) = some 310 := by decide

/-- SupplyHandOffs: the fourth overflow with the line high is the unplug event; the session it closes is settled. -/
theorem witness_unplug :
    after (.captureOverflow 120) (((holding .active).setSession 0 { record .active with chargeCost := 300 }).setSupply
      { (holding .active).supply with candidate := some .opened, classCount := 3 }) (fun t =>
        (t.supply.state, (t.session 0).closeReason, (t.session 0).endMinute, (t.account 0).balance, (t.account 0).held,
          (t.chain 0).lockCount)) =
      some (.unplugged, some .unplugged, some 599, 999700, 0, 0) := by
  decide

/-- PlanOfACycle: a cycle on the grid with an ACTIVE session, and one on the pack. -/
theorem witness_plan : (running 0).supply.state = .offering ∧ liveSlot (running 0) = some 0 ∧
    ((running 0).session 0).state = .active ∧ base.supply.state ≠ .offering ∧
    (running 0).localizer.suspect ≠ some .charger ∧ ((zoned .auto false).zone 2).mode = .auto ∧
    ((zoned .direct true).zone 2).drive = true ∧ ((zoned .direct true).zone 2).excluded = false ∧
    ((zoned .direct false).zone 2).drive = false ∧ (started.zone 0).mode = .off := by decide

/-- SlotsHaltAndRelease: slots 0 and 14 on a good link, held counts 3; HALTED with and without a trip record. -/
theorem witness_slots : (running 14).planner.state = .running ∧ (running 14).planner.slot = some 14 ∧
    (15 : Fin 16).val = (14 : Fin 16).val + 1 ∧ (running 14).meter.state = .synced ∧
    (haltPlanner (running 0)).planner.state = .halted ∧ tripHeld (haltPlanner (running 0)) = false ∧
    (haltPlanner (running 0)).meter.state = .synced ∧
    tripHeld (started.setFault 2 { FaultRecord.powerOn with state := .active }) = true := by decide

/-- SetZoneRequest: each bad field at its bound, the bounds themselves, each mode change, an excluded zone, a suspect. -/
theorem witness_setZone : Ready .cp (zoned .auto false) ∧ 6 ≤ (6#8).toNat ∧ 3 ≤ (3#8).toNat ∧ (-81#16).toInt < -80 ∧
    120 < (121#16).toInt ∧ 8000 < (8001#32).toNat ∧ -80 ≤ (-80#16).toInt ∧ (120#16).toInt ≤ 120 ∧ (8000#32).toNat ≤ 8000 ∧
    ((zoned .auto false).zone 2).mode = .auto ∧ ((zoned .off false).zone 2).mode ≠ .auto ∧
    (({ (zoned .off false).zone 2 with excluded := true }).excluded) = true ∧ (running 0).planner.slot = some 0 ∧
    (∃ s : State, Ready .cp s ∧ s.localizer.state = .dwell ∧ s.localizer.suspect = some (.zone 2)) :=
  ⟨⟨rfl, rfl⟩, by decide, by decide, by decide, by decide, by decide, by decide, by decide, by decide, by decide, by decide,
    by decide, by decide, started.setLocalizer ⟨.dwell, some .pos, some (.zone 2), 0, 25, [], [], none⟩, ⟨rfl, rfl⟩, rfl, rfl⟩

/-- DriveAndRestoreZone: bad fields, a zone that is not DIRECT, DIRECT on and off, excluded, the suspect of a dwell. -/
theorem witness_driveZone : Ready .cp (zoned .direct true) ∧ 6 ≤ (6#8).toNat ∧ 2 ≤ (2#8).toNat ∧
    ((zoned .auto false).zone 2).mode ≠ .direct ∧ ((zoned .direct true).zone 2).mode = .direct ∧
    ((zoned .direct true).zone 2).drive = true ∧ ((zoned .direct false).zone 2).drive = false ∧
    ((zoned .direct true).zone 2).excluded = false ∧ (zoned .direct true).localizer.state ≠ .dwell ∧
    (∃ s : State, Ready .cp s ∧ (s.zone 2).mode = .direct ∧ (s.zone 2).excluded = true) ∧
    (∃ s : State, Ready .cp s ∧ (s.zone 2).mode = .direct ∧ (s.zone 2).drive = true ∧ s.localizer.state = .dwell ∧
      s.localizer.suspect = some (.zone 2) ∧ s.localizer.target = some .pos) :=
  ⟨⟨rfl, rfl⟩, by decide, by decide, by decide, by decide, by decide, by decide, by decide, by decide,
    ⟨started.setZone 2 ⟨.direct, false, 20, 1000, some 0, 0, 16, 0, true, false, false⟩, ⟨rfl, rfl⟩, rfl, rfl⟩,
    (zoned .direct true).setLocalizer ⟨.dwell, some .pos, some (.zone 2), 0, 25, [], [], none⟩, ⟨rfl, rfl⟩, rfl, rfl, rfl, rfl, rfl⟩

/-- HeatingSettings: counts 0, 1, 8 and 9, the bounds of each field, and a zone with a temperature or without one. -/
theorem witness_heating : Ready .cp started ∧ ¬ 1 ≤ (0#8).toNat ∧ (8#8).toNat ≤ 8 ∧ ¬ (9#8).toNat ≤ 8 ∧
    100 < (101#8).toNat ∧ (100#8).toNat ≤ 100 ∧ 20000 < (20001#32).toNat ∧ (20000#32).toNat ≤ 20000 ∧
    (-81#16).toInt < -80 ∧ -80 ≤ (-80#16).toInt ∧ (120#16).toInt ≤ 120 ∧
    (([-80#16, 120#16].map BitVec.toInt).Pairwise (· < ·)) ∧ (∀ z, (started.zone z).temperature = none) ∧
    ((zoned .auto false).zone 2).temperature = some 0 ∧ ((zoned .auto false).zone 2).excluded = false :=
  ⟨⟨rfl, rfl⟩, by decide⟩

/-- RailComparators: a record in each state, below counts 7 and 8 of a persistence of 8, and readings at the levels. -/
theorem witness_comparators : (started.fault 0).state = .free ∧ ((warned .cleared).fault 0).state = .cleared ∧
    ((warned .active).fault 0).state = .active ∧ started.isolation.settings.persistence = 8 ∧
    min (7 + 1) 8 = 8 ∧ started.isolation.settings.level .trip = 100 ∧ ¬ 100 < 100 ∧ ¬ 4 * 125 < 5 * 100 := by decide

/-- RailComparators: the eighth reading below the trip level, with the charger under test and the session ACTIVE. -/
theorem witness_tripAborts :
    (let s := dwelling .charger [] ((running 3).setIsolation { started.isolation with tripPos := ⟨7, 0⟩ })
     isolationCondition s = false ∧ liveSlot s = some 0 ∧ s.localizer.state = .dwell ∧ s.localizer.target = some .pos ∧
      s.planner.state ≠ .halted ∧
      (let t := comparatorWork .trip .pos 99 s
       (t.localizer.lastOutcome, (t.fault 0).verdict, (t.session 0).reasons.isolation, t.planner.state) =
        (some (.pos, .unresolved), some .unresolved, true, .halted))) := by
  decide

/-- The words of a good frame. -/
def goodFrame : MeterFrame := ⟨1, 4000, 100, 7000, 0, 500, 500, Vector.replicate 6 40, 25⟩

/-- RailComparators: the eighth reading below the warning level; a localization that ends at once raises the revision twice,
and without auto-localize only the confirmation does. -/
theorem witness_warningConfirmed :
    (let s := started.setIsolation { started.isolation with warnPos := ⟨7, 0⟩ }
     s.isolation.settings.autoLocalize = true ∧ s.localizer.state = .idle ∧ s.isolation.settings.level .warning = 250 ∧
      ((comparatorWork .warning .pos 249 s).fault 0).revision = 2 ∧
      ((comparatorWork .warning .pos 249 (s.setIsolation { s.isolation with
        settings := { s.isolation.settings with autoLocalize := false } })).fault 0).revision = 1) := by
  decide

/-- HeaterMismatch: a zone is put under test at the frame that gives it its eighth vote; it is excluded, out of slot, plan
and order, and its step ends as not tested. -/
theorem witness_votedOut :
    (let entry : PlanEntry := { PlanEntry.empty with zones := PlanEntry.empty.zones.set 2 (some 700), heaterPower := 700 }
     let s := (dwelling (.zone 2) [] ((warned .active).setZone 2 { (zoned .auto false).zone 2 with underTest := true })).setIsolation
       { (warned .active).isolation with votes := (warned .active).isolation.votes.set 2 7 }
     let t := mismatchWork { goodFrame with heaterCurrent := 226 } (some entry)
       (s.setPlanner { Planner.powerOn with
         state := .running, slot := some 3, order := [2], plan := Vector.replicate 16 entry })
     (t.zone 2).excluded = true ∧ (t.zone 2).underTest = false ∧ t.localizer.lastOutcome = some (.pos, .packSide) ∧
      t.planner.order = [] ∧ (t.planner.plan[(3 : Fin 16)]).heaterPower = 0 ∧
      (t.planner.plan[(4 : Fin 16)]).zones[(2 : Fin 6)] = none ∧ (t.planner.plan[(2 : Fin 16)]).heaterPower = 700) := by
  decide

/-- HeaterMismatch: a pack voltage; votes 6 and 7; a zone on and off in the entry; currents at and over the bound. -/
theorem witness_mismatch : (7000#16) ≠ 0 ∧ (started.zone 2).excluded = false ∧ started.isolation.votes[(2 : Fin 6)] ≤ 7 ∧
    PlanEntry.empty.zones[(2 : Fin 6)] = none ∧
    ({ PlanEntry.empty with zones := PlanEntry.empty.zones.set 2 (some 700) }).zones[(2 : Fin 6)] ≠ none ∧
    ¬ (((700 * 1000 / 7000) / 4 + 100 : Nat) : Int) < (225 - ((700 * 1000 / 7000 : Nat) : Int)).natAbs ∧
    (((700 * 1000 / 7000) / 4 + 100 : Nat) : Int) < (226 - ((700 * 1000 / 7000 : Nat) : Int)).natAbs ∧
    (started.isolation.votes.set 2 7)[(2 : Fin 6)] = 7 := by decide

/-- FaultRequests: good settings at their bounds and bad ones; key 12; records not CLEARED, not seen, and of the target. -/
theorem witness_faultRequests : Ready .cp (warned .cleared) ∧ Ready .bp (warned .cleared) ∧ (7#8).toNat ≤ 7 ∧
    (6#8).toNat < (7#8).toNat ∧ (16#8).toNat ∈ [2, 4, 8, 16] ∧ 8 ≤ (8#8).toNat ∧ (64#8).toNat ≤ 64 ∧ ¬ (65#8).toNat ≤ 64 ∧
    ¬ (2#8).toNat ≤ 1 ∧ 12 ≤ (12#8).toNat ∧ (started.fault 0).state ≠ .cleared ∧
    ((warned .cleared).fault 0).seenCp = some ((warned .cleared).fault 0).revision ∧
    ((warned .cleared).fault 0).seenBp ≠ some ((warned .cleared).fault 0).revision ∧
    ((warned .cleared).setLocalizer ⟨.dwell, some .pos, some .charger, 0, 25, [], [], none⟩).localizer.target = some .pos :=
  ⟨⟨rfl, rfl⟩, ⟨rfl, rfl, rfl, rfl⟩, by decide⟩

/-- TestFaults: the bounds of mask and filter. -/
theorem witness_testFaults : Ready .cp started ∧ Ready .bp started ∧ 4096 ≤ (4096#16).toNat ∧ (4095#16).toNat < 4096 ∧
    2 ≤ (2#8).toNat ∧ (1#8).toNat < 2 := ⟨ready_started _, ready_started _, by decide⟩

/-- An ACTIVE warning with zone 2 in the plan and driven. -/
def suspected : State :=
  (((warned .active).setZone 2 ⟨.auto, false, 20, 1000, some 0, 0, 16, 16, false, false, false⟩).setPlanner
    { Planner.powerOn with state := .running, slot := some 3 }).setMeter { started.meter with state := .synced }

/-- LocalizeAndCancel: keys 2, 11 and 12; no energizable suspect; an energizable one with none above it; a dwell. -/
theorem witness_localize : Ready .cp (warned .active) ∧ (warned .active).localizer.state = .idle ∧ 12 ≤ (12#8).toNat ∧
    (11#8).toNat < 12 ∧ 2 ≤ (2#8).toNat ∧ ((warned .active).fault 0).state = .active ∧ (started.fault 0).state ≠ .active ∧
    (∀ z, ((warned .active).zone z).granted = 0) ∧ Ready .cp suspected ∧ 0 < (suspected.zone 2).granted ∧
    energizable suspected (.zone 2) = true ∧
    (∃ s : State, Ready .cp s ∧ s.localizer.state = .dwell ∧ s.localizer.target = some .pos ∧
      s.localizer.suspect = some (.zone 2)) :=
  ⟨⟨rfl, rfl⟩, by decide, by decide, by decide, by decide, by decide, by decide, by decide, ⟨rfl, rfl⟩, by decide, by decide,
    started.setLocalizer ⟨.dwell, some .pos, some (.zone 2), 0, 25, [], [], none⟩, ⟨rfl, rfl⟩, rfl, rfl, rfl⟩

/-- AttentionRequests: masks 1,023 and 1,024, and a mask that holds a cause. -/
theorem witness_attention : Ready .cp started ∧ Ready .bp started ∧ 1024 ≤ (1024#16).toNat ∧ (1023#16).toNat < 1024 ∧
    (1023#10).getLsbD Cause.meterState.bit = true := ⟨ready_started _, ready_started _, by decide⟩

/-- The lookups: indices just out of range. -/
theorem witness_lookups : Ready .cp started ∧ Ready .bp started ∧ 8 ≤ (8#8).toNat ∧ 16 ≤ (16#8).toNat ∧
    32 ≤ (32#8).toNat ∧ 4 ≤ (4#8).toNat ∧ 6 ≤ (6#8).toNat := ⟨ready_started _, ready_started _, by decide⟩

/-- WarmReset: a FAULTED supply, a dwell with a target, an accruing session and none, a port that is ready. -/
theorem witness_warmReset : Ready .cp (holding .active) ∧ accruingSlot (holding .active) = some 0 ∧
    accruingSlot base = none ∧ base.localizer.state = .idle ∧ base.supply.state ≠ .faulted ∧
    (∃ s : State, s.supply.state = .faulted ∧ s.localizer.state = .dwell ∧ s.localizer.target = some .pos) :=
  ⟨ready_holding _ _, by decide, by decide, by decide, by decide,
    (started.setLocalizer ⟨.dwell, some .pos, some (.zone 2), 0, 25, [], [], none⟩).setSupply
      { started.supply with state := .faulted, level := .fault }, rfl, rfl, rfl⟩

/-- PowerOnAndPortStart: both values of the start. -/
theorem witness_portStart : State.reset.portsStarted = false ∧ started.portsStarted = true := by decide

/-! ### Witnesses of the parts of a statement that need a state of their own -/

/-- RecordNamingRefusals: a stale name with a limit and a step out of range. -/
theorem witness_staleValues : Ready .bp base ∧ (base.account 0).id ≠ (18#32).toNat ∧ (-1#40).toInt < 0 ∧
    (0#40).toInt < 1 := ⟨ready_base _, by decide⟩

/-- StopMovesALiveSessionToClosing: a sound plan of a GRID cycle, the only live session, and the charger under test;
a standing and none. -/
theorem witness_stop : PlanSound (running 14) ∧ (running 14).planner.source = some .grid ∧
    (∀ j : Fin 8, j ≠ 0 → ((running 14).session j).state.isLive = false) ∧
    (dwelling .charger [] (running 14)).localizer.suspect = some .charger ∧
    ((dwelling .charger [] (running 14)).session 0).state = .active ∧ gridStanding (running 14) = true ∧
    gridStanding (holding .closing) = false := by
  refine ⟨?_, by decide⟩
  unfold PlanSound
  decide

/-- TopUp: a grant of 0 with the cost below the hold; a grant that leaves a hold at its cost; a live session with CREDIT
that names an account and not another. -/
theorem witness_creditRetry :
    (((holding .active).session 0).coveredCost .charge < (((holding .active).session 0).holdOf .charge).getD 0) ∧
    (∃ s : State, (s.session 0).accountOf .charge = some 0 ∧ (s.session 0).state.isLive = true ∧
      topUpGrant (s.account 0) = 1000 ∧ ((askTopUp 0 .charge s).session 0).holdsAboveCosts = false) ∧
    (∃ s : State, (s.session 0).state.isLive = true ∧ (s.session 0).reasons.credit = true ∧
      (s.session 0).chargeAccount = 0 ∧ (s.session 0).chargeAccount ≠ 2 ∧ (s.session 0).heatAccount ≠ some 2 ∧
      (∀ j : Fin 8, j ≠ 0 → (s.session j).state.isLive = false)) :=
  ⟨by decide, ⟨(holding .active).setSession 0 { record .active with chargeCost := 2000 }, by decide⟩,
    (holding .paused).setSession 0 { record .paused with reasons := { PauseReasons.empty with credit := true } }, by decide⟩

/-- SealAndUnsealChain: a valid chain of two bands, and chains that fail at a band not in use, by a loop and by order. -/
theorem witness_validation : ((chained .opened).chain 0).head = some 0 ∧
    validateChain (chained .opened).tariff 0 = .inr 0 ∧
    validateChain ((chained .opened).setBand 1 .free).tariff 0 = .inl (.linkOut, 0) ∧
    validateChain ((chained .opened).setBand 0 ⟨.used, 0, 0, 30, 20, 7, none, 0⟩).tariff 0 = .inl (.loop, 0) ∧
    validateChain ((chained .opened).setBand 1 ⟨.used, 0, 0, 30, 20, 7, none, 0⟩).tariff 0 = .inl (.order, 1) := by
  decide

/-- SetCalendarAndLifetime: the minute before the first start, at it, before the second start and at it. -/
theorem witness_covering :
    (let t := ((chained .sealed).setBand 0 ⟨.used, 0, 5, 30, 20, 7, none, 1⟩).tariff
     cycleBands t 0 = [0, 1] ∧ t.bands[(0 : Fin 32)].start < t.bands[(1 : Fin 32)].start ∧
      [4, 5, 599, 600].map (coveringBand t 0) = [some 1, some 0, some 0, some 1]) := by decide

/-- AcceptedFrameEnergies: a held event with a frame, no session, and a session whose target is reached. -/
theorem witness_accrual : (∃ s : State, s.meter.frame = some goodFrame ∧ s.meter.state = .holding ∧ s.meter.heldCount = 3 ∧
      accruingSlot s = some 0 ∧ (s.session 0).state = .active ∧ (s.session 0).energyTarget = some 100 ∧
      (s.session 0).chargeEnergy.wh = 100) ∧ accruingSlot started = none ∧
    (accrue true none (((holding .active).setSession 0 { record .active with
        energyTarget := some 1, chargeEnergy := ⟨0, 179999999⟩ }).setMeter
      { started.meter with frame := some goodFrame })).session 0 = { record .active with
        state := .complete, energyTarget := some 1, chargeEnergy := ⟨1, 399999⟩, supplyEnergy := ⟨0, 400000⟩
        chargeCost := 30, heldFrames := 1 } :=
  ⟨⟨((holding .active).setSession 0 { record .active with energyTarget := some 100, chargeEnergy := ⟨100, 0⟩ }).setMeter
    { started.meter with state := .holding, heldCount := 3, frame := some goodFrame }, by decide⟩, by decide, by decide⟩

/-- AcceptedFrameEnergies: a session whose energies are at the end of their range and one where they have come to stand; an
event past the range leaves them standing, and so do the later ones, of no power at all. -/
theorem witness_energiesStand :
    (let full := { record .active with supplyEnergy := ⟨4294967295, 179999999⟩, chargeEnergy := ⟨4294967295, 179999999⟩ }
     let still := { goodFrame with supplyCurrent := 0 }
     let once := accrue true none (((holding .active).setSession 0 full).setMeter
       { started.meter with frame := some goodFrame })
     full.energyFrozen = false ∧ once.session 0 = { full with energyFrozen := true } ∧
      (accrue true none (once.setMeter { started.meter with frame := some still })).session 0 = once.session 0) := by decide

/-- Slot 15 runs, and one frame completes the dwell on the charger without a recovery. -/
def releasing : State :=
  let s := (dwelling .charger [1, 312, 313, 313] (running 15)).setFault 0 { (warned .active).fault 0 with state := .active }
  framed { s with isolation := { s.isolation with settings := { s.isolation.settings with warning := 7 } } }
set_option maxRecDepth 16000 in
/-- AcceptedFrame: that frame is a cycle boundary; the charger is out of test and the plan of the cycle commands it. -/
theorem witness_releasedAtBoundary : after (.dataWord checkWord) releasing (fun t =>
    (t.localizer.suspect, t.planner.slot, decide (0 < (t.planner.plan[(0 : Fin 16)]).command))) =
      some (none, some 0, true) := by decide

/-- AcceptedFrame, SlotsHaltAndRelease: boundaries in IDLE and at slot 15, a slot before, and an entry to SYNCED. -/
theorem witness_boundary : started.planner.state = .idle ∧ (running 15).planner.slot = some 15 ∧
    (running 14).planner.slot ≠ some 15 ∧ (running 15).planner.state = .running ∧
    entersSynced { started.meter with state := .recovering, goodCount := 2 } = true ∧
    entersSynced { started.meter with state := .recovering, goodCount := 1 } = false := by decide

/-- PlanOfACycle: a DIRECT zone that fits, one that is deferred, and an AUTO zone in the slots its demand asks for. -/
def placeable : State :=
  let auto : Zone := ⟨.auto, false, 20, 500, some 14, 0, 3, 0, false, false, false⟩
  let direct : Zone := ⟨.direct, true, 20, 700, some 14, 0, 0, 0, false, false, false⟩
  (((started.setHeating { started.heating with packBudget := 1200 }).setZone 0 auto).setZone 1 direct).setZone 4 direct
set_option maxRecDepth 8000 in
theorem witness_placement :
    ([0, 1, 4].map fun z => (((buildPlan placeable).zone z).granted, ((buildPlan placeable).zone z).deferred)) =
      [(3, false), (16, false), (0, true)] ∧ (buildPlan placeable).planner.order = [1, 0] ∧
    ([2, 3].map fun k => ((buildPlan placeable).planner.plan[(k : Fin 16)]).heaterPower) = [1200, 700] := by decide
/-- A GRID cycle in slot 3 whose entries hold zones 2 and 1, placed in this order. -/
def planned : Planner :=
  { Planner.powerOn with
    state := .running, slot := some 3, source := some .grid, order := [2, 1]
    plan := Vector.replicate 16 ⟨#v[none, some 700, some 1000, none, none, none], 1700, 500, 2200⟩ }

/-- SupplyHandOffs: a cut to a budget that keeps the zone placed first, one that keeps none, one above the budget, and
the slot that runs. -/
theorem witness_cut : planned.order.Nodup ∧
    (planned.cut 1000).plan[(4 : Fin 16)] = ⟨#v[none, none, some 1000, none, none, none], 1000, 0, 1000⟩ ∧
    (planned.cut 0).plan[(15 : Fin 16)] = ⟨Vector.replicate 6 none, 0, 0, 0⟩ ∧
    (planned.cut 2200).plan[(4 : Fin 16)] = planned.plan[(4 : Fin 16)] ∧
    (planned.cut 0).plan[(3 : Fin 16)] = planned.plan[(3 : Fin 16)] ∧
    (planned.withdrawCharger.plan[(4 : Fin 16)]).command = 0 := by decide

/-- SupplyHandOffs: the third judgement without an offer takes the mark away. -/
theorem witness_offerLost : (({ (holding .active).supply with noOffer := 2 }.adoptOffer none).offered) = none ∧
    (holding .active).supply.offered = some 320 := by decide

/-- SetZoneRequest: a new rating for a zone that slot 4 holds, and for one that no slot holds; a suspect set OFF. -/
theorem witness_withdrawal :
    (let s := ((zoned .auto false).setPlanner planned)
     (s.planner.plans 2 = true ∧ s.planner.plans 3 = false) ∧ (s.zone 2).rated ≠ (999#32).toNat ∧ (s.zone 2).mode = .auto ∧
      ((s.planner.withdrawZone 2).plan[(4 : Fin 16)]).heaterPower = 700) ∧
    (dwelling (.zone 2) [] (zoned .auto false)).localizer.target = some .pos := by decide

/-- HeatingSettings: the coldest temperature below the first threshold, at it, one step above, and two; of equal
temperatures the lower index. -/
theorem witness_admission :
    ([-21, -20, -19, -18].map fun v => admissionFor started.heating.admission (some v)) = [0, 3300, 3300, 3300] ∧
    firstThreshold started.heating = -20 ∧
    (let s := ((zoned .auto false).setZone 4 { (zoned .auto false).zone 2 with temperature := some 0 })
     coldestZone s.heating.zones = some (0, 2)) := by decide

/-- LocalizeAndCancel: the frame that completes a dwell, with four readings clear of the level and with one that is not,
the charger and a zone under test. -/
theorem witness_dwell : goodFrame.status.getLsbD 0 = true ∧ goodFrame.insulationPos.toNat = 500 ∧
    (dwelling .charger [1, 313, 313, 313] started).localizer.stepLength ≤
      (dwelling .charger [1, 313, 313, 313] started).localizer.dwellCount + 1 ∧
    (localizerFrame goodFrame (dwelling (.zone 2) [1, 313, 313, 313] (warned .active))).localizer.lastOutcome =
      some (.pos, .zone 2) ∧
    (localizerFrame goodFrame (dwelling (.zone 2) [1, 312, 313, 313] (warned .active))).localizer.lastOutcome =
      some (.pos, .packSide) ∧
    (localizerFrame goodFrame (dwelling .charger [313, 313, 313, 313] (warned .active))).localizer.lastOutcome =
      some (.pos, .charger) ∧ isolationCondition (warned .active) = false := by decide

/-- WarmReset: an accruing session with a calendar and two accounts; an OFFER_FAULT record that is ACTIVE. -/
theorem witness_warmResetClose : accruingSlot (holding .active) = some 0 ∧ (holding .active).tariff.calendar = some 599 ∧
    ((holding .active).session 0).heatAccount ≠ some ((holding .active).session 0).chargeAccount ∧
    (∃ s : State, s.supply.state = .faulted ∧ (s.fault 11).state = .active) ∧
    after .resetAssertion (holding .active) (fun t => ((t.account 0).held, (t.account 1).held, (t.chain 0).lockCount)) =
      some (0, 0, 0) :=
  ⟨by decide, by decide, by decide, ⟨(started.setFault 11 { FaultRecord.powerOn with state := .active }).setSupply
    { started.supply with state := .faulted, level := .fault }, rfl, rfl⟩, by decide⟩

/-! ### The invariants hold in a state with an ACTIVE session, and a step from it answers a next state -/

/-- An ACTIVE session, and a frame sync waiting. -/
def charging : State := { holding .active with pending := [.frameSync] }

theorem witness_step : ∃ t, step charging = .next t := ⟨_, rfl⟩
theorem witness_plannerSafe : PlannerSafe charging := by unfold PlannerSafe OutputsOff; decide
theorem witness_energyBalanced : EnergyBalanced charging := by unfold EnergyBalanced; decide
/-- StepsKeepEnergyBalanced: energies that stand, before and after a step. -/
theorem witness_standing : (let s := charging.setSession 0 { record .active with energyFrozen := true }
    (s.session 0).energyFrozen = true ∧ (s.session 0).state ≠ .free ∧
      after .frameSync s (fun t => ((t.session 0).energyFrozen, (t.session 0).state)) = some (true, .active)) := by decide
theorem witness_planSound : PlanSound charging := by unfold PlanSound; decide
theorem witness_queueExact : QueueExact charging := by unfold QueueExact; decide
theorem witness_oneHoldsInlet : OneHoldsInlet charging := by unfold OneHoldsInlet; decide
theorem witness_reasonsFollow : ReasonsFollow charging := by
  intro i; fin_cases i <;> rfl
theorem witness_ledgerExact : LedgerExact charging := by unfold LedgerExact; decide
theorem witness_locksExact : LocksExact charging := by unfold LocksExact; decide
theorem witness_calendarSound : CalendarSound charging := by unfold CalendarSound; decide
theorem witness_localizerSound : LocalizerSound charging := by
  refine ⟨⟨rfl, rfl, rfl, rfl, rfl⟩, ?_⟩; decide
theorem witness_supplySound : SupplySound charging := by unfold SupplySound; decide
theorem witness_meterSound : MeterSound charging := by
  refine ⟨⟨rfl, rfl, rfl, rfl⟩, ?_⟩; decide
theorem witness_portsSound : PortsSound charging := by unfold PortsSound; decide

end Sys2Proof.Tests
end

section
/-! SUPPORT. How a ready port executes a request: the reply of the request's owner is the state and the response that
the command leaves; and what a request that names a session finds. -/

namespace Sys2Proof.Machine

/-! ### Requests at a ready port (R170, R171, R174) -/

/-- A request frame adds a code, a length and a check byte to the parameters (section 11.1). -/
theorem frame_length (r : Request) : r.frame.length = r.params.length + 3 := by
  simp [Request.frame, withCheck]

/-- The Control Port, ready, executes a request and keeps its response in the buffer. -/
theorem controlRequest_ready {s : State} (hready : Ready .cp s) (r : Request) :
    controlRequest r s = answered .cp r.params.length (responseTo .cp r s) (answer .cp r s).state := by
  obtain ⟨hstarted, hbuffer⟩ := hready
  simp only [controlRequest, hstarted, hbuffer, frame_length, Bool.true_eq_false, Option.isSome_none,
    Bool.false_eq_true, if_false]
  rfl

/-- The Billing Port, ready, executes a request and sends its response. -/
theorem billingFrame_ready {s : State} (hready : Ready .bp s) (r : Request) :
    billingFrame r s = answered .bp r.params.length (responseTo .bp r s) (answer .bp r s).state :=
  if_pos hready

/-- A ready port executes every request: the reply says the state and the response. -/
theorem executes_answer {p : Port} {s : State} (hready : Ready p s) (r : Request) :
    Executes p r (answer p r s).result (answer p r s).data s (answer p r s).state := by
  unfold Executes
  rw [exec_command]
  cases p with
  | cp => exact congrArg Host.Outcome.next (controlRequest_ready hready r)
  | bp => exact congrArg Host.Outcome.next (billingFrame_ready hready r)

/-- A permitted request at a ready port does what its owner's reply says. -/
theorem executes_of_serve {p : Port} {r : Request} {s : State} {reply : Reply} (hready : Ready p s)
    (hpermitted : permitted p r = true) (hserve : serve p s r = reply) :
    Executes p r reply.result reply.data s reply.state := by
  have hanswer : answer p r s = reply := by rw [answer, if_pos hpermitted, hserve]
  simpa only [hanswer] using executes_answer hready r

/-! ### Naming a session (R5) -/

/-- The byte of a record's index names that record. -/
theorem index?_index {n : Nat} (hn : n ≤ 256) (i : Fin n) : index? n (index i.val) = some i := by
  have hbyte : (index i.val).toNat = i.val := by
    rw [index, BitVec.toNat_ofNat]
    exact Nat.mod_eq_of_lt (i.isLt.trans_le hn)
  simp [index?, hbyte]

theorem nameSession_of_named {s : State} {slot : Byte} {serial : BitVec 16} {i : Fin 8}
    (hnamed : NamesSession s slot serial i) : nameSession slot serial s = .ok i := by
  obtain ⟨rfl, hserial, hused, hsame⟩ := hnamed
  have hfound : ¬ ((s.session i).state = .free ∨ (s.session i).serial ≠ serial.toNat) := not_or.2 ⟨hused, not_not.2 hsame⟩
  simp only [nameSession, index?_index (by decide : 8 ≤ 256), if_neg hserial, if_neg hfound]

/-- A request that names the session of slot `i` is taken by its own rule for slot `i`. -/
theorem onSession_of_named {s : State} {slot : Byte} {serial : BitVec 16} {i : Fin 8}
    (hnamed : NamesSession s slot serial i) (rule : Fin 8 → Reply) : onSession slot serial s rule = rule i := by
  rw [onSession, nameSession_of_named hnamed]

end Sys2Proof.Machine
end

section
/-! COLLECT and RELEASE (R25, R26): the reply of each for each state of the session named, and the statement about
both. -/

namespace Sys2Proof.Machine

/-! ### The replies to COLLECT and RELEASE -/

section
variable {p : Port} {s : State} {slot : Byte} {serial : BitVec 16} {i : Fin 8}

theorem requestCollect_closed (hnamed : NamesSession s slot serial i) (hclosed : (s.session i).state = .closed) :
    requestCollect p slot serial s =
      accept (s.setSession i { s.session i with collectedBy := some p }) (sessionBytes i (s.session i)) := by
  rw [requestCollect, onSession_of_named hnamed, if_pos hclosed]

theorem requestCollect_not_closed (hnamed : NamesSession s slot serial i) (hnotClosed : (s.session i).state ≠ .closed) :
    requestCollect p slot serial s = refuse s .wrongState := by
  rw [requestCollect, onSession_of_named hnamed, if_neg hnotClosed]

theorem requestRelease_not_closed (hnamed : NamesSession s slot serial i) (hnotClosed : (s.session i).state ≠ .closed) :
    requestRelease p slot serial s = refuse s .wrongState := by
  rw [requestRelease, onSession_of_named hnamed, if_neg hnotClosed]

theorem requestRelease_uncollected (hnamed : NamesSession s slot serial i) (hclosed : (s.session i).state = .closed)
    (huncollected : (s.session i).collectedBy = none) :
    requestRelease p slot serial s = refuse s .wrongState := by
  rw [requestRelease, onSession_of_named hnamed, if_pos hclosed, huncollected]

/-- A collected CLOSED session is released for the port that collected it last, and for that port only. -/
theorem requestRelease_collected {q : Port} (hnamed : NamesSession s slot serial i)
    (hclosed : (s.session i).state = .closed) (hcollected : (s.session i).collectedBy = some q) :
    requestRelease p slot serial s = if q = p then accept (releaseSession i s) [] else refuse s .stale := by
  rw [requestRelease, onSession_of_named hnamed, if_pos hclosed, hcollected]

theorem permitted_collect : permitted p (.collect slot serial) = true := by cases p <;> rfl
theorem permitted_release : permitted p (.release slot serial) = true := by cases p <;> rfl

/-- What COLLECT replies is what its command does at a ready port. -/
theorem executes_collect {reply : Reply} (hready : Ready p s) (hreply : requestCollect p slot serial s = reply) :
    Executes p (.collect slot serial) reply.result reply.data s reply.state :=
  executes_of_serve hready permitted_collect hreply

/-- What RELEASE replies is what its command does at a ready port. -/
theorem executes_release {reply : Reply} (hready : Ready p s) (hreply : requestRelease p slot serial s = reply) :
    Executes p (.release slot serial) reply.result reply.data s reply.state :=
  executes_of_serve hready permitted_release hreply

end

/-! ### What a release frees -/

/-- A released session named one account: its session count falls, and the slot is FREE. -/
theorem releaseSession_unheated {s : State} {i : Fin 8} (hheat : (s.session i).heatAccount = none) :
    releaseSession i s = (lowerCount (s.session i).chargeAccount s).setSession i .free := by
  simp only [releaseSession, hheat]

/-- A released session named two accounts: both session counts fall, and the slot is FREE. -/
theorem releaseSession_heated {s : State} {i : Fin 8} {h : Fin 16} (hheat : (s.session i).heatAccount = some h) :
    releaseSession i s = (lowerCount h (lowerCount (s.session i).chargeAccount s)).setSession i .free := by
  simp only [releaseSession, hheat]

/-- Settles O16: the reply of COLLECT or RELEASE in each case is what a ready port executes. -/
theorem collectAndRelease : Obligations.CollectAndRelease := by
  intro p s slot serial i hready hnamed r lowered ledger
  have hfreed : releaseSession i s = ledger.setSession i .free := by
    cases hheat : r.heatAccount with
    | none =>
      simp only [ledger, hheat]
      exact releaseSession_unheated hheat
    | some h =>
      simp only [ledger, hheat]
      exact releaseSession_heated hheat
  refine ⟨fun hclosed => ?closed, fun hclosed hmine => ?collectedByPort, fun hclosed hnone => ?uncollected,
    fun q hclosed hother hne => ?collectedByOther, fun hnotClosed => ?notClosed⟩
  case closed => exact executes_collect hready (requestCollect_closed hnamed hclosed)
  case collectedByPort =>
    have hreply := requestRelease_collected (p := p) hnamed hclosed hmine
    rw [if_pos rfl, hfreed] at hreply
    exact executes_release hready hreply
  case uncollected => exact executes_release hready (requestRelease_uncollected hnamed hclosed hnone)
  case collectedByOther =>
    have hreply := requestRelease_collected (p := p) hnamed hclosed hother
    rw [if_neg hne] at hreply
    exact executes_release hready hreply
  case notClosed =>
    exact ⟨executes_collect hready (requestCollect_not_closed hnamed hnotClosed),
      executes_release hready (requestRelease_not_closed hnamed hnotClosed)⟩

end Sys2Proof.Machine
end

section
/-! The available amount (R29): its value for each kind of account, when it covers an amount, and the statement about
both. -/

namespace Sys2Proof.Machine

section
variable {a : Account}

/-! ### The available amount of each kind -/

theorem available_prepaid (hkind : a.kind = some .prepaid) : available a = some (a.balance - a.held) := by
  simp only [available, hkind]

theorem available_creditLine {l : Nat} (hkind : a.kind = some .creditLine) (hlimit : a.limit = some l) :
    available a = some (a.balance + l - a.held) := by
  simp only [available, hkind, hlimit, Option.getD_some]

theorem available_depot (hkind : a.kind = some .depot) : available a = none := by
  simp only [available, hkind]

/-- The available amount reads kind, balance, limit and held, not the account's state. -/
@[simp] theorem available_setState (st : AccountState) : available { a with state := st } = available a := rfl

/-! ### What an available amount covers -/

/-- A bounded available amount covers the amounts up to it. -/
theorem covers_iff_of_available_some {need : Nat} {v : Int} (hbound : available a = some v) :
    covers a need = true ↔ (need : Int) ≤ v := by
  simp only [covers, hbound, decide_eq_true_iff]

/-- An unbounded available amount covers every amount. -/
theorem covers_of_available_none {need : Nat} (hunbounded : available a = none) : covers a need = true := by
  simp only [covers, hunbounded]

end

/-- Settles O20: each kind's available amount says what it covers, and the account's state is not read. -/
theorem availableAmount : Obligations.AvailableAmount := by
  intro a need
  refine ⟨fun hkind => ?prepaid, fun l hkind hlimit => ?creditLine, fun hkind => ?depot, fun st => available_setState st⟩
  case prepaid =>
    have havailable := available_prepaid hkind
    exact ⟨havailable, covers_iff_of_available_some havailable⟩
  case creditLine =>
    have havailable := available_creditLine hkind hlimit
    exact ⟨havailable, covers_iff_of_available_some havailable⟩
  case depot =>
    have havailable := available_depot hkind
    exact ⟨havailable, covers_of_available_none havailable⟩

end Sys2Proof.Machine
end

section
/-! The powers of an event (R62 to R64): supply power and grid heat power of a frame, the charge power as their
difference, and the statement about the split. -/

namespace Sys2Proof.Machine

/-! ### The powers of a frame -/

section
variable (f : MeterFrame) (source : Option BudgetSource)

@[simp] theorem powersOf_supply : (powersOf f source).supply = powerOf f.supplyVoltage f.supplyCurrent := rfl

/-- Under a GRID slot the heater power counts, up to the supply power. -/
theorem powersOf_heat_grid : (powersOf f (some .grid)).heat =
    min (powerOf f.packVoltage f.heaterCurrent) (powerOf f.supplyVoltage f.supplyCurrent) := rfl

/-- Without a slot of a GRID cycle no heater power counts. -/
theorem powersOf_heat_of_ne_grid {source : Option BudgetSource} (hsource : source ≠ some .grid) :
    (powersOf f source).heat = 0 := by
  rw [powersOf, if_neg hsource, Nat.zero_min]

theorem powersOf_heat_le_supply : (powersOf f source).heat ≤ (powersOf f source).supply := Nat.min_le_right _ _

end

/-! ### The charge power -/

namespace Powers
variable {p : Powers}

theorem charge_le_supply : p.charge ≤ p.supply := Nat.sub_le _ _

/-- Charge power and grid heat power make up the supply power exactly. -/
theorem charge_add_heat (hle : p.heat ≤ p.supply) : p.charge + p.heat = p.supply := Nat.sub_add_cancel hle

theorem charge_eq_zero (htaken : p.heat = p.supply) : p.charge = 0 := by
  rw [charge, htaken, Nat.sub_self]

theorem charge_eq_supply (hunheated : p.heat = 0) : p.charge = p.supply := by
  rw [charge, hunheated, Nat.sub_zero]

end Powers

/-- Settles O29: the grid heat power is at most the supply power, by the source of the slot, so the charge power is what
is left of it. -/
theorem gridHeatPower : Obligations.GridHeatPower := by
  intro f source supply heater p
  have hsupply : p.supply = supply := powersOf_supply f source
  have hheat : p.heat = min heater supply := by
    by_cases hgrid : source = some .grid
    · subst hgrid
      exact powersOf_heat_grid f
    · have hheater : heater = 0 := if_neg hgrid
      rw [hheater, Nat.zero_min]
      exact powersOf_heat_of_ne_grid f hgrid
  have hle : p.heat ≤ p.supply := powersOf_heat_le_supply f source
  refine ⟨hsupply, hheat, ?charge, hle, Powers.charge_le_supply, Powers.charge_add_heat hle,
    fun hall => ?heaterTakesAll, fun hnone => ?noHeater⟩
  case charge => rw [Powers.charge, hsupply, hheat]
  case heaterTakesAll =>
    have htaken : p.heat = p.supply := by rw [hheat, hsupply, Nat.min_eq_right hall]
    exact Powers.charge_eq_zero htaken
  case noHeater =>
    have hunheated : p.heat = 0 := by rw [hheat, hnone, Nat.zero_min]
    exact ⟨hunheated, Powers.charge_eq_supply hunheated⟩

end Sys2Proof.Machine
end

section
/-! The level class (R97): the class of a steady level on each interval between its bounds, the class of a complete
period on each side of the low plateau's bound, and the statement about both. -/

namespace Sys2Proof.Machine

/-! ### The class of a high plateau or a steady level, in 0.1 V -/

section
variable {level : Int}

theorem classOfLevel_opened (hfrom : 100 ≤ level) : classOfLevel level = .opened := if_pos hfrom

theorem classOfLevel_connected (hfrom : 75 ≤ level) (hbelow : level < 100) : classOfLevel level = .connected := by
  rw [classOfLevel, if_neg hbelow.not_ge, if_pos hfrom]

theorem classOfLevel_requesting (hfrom : 45 ≤ level) (hbelow : level < 75) : classOfLevel level = .requesting := by
  have hbelowConnected : level < 100 := by omega
  rw [classOfLevel, if_neg hbelowConnected.not_ge, if_neg hbelow.not_ge, if_pos hfrom]

theorem classOfLevel_fault (hbelow : level < 45) : classOfLevel level = .fault := by
  have hbelowRequesting : level < 75 := by omega
  have hbelowConnected : level < 100 := by omega
  rw [classOfLevel, if_neg hbelowConnected.not_ge, if_neg hbelowRequesting.not_ge, if_neg hbelow.not_ge]

end

/-! ### The class of a complete period -/

section
variable {low : Int} (high : Int)

/-- A low plateau above −8.0 V is a fault whatever the high plateau. -/
theorem classOfPeriod_fault (habove : -80 < low) : classOfPeriod low high = .fault := if_pos habove

/-- At a good low plateau the high plateau is classed as a steady level would be. -/
theorem classOfPeriod_eq_classOfLevel (hlow : low ≤ -80) : classOfPeriod low high = classOfLevel high :=
  if_neg hlow.not_gt

end

/-- Settles O34: a low plateau above its bound decides the class alone, and otherwise period and overflow share the
intervals of the steady level. -/
theorem periodClass : Obligations.PeriodClass := by
  intro low high level
  refine ⟨classOfPeriod_fault high, fun hlow hfrom => ?opened, fun hlow hfrom hbelow => ?connected,
    fun hlow hfrom hbelow => ?requesting, fun hlow hbelow => ?fault,
    classOfLevel_opened, classOfLevel_connected, classOfLevel_requesting, classOfLevel_fault⟩
  case opened => exact (classOfPeriod_eq_classOfLevel high hlow).trans (classOfLevel_opened hfrom)
  case connected => exact (classOfPeriod_eq_classOfLevel high hlow).trans (classOfLevel_connected hfrom hbelow)
  case requesting => exact (classOfPeriod_eq_classOfLevel high hlow).trans (classOfLevel_requesting hfrom hbelow)
  case fault => exact (classOfPeriod_eq_classOfLevel high hlow).trans (classOfLevel_fault hbelow)

end Sys2Proof.Machine
end

section
/-! SUPPORT. The fields of a response as words of their width, and a mask as a word: its bits are the entries of the
list it is made from, and the bits set are the entries that hold. -/

namespace Sys2Proof.Machine

/-! ### One and two bytes of a natural number -/

theorem byte_eq (v : Nat) : byte v = [BitVec.ofNat 8 v] :=
  congrArg (fun b : Byte => [b]) (BitVec.ofInt_natCast 8 v)

/-- A field of two bytes is the number's low 16 bits, as a request carries them. -/
theorem half_eq_bytes16 (v : Nat) : half v = bytes16 (BitVec.ofNat 16 v) := by
  have hhigh : BitVec.ofInt 8 ((v : Int) / 256) = (BitVec.ofNat 16 v).extractLsb' 8 8 := by
    have hquotient : (v : Int) / 256 = (v / 256 : Nat) := by omega
    apply BitVec.eq_of_toNat_eq
    rw [hquotient, BitVec.ofInt_natCast]
    simp only [BitVec.toNat_ofNat, BitVec.extractLsb'_toNat, Nat.shiftRight_eq_div_pow]
    omega
  have hlow : BitVec.ofInt 8 (v : Int) = (BitVec.ofNat 16 v).extractLsb' 0 8 := by
    apply BitVec.eq_of_toNat_eq
    rw [BitVec.ofInt_natCast]
    simp only [BitVec.toNat_ofNat, BitVec.extractLsb'_toNat, Nat.shiftRight_zero]
    omega
  exact congrArg₂ (fun high low : Byte => [high, low]) hhigh hlow

/-! ### The bits of a mask -/

theorem mask_cons (b : Bool) (bs : List Bool) : mask (b :: bs) = Nat.bit b (mask bs) := by
  rw [mask, Nat.bit_val, Nat.add_comm]
  cases b <;> rfl

theorem testBit_mask (bs : List Bool) (k : Nat) : (mask bs).testBit k = bs.getD k false := by
  induction bs generalizing k with
  | nil => exact Nat.zero_testBit k
  | cons b bs ih =>
    rw [mask_cons]
    cases k with
    | zero => exact Nat.testBit_bit_zero b (mask bs)
    | succ k => rw [Nat.testBit_bit_succ, ih, List.getD_cons_succ]

/-- A word with a place for each entry of the list holds them all, and no other bit. -/
theorem getLsbD_ofNat_mask {w : Nat} {bs : List Bool} (hfits : bs.length ≤ w) (k : Nat) :
    (BitVec.ofNat w (mask bs)).getLsbD k = bs.getD k false := by
  rw [BitVec.getLsbD_ofNat, testBit_mask]
  by_cases hk : k < w
  · rw [decide_eq_true hk, Bool.true_and]
  · rw [decide_eq_false hk, Bool.false_and, List.getD_eq_default _ _ (by omega)]

theorem countP_range_getD {n : Nat} {bs : List Bool} (hfits : bs.length ≤ n) :
    (List.range n).countP (fun k => bs.getD k false) = bs.count true := by
  induction bs generalizing n with
  | nil => exact List.countP_eq_zero.2 fun _ _ => Bool.false_ne_true
  | cons b bs ih =>
    cases n with
    | zero => exact absurd hfits (Nat.not_succ_le_zero _)
    | succ n =>
      have hrest : (List.range n).countP ((fun k => (b :: bs).getD k false) ∘ Nat.succ) = bs.count true :=
        ih (Nat.le_of_succ_le_succ hfits)
      rw [List.range_succ_eq_map, List.countP_cons, List.countP_map, hrest, List.count_cons]
      cases b <;> rfl

/-- The bits set in a word made from a list are as many as its entries that hold. -/
theorem countP_getLsbD_ofNat_mask {w : Nat} {bs : List Bool} (hfits : bs.length ≤ w) :
    (List.range w).countP (fun k => (BitVec.ofNat w (mask bs)).getLsbD k) = bs.count true := by
  simp only [getLsbD_ofNat_mask hfits, countP_range_getD hfits]

end Sys2Proof.Machine
end

section
/-! TEST_FAULTS (R155): the filters by their code, the matching keys, the reply to a good and to a bad request, and the
statement about both. -/

namespace Sys2Proof.Machine

/-! ### The state filters and their codes -/

theorem filter?_eq_none {b : Byte} (hbad : 2 ≤ b.toNat) : filter? b = none := by
  have hzero : b ≠ 0 := by rintro rfl; exact absurd hbad (by decide)
  have hone : b ≠ 1 := by rintro rfl; exact absurd hbad (by decide)
  rw [filter?, if_neg hzero, if_neg hone]

/-- A code below 2 is a filter, and with code 1 CLEARED records match it beside the ACTIVE ones. -/
theorem filter?_matches {b : Byte} (hgood : b.toNat < 2) : ∃ t, filter? b = some t ∧
    ∀ f : FaultRecord, t.matches f = true ↔ f.state = .active ∨ (b = 1 ∧ f.state = .cleared) := by
  obtain rfl | rfl : b = 0 ∨ b = 1 := by bv_omega
  · refine ⟨.active, rfl, fun f => ?_⟩
    cases hstate : f.state <;> simp [FaultFilter.matches, hstate]
  · refine ⟨.nonFree, rfl, fun f => ?_⟩
    cases hstate : f.state <;> simp [FaultFilter.matches, FaultRecord.nonFree, hstate]

/-! ### The matching keys -/

section
variable (m : BitVec 16) (t : FaultFilter) (s : State)

@[simp] theorem matchingKeys_length : (matchingKeys m t s).length = 12 := by
  rw [matchingKeys, List.length_map, List.length_finRange]

theorem matchingKeys_getD (k : Fin 12) :
    (matchingKeys m t s).getD k.val false = (m.getLsbD k.val && t.matches (s.fault k)) := by
  simp [matchingKeys, List.getD_eq_getElem?_getD]

theorem matchingKeys_getD_of_le {k : Nat} (hbeyond : 12 ≤ k) : (matchingKeys m t s).getD k false = false :=
  List.getD_eq_default _ _ (by rwa [matchingKeys_length])

end

/-- The word that TEST_FAULTS answers: bit `k` is set when key `k` is in the mask and its record matches (R155). -/
def matchingWord (m : BitVec 16) (t : FaultFilter) (s : State) : BitVec 16 := BitVec.ofNat 16 (mask (matchingKeys m t s))

section
variable (m : BitVec 16) (t : FaultFilter) (s : State)

theorem matchingKeys_fits : (matchingKeys m t s).length ≤ 16 := by simp

theorem matchingWord_getLsbD (k : Fin 12) :
    (matchingWord m t s).getLsbD k.val = (m.getLsbD k.val && t.matches (s.fault k)) :=
  (getLsbD_ofNat_mask (matchingKeys_fits m t s) k.val).trans (matchingKeys_getD m t s k)

theorem matchingWord_getLsbD_of_le {k : Nat} (hbeyond : 12 ≤ k) : (matchingWord m t s).getLsbD k = false :=
  (getLsbD_ofNat_mask (matchingKeys_fits m t s) k).trans (matchingKeys_getD_of_le m t s hbeyond)

/-- The data of a good TEST_FAULTS: the matching word, and the number of its bits set. -/
theorem testFaults_data : half (mask (matchingKeys m t s)) ++ byte ((matchingKeys m t s).count true) =
    bytes16 (matchingWord m t s) ++
      [BitVec.ofNat 8 ((List.range 16).countP fun k => (matchingWord m t s).getLsbD k)] := by
  have hcount : (List.range 16).countP (fun k => (matchingWord m t s).getLsbD k) = (matchingKeys m t s).count true :=
    countP_getLsbD_ofNat_mask (matchingKeys_fits m t s)
  rw [hcount, half_eq_bytes16, byte_eq, matchingWord]

end

/-! ### The replies to TEST_FAULTS -/

section
variable {p : Port} {s : State} {m : BitVec 16} {filter : Byte} {t : FaultFilter}

theorem requestTestFaults_bad_mask (hbad : 4096 ≤ m.toNat) : requestTestFaults m filter s = refuse s .badValue := by
  cases hfilter : filter? filter with
  | none => rw [requestTestFaults, hfilter]
  | some t => simp only [requestTestFaults, hfilter, if_pos hbad]

theorem requestTestFaults_bad_filter (hbad : 2 ≤ filter.toNat) :
    requestTestFaults m filter s = refuse s .badValue := by
  rw [requestTestFaults, filter?_eq_none hbad]

theorem requestTestFaults_good (hmask : m.toNat < 4096) (hfilter : filter? filter = some t) :
    requestTestFaults m filter s = accept s (bytes16 (matchingWord m t s) ++
      [BitVec.ofNat 8 ((List.range 16).countP fun k => (matchingWord m t s).getLsbD k)]) := by
  simp only [requestTestFaults, hfilter, if_neg hmask.not_ge, testFaults_data]

theorem permitted_testFaults : permitted p (.testFaults m filter) = true := by cases p <;> rfl

/-- What TEST_FAULTS replies is what its command does at a ready port. -/
theorem executes_testFaults {reply : Reply} (hready : Ready p s) (hreply : requestTestFaults m filter s = reply) :
    Executes p (.testFaults m filter) reply.result reply.data s reply.state :=
  executes_of_serve hready permitted_testFaults hreply

end

/-- Settles O46: mask and filter out of range are refused, and otherwise the answer is the word of the matching keys,
whose bits are read off the mask and the records. -/
theorem testFaults : Obligations.TestFaults := by
  intro p s m filter hready
  refine ⟨fun hbad => ?bad, fun hmask hgood => ?good⟩
  case bad =>
    obtain hmask | hfilter := hbad
    · exact executes_testFaults hready (requestTestFaults_bad_mask hmask)
    · exact executes_testFaults hready (requestTestFaults_bad_filter hfilter)
  case good =>
    obtain ⟨t, hfilter, hmatches⟩ := filter?_matches hgood
    refine ⟨matchingWord m t s, executes_testFaults hready (requestTestFaults_good hmask hfilter), fun k => ?_,
      fun k hbeyond => matchingWord_getLsbD_of_le m t s hbeyond⟩
    rw [matchingWord_getLsbD, Bool.and_eq_true, hmatches]

end Sys2Proof.Machine
end

section
/-! The Attention Unit (R177, R178, R180): what a posting and a clear leave pending, when a line is active, the replies
to the three attention requests, and the statement about all of them. -/

namespace Sys2Proof.Machine

/-! ### Postings and clears (R177, R178) -/

theorem Cause.bit_lt (c : Cause) : c.bit < 10 := by cases c <;> decide

theorem Cause.set_getLsbD_bit (c : Cause) : c.set.getLsbD c.bit = true := by
  simp [Cause.set, c.bit_lt]

theorem post_pendingOf (p : Port) (c : Cause) (s : State) :
    (post c s).attention.pendingOf p = s.attention.pendingOf p ||| c.set := by cases p <;> rfl

theorem Attention.clear_pendingOf (p : Port) (m : BitVec 10) (a : Attention) :
    (a.clear p m).pendingOf p = a.pendingOf p &&& ~~~m := by cases p <;> rfl

/-- A posted cause is pending at both ports, whatever was pending before. -/
theorem post_pending (p : Port) (c : Cause) (s : State) :
    ((post c s).attention.pendingOf p).getLsbD c.bit = true := by
  rw [post_pendingOf, BitVec.getLsbD_or, c.set_getLsbD_bit, Bool.or_true]

/-- No cause of the mask is pending after a clear, whatever was pending before. -/
theorem Attention.clear_not_pending (p : Port) {m : BitVec 10} {k : Nat} (hmask : m.getLsbD k = true) (a : Attention) :
    ((a.clear p m).pendingOf p).getLsbD k = false := by
  rw [Attention.clear_pendingOf, BitVec.getLsbD_and, BitVec.getLsbD_not, hmask, Bool.not_true, Bool.and_false,
    Bool.and_false]

/-! ### The lines (R177, R180) -/

/-- A word is other than 0 when one of its bits is set. -/
theorem ne_zero_iff_getLsbD {w : Nat} {x : BitVec w} : x ≠ 0 ↔ ∃ k, x.getLsbD k = true := by
  constructor
  · contrapose!
    intro hnone
    exact BitVec.eq_of_getLsbD_eq fun k _ => by simpa using hnone k
  · rintro ⟨k, hset⟩ rfl
    simp at hset

theorem lineActive_iff {p : Port} {s : State} : lineActive p s = true ↔ s.portsStarted = true ∧
    ∃ k, (s.attention.pendingOf p).getLsbD k = true ∧ (s.attention.maskOf p).getLsbD k = true := by
  simp only [lineActive, Bool.and_eq_true, bne_iff_ne, ne_zero_iff_getLsbD, BitVec.getLsbD_and]

/-! ### The replies to the attention requests (R178) -/

section
variable {p : Port} {s : State} {m : BitVec 16}

theorem causes?_eq_none (hbad : 1024 ≤ m.toNat) : causes? m = none := if_neg hbad.not_gt

theorem causes?_eq_some (hgood : m.toNat < 1024) : causes? m = some (m.setWidth 10) := by
  rw [causes?, if_pos hgood, BitVec.ofNat_toNat]

theorem requestSetAttention_bad (hbad : 1024 ≤ m.toNat) : requestSetAttention p m s = refuse s .badValue := by
  rw [requestSetAttention, causes?_eq_none hbad]

theorem requestSetAttention_good (hgood : m.toNat < 1024) : requestSetAttention p m s =
    accept (s.setAttention (s.attention.setMask p (m.setWidth 10)))
      (attentionData p (s.setAttention (s.attention.setMask p (m.setWidth 10)))) := by
  rw [requestSetAttention, causes?_eq_some hgood]

theorem requestClearAttention_bad (hbad : 1024 ≤ m.toNat) : requestClearAttention p m s = refuse s .badValue := by
  rw [requestClearAttention, causes?_eq_none hbad]

theorem requestClearAttention_good (hgood : m.toNat < 1024) : requestClearAttention p m s =
    accept (s.setAttention (s.attention.clear p (m.setWidth 10)))
      (attentionData p (s.setAttention (s.attention.clear p (m.setWidth 10)))) := by
  rw [requestClearAttention, causes?_eq_some hgood]

theorem permitted_setAttention : permitted p (.setAttention m) = true := by cases p <;> rfl
theorem permitted_readAttention : permitted p .readAttention = true := by cases p <;> rfl
theorem permitted_clearAttention : permitted p (.clearAttention m) = true := by cases p <;> rfl

/-- What SET_ATTENTION replies is what its command does at a ready port. -/
theorem executes_setAttention {reply : Reply} (hready : Ready p s) (hreply : requestSetAttention p m s = reply) :
    Executes p (.setAttention m) reply.result reply.data s reply.state :=
  executes_of_serve hready permitted_setAttention hreply

/-- READ_ATTENTION at a ready port answers the port's data and changes nothing. -/
theorem executes_readAttention (hready : Ready p s) : Executes p .readAttention .ok (attentionData p s) s s :=
  executes_of_serve (reply := accept s (attentionData p s)) hready permitted_readAttention rfl

/-- What CLEAR_ATTENTION replies is what its command does at a ready port. -/
theorem executes_clearAttention {reply : Reply} (hready : Ready p s) (hreply : requestClearAttention p m s = reply) :
    Executes p (.clearAttention m) reply.result reply.data s reply.state :=
  executes_of_serve hready permitted_clearAttention hreply

end

/-- Settles O48: a posting and the lines by the rules above, each request by its reply at a ready port, and the two
orders of a posting and a clear by what the later of the two leaves pending. -/
theorem attentionRequests : Obligations.AttentionRequests := by
  refine ⟨fun c s => rfl, fun s => ⟨lineActive_iff, lineActive_iff⟩, fun p s m hready => ?requests,
    fun p c m a s hmask _ => ⟨Attention.clear_not_pending p hmask _, post_pending p c _⟩⟩
  intro data masked cleared
  have hdata : attentionData p = data := by cases p <;> rfl
  have hmasked : s.setAttention (s.attention.setMask p (m.setWidth 10)) = masked := by cases p <;> rfl
  have hcleared : s.setAttention (s.attention.clear p (m.setWidth 10)) = cleared := by cases p <;> rfl
  rw [← hdata, ← hmasked, ← hcleared]
  exact ⟨executes_readAttention hready,
    fun hbad => ⟨executes_setAttention hready (requestSetAttention_bad hbad),
      executes_clearAttention hready (requestClearAttention_bad hbad)⟩,
    fun hgood => ⟨executes_setAttention hready (requestSetAttention_good hgood),
      executes_clearAttention hready (requestClearAttention_good hgood)⟩⟩

end Sys2Proof.Machine
end

section
/-! SUPPORT. What one step can do: the part of the state behind the ports moves by at most one request or one event,
whatever the ports do around it. Every invariant of the blocks is derived from this one case distinction. -/

namespace Sys2Proof.Machine

/-! ### The blocks behind the ports -/

/-- Two states with the same nine blocks behind the ports: sessions, accounts, tariff, meter, supply, planner, heating,
isolation and localizer. -/
def SameBlocks (s t : State) : Prop :=
  ∃ attention started control billing choices count pending, t = { s with
    attention := attention, portsStarted := started, control := control, billing := billing, choices := choices
    freeCount := count, pending := pending }

@[refl] theorem SameBlocks.refl (s : State) : SameBlocks s s := ⟨_, _, _, _, _, _, _, rfl⟩

theorem SameBlocks.trans {s t u : State} : SameBlocks s t → SameBlocks t u → SameBlocks s u := by
  rintro ⟨_, _, _, _, _, _, _, rfl⟩ ⟨_, _, _, _, _, _, _, rfl⟩
  exact ⟨_, _, _, _, _, _, _, rfl⟩

theorem sameBlocks_setAttention (s : State) (v : Attention) : SameBlocks s (s.setAttention v) := ⟨_, _, _, _, _, _, _, rfl⟩
theorem sameBlocks_setStarted (s : State) (v : Bool) : SameBlocks s (s.setStarted v) := ⟨_, _, _, _, _, _, _, rfl⟩
theorem sameBlocks_setControl (s : State) (v : ControlPort) : SameBlocks s (s.setControl v) := ⟨_, _, _, _, _, _, _, rfl⟩
theorem sameBlocks_setBilling (s : State) (v : BillingPort) : SameBlocks s (s.setBilling v) := ⟨_, _, _, _, _, _, _, rfl⟩
theorem sameBlocks_setFreeCount (s : State) (v : Nat) : SameBlocks s (s.setFreeCount v) := ⟨_, _, _, _, _, _, _, rfl⟩
theorem sameBlocks_setPending (s : State) (v : List Instr) : SameBlocks s (s.setPending v) := ⟨_, _, _, _, _, _, _, rfl⟩
theorem sameBlocks_post (c : Cause) (s : State) : SameBlocks s (post c s) := sameBlocks_setAttention s _
theorem sameBlocks_dropChoice (s : State) : SameBlocks s (dropChoice s) := ⟨_, _, _, _, _, _, _, rfl⟩

/-! ### The one move of a step -/

/-- What a step does to the blocks: nothing, one request taken by its owner, a reset, the passing of time, or one event
of the links, the Offer Line or the minute timer. -/
inductive Move : State → State → Prop
  | nothing (s) : Move s s
  | served (p r s) : Move s (serve p s r).state
  | warmReset (s) : Move s (warmReset s)
  | powerOn (s) : Move s (powerOnState s)
  | time (us s) : Move s (passTime us s)
  | frameSync (s) : Move s (takeFrameSync s)
  | dataWord (w s) : Move s (takeDataWord w s)
  | overdue (us s) : Move s (takeOverdue (passTime us s))
  | lostExpiry (us s) : Move s (takeLostExpiry (passTime us s))
  | risingEdge (us w s) : Move s (takeRisingEdge w (passTime us s))
  | fallingEdge (us w s) : Move s (takeFallingEdge w (passTime us s))
  | overflow (us w s) : Move s (takeOverflow w (passTime us s))
  | minute (us s) : Move s (takeMinute (passTime us s))

/-- One move of the blocks, with anything done at the ports before and after it. -/
def MovesOnce (s t : State) : Prop := ∃ u v, SameBlocks s u ∧ Move u v ∧ SameBlocks v t

theorem SameBlocks.movesOnce {s t : State} (h : SameBlocks s t) : MovesOnce s t := ⟨s, s, .refl s, .nothing s, h⟩

theorem Move.movesOnce {s t : State} (h : Move s t) : MovesOnce s t := ⟨s, t, .refl s, h, .refl t⟩

theorem MovesOnce.after {s t u : State} (h : SameBlocks s t) : MovesOnce t u → MovesOnce s u := by
  rintro ⟨v, w, hv, hm, hw⟩
  exact ⟨v, w, h.trans hv, hm, hw⟩

theorem MovesOnce.before {s t u : State} (h : SameBlocks t u) : MovesOnce s t → MovesOnce s u := by
  rintro ⟨v, w, hv, hm, hw⟩
  exact ⟨v, w, hv, hm, hw.trans h⟩

/-- A predicate of the blocks that every move keeps is kept by `MovesOnce`. -/
theorem MovesOnce.keeps {P : State → Prop} {s t : State} (hsame : ∀ {u v}, SameBlocks u v → P u → P v)
    (hmove : ∀ {u v}, Move u v → P u → P v) : MovesOnce s t → P s → P t := by
  rintro ⟨u, v, hu, hm, hv⟩ hs
  exact hsame hv (hmove hm (hsame hu hs))

/-! ### Ports -/

theorem answer_movesOnce (p : Port) (r : Request) (s : State) : MovesOnce s (answer p r s).state := by
  unfold answer
  split
  · exact (Move.served p r s).movesOnce
  · exact (SameBlocks.refl s).movesOnce

theorem sameBlocks_shiftFillers (n : Nat) (s : State) : SameBlocks s (shiftFillers n s) := sameBlocks_setControl s _
theorem sameBlocks_placeResponse (r : Response) (s : State) : SameBlocks s (placeResponse r s) := sameBlocks_setControl s _
theorem sameBlocks_markOverrun (s : State) : SameBlocks s (markOverrun s) := sameBlocks_setControl s _
theorem sameBlocks_transmit (r : Response) (s : State) : SameBlocks s (transmit r s) := sameBlocks_setBilling s _

theorem sameBlocks_fetchTransaction (n : Nat) (s : State) : SameBlocks s (fetchTransaction n s) := by
  unfold fetchTransaction
  split
  · exact .refl s
  · split
    · exact sameBlocks_shiftFillers n s
    · exact sameBlocks_setControl s _

theorem controlFrame_movesOnce (bytes : List Byte) (s : State) : MovesOnce s (controlFrame bytes s) := by
  unfold controlFrame
  split
  · exact (sameBlocks_placeResponse _ s).movesOnce
  · exact (answer_movesOnce .cp _ s).before (sameBlocks_placeResponse _ _)

theorem requestTransaction_movesOnce (bytes : List Byte) (s : State) : MovesOnce s (requestTransaction bytes s) := by
  unfold requestTransaction
  split
  · exact (SameBlocks.refl s).movesOnce
  · split
    · exact (sameBlocks_fetchTransaction _ s).movesOnce
    · split
      · exact (sameBlocks_shiftFillers _ s).movesOnce
      · split
        · exact ((sameBlocks_markOverrun s).trans (sameBlocks_shiftFillers _ _)).movesOnce
        · exact (controlFrame_movesOnce _ s).before (sameBlocks_shiftFillers _ _)

/-- An item taken on the Billing Port moves the blocks at most once, and its response is going out after it. -/
theorem takeItem_movesOnce (i : BillingItem) (s : State) :
    MovesOnce s (takeItem i s) ∧ (takeItem i s).billing.sending.isSome = true := by
  unfold takeItem
  split
  · exact ⟨(sameBlocks_transmit _ s).movesOnce, rfl⟩
  · split
    · exact ⟨(sameBlocks_transmit _ s).movesOnce, rfl⟩
    · exact ⟨(answer_movesOnce .bp _ s).before (sameBlocks_transmit _ _), rfl⟩

/-- An item that completes moves the blocks at most once, and not at all behind a transmission; a response is going out
after it. -/
theorem completeItem_movesOnce (i : BillingItem) (s : State) :
    MovesOnce s (completeItem i s) ∧ (completeItem i s).billing.sending.isSome = true ∧
    (s.billing.sending.isSome = true → SameBlocks s (completeItem i s)) := by
  unfold completeItem
  cases hsending : s.billing.sending with
  | none => exact ⟨(takeItem_movesOnce i s).1, (takeItem_movesOnce i s).2, fun h => absurd h (by simp)⟩
  | some sent =>
    have hstill : s.billing.sending.isSome = true := by rw [hsending]; rfl
    dsimp only
    split
    · exact ⟨(sameBlocks_setBilling s _).movesOnce, hstill, fun _ => sameBlocks_setBilling s _⟩
    · exact ⟨(sameBlocks_setBilling s _).movesOnce, hstill, fun _ => sameBlocks_setBilling s _⟩

/-- What a port operation does: it leaves the blocks, or moves them once with nothing in transmission before and a
response going out after it. -/
def BillingMove (s t : State) : Prop :=
  (SameBlocks s t ∧ (s.billing.sending.isSome = true → t.billing.sending.isSome = true)) ∨
  (s.billing.sending = none ∧ MovesOnce s t ∧ t.billing.sending.isSome = true)

theorem BillingMove.movesOnce {s t : State} : BillingMove s t → MovesOnce s t
  | .inl h => h.1.movesOnce
  | .inr h => h.2.1

theorem BillingMove.trans {s t u : State} (hst : BillingMove s t) (htu : BillingMove t u) : BillingMove s u := by
  obtain ⟨hsame, hsending⟩ | ⟨hnone, hmove, hsome⟩ := hst
  · obtain ⟨hsame', hsending'⟩ | ⟨hnone', hmove', hsome'⟩ := htu
    · exact .inl ⟨hsame.trans hsame', hsending' ∘ hsending⟩
    · refine .inr ⟨Option.not_isSome_iff_eq_none.1 fun h => ?_, hmove'.after hsame, hsome'⟩
      simpa [hnone'] using hsending h
  · obtain ⟨hsame', hsending'⟩ | ⟨hnone', -⟩ := htu
    · exact .inr ⟨hnone, hmove.before hsame', hsending' hsome⟩
    · simp [hnone'] at hsome

theorem billingMove_setBilling {s : State} {b : BillingPort} (hsending : b.sending = s.billing.sending) :
    BillingMove s (s.setBilling b) :=
  .inl ⟨sameBlocks_setBilling s b, fun h => by simpa [hsending] using h⟩

theorem completeItem_billingMove (i : BillingItem) (s : State) : BillingMove s (completeItem i s) := by
  obtain ⟨hmove, hsome, hsame⟩ := completeItem_movesOnce i s
  by_cases hsending : s.billing.sending = none
  · exact .inr ⟨hsending, hmove, hsome⟩
  · exact .inl ⟨hsame (Option.isSome_iff_ne_none.2 hsending), fun _ => hsome⟩

theorem discardFrame_billingMove (ws : List Byte) (s : State) : BillingMove s (discardFrame ws s) :=
  (billingMove_setBilling (by rfl)).trans (completeItem_billingMove _ _)

theorem addByte_billingMove (ws : List Byte) (s : State) : BillingMove s (addByte ws s) := by
  unfold addByte
  dsimp only
  split
  · exact discardFrame_billingMove ws s
  · split
    · exact (billingMove_setBilling (by rfl)).trans (completeItem_billingMove _ _)
    · exact billingMove_setBilling (by rfl)

theorem takeByte_billingMove (s : State) (b : Byte) : BillingMove s (takeByte s b) := by
  unfold takeByte
  split
  · exact .inl ⟨.refl s, id⟩
  · exact addByte_billingMove _ s

theorem foldl_takeByte_billingMove (bytes : List Byte) (s : State) : BillingMove s (bytes.foldl takeByte s) := by
  induction bytes generalizing s with
  | nil => exact .inl ⟨.refl s, id⟩
  | cons b rest ih => exact (takeByte_billingMove s b).trans (ih _)

theorem takeFramingError_movesOnce (s : State) : MovesOnce s (takeFramingError s) := by
  unfold takeFramingError
  split
  · exact (SameBlocks.refl s).movesOnce
  · split
    · exact (discardFrame_billingMove _ s).movesOnce
    · exact (SameBlocks.refl s).movesOnce

theorem endTransmission_movesOnce (s : State) : MovesOnce s (endTransmission s) := by
  unfold endTransmission
  split
  · exact (SameBlocks.refl s).movesOnce
  · dsimp only
    split
    · exact (sameBlocks_setBilling s _).movesOnce
    · exact (takeItem_movesOnce _ _).1.after ((sameBlocks_setBilling s _).trans (sameBlocks_setBilling _ _))

theorem takeRequest_movesOnce (p : Port) (r : Request) (s : State) : MovesOnce s (takeRequest p r s) := by
  cases p with
  | cp =>
    show MovesOnce s (controlRequest r s)
    unfold controlRequest
    split
    · exact (sameBlocks_shiftFillers _ s).movesOnce
    · split
      · exact ((sameBlocks_markOverrun s).trans (sameBlocks_shiftFillers _ _)).movesOnce
      · exact (answer_movesOnce .cp r s).before ((sameBlocks_placeResponse _ _).trans (sameBlocks_shiftFillers _ _))
  | bp =>
    show MovesOnce s (billingFrame r s)
    unfold billingFrame
    split
    · exact (answer_movesOnce .bp r s).before (sameBlocks_transmit _ _)
    · exact (foldl_takeByte_billingMove _ s).movesOnce

theorem sameBlocks_completeStart (s : State) : SameBlocks s (completeStart s) := by
  unfold completeStart
  split
  · exact .refl s
  · exact ⟨_, _, _, _, _, _, _, rfl⟩

/-! ### Commands and steps -/

/-- A command moves the blocks at most once. -/
theorem exec_movesOnce {c : Instr} {s t : State} (h : exec c s = .next t) : MovesOnce s t := by
  cases c <;> obtain rfl := Host.Outcome.next.inj h
  case powerOn => exact (Move.powerOn s).movesOnce
  case portStartComplete => exact (sameBlocks_completeStart s).movesOnce
  case resetAssertion => exact (Move.warmReset s).movesOnce
  case frameSync => exact (Move.frameSync s).movesOnce
  case dataWord w => exact (Move.dataWord w s).movesOnce
  case overdueExpiry => exact (Move.overdue _ s).movesOnce
  case lostTimerExpiry => exact (Move.lostExpiry _ s).movesOnce
  case risingEdge us w => exact (Move.risingEdge us w s).movesOnce
  case fallingEdge us w => exact (Move.fallingEdge us w s).movesOnce
  case captureOverflow w => exact (Move.overflow _ w s).movesOnce
  case minuteEvent => exact (Move.minute _ s).movesOnce
  case cpRequestTransaction bytes => exact requestTransaction_movesOnce bytes s
  case cpFetchTransaction n => exact (sameBlocks_fetchTransaction n s).movesOnce
  case bpByteReceived b => exact (takeByte_billingMove s b).movesOnce
  case bpFramingError => exact takeFramingError_movesOnce s
  case bpGapTimeout => exact (sameBlocks_setBilling s _).movesOnce
  case bpTransmissionEnd => exact endTransmission_movesOnce s
  all_goals exact takeRequest_movesOnce _ _ s

/-- A step moves the blocks at most once. -/
theorem step_movesOnce {s t : State} (h : step s = .next t) : MovesOnce s t := by
  unfold step idle at h
  split at h
  · split at h
    · obtain rfl := Host.Outcome.next.inj h
      exact (Move.time 1 s).movesOnce
    · exact (exec_movesOnce h).after (sameBlocks_setFreeCount s _)
    · exact (exec_movesOnce h).after (sameBlocks_setFreeCount s _)
  · exact (exec_movesOnce h).after (sameBlocks_setPending s _)

/-- A predicate of the blocks that every move keeps is kept by every step. -/
theorem step_keeps {P : State → Prop} {s t : State} (hsame : ∀ {u v}, SameBlocks u v → P u → P v)
    (hmove : ∀ {u v}, Move u v → P u → P v) (h : step s = .next t) : P s → P t :=
  (step_movesOnce h).keeps hsame hmove

end Sys2Proof.Machine
end

section
/-! SUPPORT. The Localizer's own operations: between its steps no zone is marked, and each step, verdict and abort leaves
the localizer record sound (R159, R162 to R167). -/

namespace Sys2Proof.Machine

/-! ### What the record's soundness reads -/

/-- The localizer record, the dwell setting and the marks of the zones are the same. -/
structure LocalKept (s t : State) : Prop where
  record : t.localizer = s.localizer
  dwell : t.isolation.settings.dwell = s.isolation.settings.dwell
  marks : ∀ z, (t.zone z).underTest = (s.zone z).underTest

@[refl] theorem LocalKept.refl (s : State) : LocalKept s s := ⟨rfl, rfl, fun _ => rfl⟩

theorem LocalKept.trans {s t u : State} (h : LocalKept s t) (h' : LocalKept t u) : LocalKept s u :=
  ⟨h'.record.trans h.record, h'.dwell.trans h.dwell, fun z => (h'.marks z).trans (h.marks z)⟩

theorem LocalKept.of_eq {s t : State} (hrecord : t.localizer = s.localizer)
    (hsettings : t.isolation.settings = s.isolation.settings) (hheating : t.heating = s.heating) : LocalKept s t :=
  ⟨hrecord, by rw [hsettings], fun z => by rw [State.zone, hheating]; rfl⟩

/-- The ranges of the step length and of the dwell setting (R143, R159). -/
def DwellRanges (s : State) : Prop :=
  8 ≤ s.localizer.stepLength ∧ s.localizer.stepLength ≤ 64 ∧
  8 ≤ s.isolation.settings.dwell ∧ s.isolation.settings.dwell ≤ 64

/-- Exactly the zone that is the suspect carries the mark (R138). -/
def MarkExact (s : State) : Prop := ∀ z, (s.zone z).underTest = true ↔ s.localizer.suspect = some (.zone z)

/-- The record while a suspect is under test, whatever its dwell count. -/
structure Testing (s : State) : Prop where
  target : s.localizer.target.isSome = true
  suspect : s.localizer.suspect.isSome = true
  stack : s.localizer.stack.Nodup
  fresh : ∀ x ∈ s.localizer.suspect, x ∉ s.localizer.stack
  readings : s.localizer.readings.length ≤ 4
  ranges : DwellRanges s
  marks : MarkExact s

/-- The record between two steps: a target, no suspect, no mark. -/
structure BetweenSteps (s : State) : Prop where
  target : s.localizer.target.isSome = true
  suspect : s.localizer.suspect = none
  stack : s.localizer.stack.Nodup
  ranges : DwellRanges s
  marks : ∀ z, (s.zone z).underTest = false

theorem localizerSound_of_idle {s : State} (hstate : s.localizer.state = .idle) (htarget : s.localizer.target = none)
    (hsuspect : s.localizer.suspect = none) (hcount : s.localizer.dwellCount = 0) (hreadings : s.localizer.readings = [])
    (hstack : s.localizer.stack = []) (hranges : DwellRanges s) (hmarks : ∀ z, (s.zone z).underTest = false) :
    LocalizerSound s := by
  obtain ⟨hlow, hhigh, hdwell⟩ := hranges
  rw [LocalizerSound, hstate, hreadings]
  refine ⟨⟨htarget, hsuspect, hcount, rfl, hstack⟩, Nat.zero_le 4, hlow, hhigh, hdwell.1, hdwell.2, fun z => ?_⟩
  rw [hmarks, hsuspect]
  exact iff_of_false Bool.false_ne_true nofun

theorem Testing.localizerSound {s : State} (h : Testing s) (hstate : s.localizer.state = .dwell)
    (hcount : s.localizer.dwellCount < s.localizer.stepLength) : LocalizerSound s := by
  obtain ⟨hlow, hhigh, hdwell⟩ := h.ranges
  rw [LocalizerSound, hstate]
  exact ⟨⟨h.target, h.suspect, hcount, h.stack, h.fresh⟩, h.readings, hlow, hhigh, hdwell.1, hdwell.2, h.marks⟩

section
variable {s : State} (h : LocalizerSound s)
include h

theorem LocalizerSound.testing (hstate : s.localizer.state = .dwell) : Testing s := by
  rw [LocalizerSound, hstate] at h
  obtain ⟨⟨htarget, hsuspect, -, hstack, hfresh⟩, hreadings, hlow, hhigh, hdwell, hdwell', hmarks⟩ := h
  exact ⟨htarget, hsuspect, hstack, hfresh, hreadings, ⟨hlow, hhigh, hdwell, hdwell'⟩, hmarks⟩

theorem LocalizerSound.ranges : DwellRanges s := by
  obtain ⟨-, -, hlow, hhigh, hdwell, hdwell', -⟩ := h
  exact ⟨hlow, hhigh, hdwell, hdwell'⟩

theorem LocalizerSound.markExact : MarkExact s := by
  obtain ⟨-, -, -, -, -, -, hmarks⟩ := h
  exact hmarks

theorem LocalizerSound.unmarked (hstate : s.localizer.state = .idle) (z : Fin 6) : (s.zone z).underTest = false := by
  have hnone : s.localizer.suspect = none := by
    rw [LocalizerSound, hstate] at h
    exact h.1.2.1
  exact Bool.eq_false_iff.2 fun hmark => by simpa [hnone] using (h.markExact z).1 hmark

end

/-- The record stays sound where it, the setting's range and the marks stay. -/
theorem LocalizerSound.of_marks {s t : State} (h : LocalizerSound s) (hrecord : t.localizer = s.localizer)
    (hdwell : 8 ≤ t.isolation.settings.dwell ∧ t.isolation.settings.dwell ≤ 64)
    (hmarks : ∀ z, (t.zone z).underTest = (s.zone z).underTest) : LocalizerSound t := by
  obtain ⟨hstate, hreadings, hlow, hhigh, -, -, hexact⟩ := h
  rw [LocalizerSound, hrecord]
  exact ⟨hstate, hreadings, hlow, hhigh, hdwell.1, hdwell.2, fun z => by rw [hmarks]; exact hexact z⟩

theorem LocalKept.localizerSound {s t : State} (h : LocalKept s t) (hs : LocalizerSound s) : LocalizerSound t :=
  hs.of_marks h.record (by rw [h.dwell]; exact hs.ranges.2.2) h.marks

theorem DwellRanges.of_same {s t : State} (h : DwellRanges s) (hstep : t.localizer.stepLength = s.localizer.stepLength)
    (hdwell : t.isolation.settings.dwell = s.isolation.settings.dwell) : DwellRanges t := by
  rw [DwellRanges, hstep, hdwell]
  exact h

/-! ### Marks -/

theorem setZone_marks {s : State} {z : Fin 6} {r : Zone} (h : r.underTest = (s.zone z).underTest) (y : Fin 6) :
    ((s.setZone z r).zone y).underTest = (s.zone y).underTest := by
  rw [State.setZone_at]
  split
  · next hzy => exact hzy ▸ h
  · rfl

theorem recomputeDemand_marks (z y : Fin 6) (s : State) :
    ((recomputeDemand z s).zone y).underTest = (s.zone y).underTest := setZone_marks (by rfl) y

theorem withdrawZoneAtOnce_marks (z y : Fin 6) (s : State) :
    ((withdrawZoneAtOnce z s).zone y).underTest = (s.zone y).underTest :=
  setZone_marks (s := s.setPlanner (s.planner.withdrawAtOnce z)) (by rfl) y

theorem putUnderTest_marks (z y : Fin 6) (s : State) :
    ((putUnderTest z s).zone y).underTest = if z = y then true else (s.zone y).underTest := by
  rw [putUnderTest, withdrawZoneAtOnce_marks, recomputeDemand_marks, State.setZone_at]
  split <;> rfl

theorem clearUnderTest_marks (z y : Fin 6) (s : State) :
    ((clearUnderTest z s).zone y).underTest = if z = y then false else (s.zone y).underTest := by
  rw [clearUnderTest, recomputeDemand_marks, State.setZone_at]
  split <;> rfl

theorem excludeZone_kept (z : Fin 6) (s : State) : LocalKept s (excludeZone z s) := by
  unfold excludeZone
  split
  · rfl
  · refine ⟨by simp, by simp, fun y => ?_⟩
    rw [withdrawZoneAtOnce_marks]
    exact setZone_marks (s := s) (by rfl) y

theorem writeVerdict_kept (rail : Rail) (v : Verdict) (s : State) : LocalKept s (writeVerdict rail v s) :=
  .of_eq (by simp) (by simp [writeVerdict, State.setFault]) (by simp)

/-! ### Releases and verdicts -/

/-- A release clears the mark of the suspect and names none (R164, R167). -/
theorem releaseSuspect_record (s : State) : (releaseSuspect s).localizer = { s.localizer with suspect := none } := by
  unfold releaseSuspect
  split <;> simp

theorem releaseSuspect_unmarked {s : State} (h : MarkExact s) (y : Fin 6) :
    ((releaseSuspect s).zone y).underTest = false := by
  have hnone (hy : s.localizer.suspect ≠ some (.zone y)) : (s.zone y).underTest = false :=
    Bool.eq_false_iff.2 fun hmark => hy ((h y).1 hmark)
  unfold releaseSuspect
  split
  · next z hz =>
    refine (clearUnderTest_marks z y s).trans ?_
    split
    · rfl
    · next hne => exact hnone (by rw [hz]; simpa using hne)
  · next hz => exact hnone (by rw [hz]; simp)
  · next hz => exact hnone (by rw [hz]; simp)

theorem Testing.released {s : State} (h : Testing s) : BetweenSteps (releaseSuspect s) := by
  have hrecord := releaseSuspect_record s
  refine ⟨by rw [hrecord]; exact h.target, by rw [hrecord], by rw [hrecord]; exact h.stack, ?_, releaseSuspect_unmarked h.marks⟩
  exact h.ranges.of_same (by rw [hrecord]) (by simp)

/-- A verdict is written, takes its effect, and the record returns to IDLE (R165). -/
theorem deliverVerdict_eq (v : Verdict) (s : State) : ∃ u, LocalKept s u ∧
    deliverVerdict v s = post .localizeDone ((verdictEffect v u).setLocalizer ((verdictEffect v u).localizer.ended v)) := by
  unfold deliverVerdict
  split
  · exact ⟨_, writeVerdict_kept _ v s, rfl⟩
  · exact ⟨_, .refl s, rfl⟩

/-- An effect of a verdict leaves step length and dwell setting. -/
theorem verdictEffect_ranges {s : State} (v : Verdict) (h : DwellRanges s) : DwellRanges (verdictEffect v s) := by
  refine h.of_same ?_ ?_
  · cases v <;> simp only [verdictEffect, releaseSuspect_record]
    simp
  · cases v with
    | zone z =>
      have hsame : (verdictEffect (.zone z) s).isolation = (excludeZone z s).isolation := by simp [verdictEffect]
      rw [hsame, (excludeZone_kept z s).dwell]
    | charger => rfl
    | packSide => rfl
    | unresolved => simp [verdictEffect]

/-- A verdict whose effect leaves no zone marked leaves the record sound (R165). -/
theorem deliverVerdict_sound {v : Verdict} {s : State} (hranges : DwellRanges s)
    (hmarks : ∀ u, LocalKept s u → ∀ z, ((verdictEffect v u).zone z).underTest = false) :
    LocalizerSound (deliverVerdict v s) := by
  obtain ⟨u, hkept, heq⟩ := deliverVerdict_eq v s
  rw [heq]
  have hu : DwellRanges u := hranges.of_same (by rw [hkept.record]) hkept.dwell
  exact localizerSound_of_idle rfl rfl rfl rfl rfl rfl (verdictEffect_ranges v hu) (hmarks u hkept)

theorem MarkExact.of_kept {s t : State} (h : MarkExact s) (hkept : LocalKept s t) : MarkExact t :=
  fun z => by rw [hkept.marks, hkept.record]; exact h z

/-- The verdict that the suspect under test names (R164). -/
theorem deliverVerdict_suspect_sound {s : State} {x : Suspect} (hranges : DwellRanges s) (hmarks : MarkExact s)
    (hsuspect : s.localizer.suspect = some x) : LocalizerSound (deliverVerdict x.verdict s) := by
  refine deliverVerdict_sound hranges fun u hkept y => ?_
  have hmark := (hmarks.of_kept hkept) y
  rw [hkept.record, hsuspect] at hmark
  have hunmarked (hne : x ≠ .zone y) : (u.zone y).underTest = false := Bool.eq_false_iff.2 fun h =>
    hne (Option.some.inj (hmark.1 h))
  cases x with
  | charger => exact hunmarked Suspect.noConfusion
  | zone z =>
    refine (clearUnderTest_marks z y _).trans ?_
    split
    · rfl
    · next hne => rw [(excludeZone_kept z u).marks]; exact hunmarked fun h => hne (Suspect.zone.inj h)

theorem abortDwell_sound {s : State} (h : LocalizerSound s) : LocalizerSound (abortDwell s) := by
  unfold abortDwell
  split
  · exact deliverVerdict_sound h.ranges fun u hkept => releaseSuspect_unmarked (h.markExact.of_kept hkept)
  · exact h

/-! ### Steps -/

/-- The first step on a suspect that is not in the stack below it (R162). -/
theorem beginStep_sound {s : State} {x : Suspect} {rest : List Suspect} (h : BetweenSteps s) (hrest : rest.Nodup)
    (hfresh : x ∉ rest) : LocalizerSound (beginStep x rest s) := by
  obtain ⟨-, -, hdwell⟩ := h.ranges
  have hpositive : 0 < s.isolation.settings.dwell := Nat.lt_of_lt_of_le (by decide) hdwell.1
  have hrecord : (beginStep x rest s).localizer = { s.localizer with
      state := .dwell, suspect := some x, stack := rest, dwellCount := 0, readings := []
      stepLength := s.isolation.settings.dwell } := by cases x <;> simp [beginStep]
  have hsettings : (beginStep x rest s).isolation = s.isolation := by cases x <;> simp [beginStep]
  refine Testing.localizerSound ⟨?_, ?_, ?_, ?_, ?_, ?_, fun y => ?_⟩ ?_ ?_
  · rw [hrecord]; exact h.target
  · rw [hrecord]; rfl
  · rw [hrecord]; exact hrest
  · rw [hrecord]
    rintro y hy
    exact Option.some.inj hy ▸ hfresh
  · rw [hrecord]; exact Nat.zero_le 4
  · rw [DwellRanges, hrecord, hsettings]; exact ⟨hdwell.1, hdwell.2, hdwell⟩
  · rw [hrecord]
    cases x with
    | charger =>
      have hmark : ((beginStep .charger rest s).zone y).underTest = false := h.marks y
      rw [hmark]
      exact iff_of_false Bool.false_ne_true (by simp)
    | zone z =>
      rw [show ((beginStep (.zone z) rest s).zone y).underTest = if z = y then true else (s.zone y).underTest from
        putUnderTest_marks z y _, h.marks]
      simp
  · rw [hrecord]
  · rw [hrecord]; exact hpositive

/-- Suspects are taken from the top until one can be tested (R162). -/
theorem takeSuspect_sound {stack : List Suspect} {s : State} (h : BetweenSteps s) (hstack : stack.Nodup) :
    LocalizerSound (takeSuspect stack s) := by
  induction stack with
  | nil =>
    refine deliverVerdict_sound ?_ fun u hkept z => ?_
    · exact h.ranges
    · exact (hkept.marks z).trans (h.marks z)
  | cons x below ih =>
    obtain ⟨hfresh, hbelow⟩ := List.nodup_cons.1 hstack
    unfold takeSuspect
    split
    · exact beginStep_sound h (List.nodup_reverse.2 hbelow) (by simpa using hfresh)
    · exact ih hbelow

theorem nextStep_sound {s : State} (h : BetweenSteps s) : LocalizerSound (nextStep s) :=
  takeSuspect_sound h (List.nodup_reverse.2 h.stack)

theorem advanceSuspect_sound {s : State} (h : Testing s) : LocalizerSound (advanceSuspect s) := nextStep_sound h.released

theorem suspectStack_nodup (s : State) : (suspectStack s).Nodup := by
  have hzones : (((List.finRange 6).filter fun z => 0 < (s.zone z).granted).map Suspect.zone).Nodup :=
    ((List.nodup_finRange 6).filter _).map fun _ _ h => Suspect.zone.inj h
  unfold suspectStack
  split
  · exact List.nodup_cons.2 ⟨by simp, hzones⟩
  · exact hzones

/-- A localization starts while the Localizer is IDLE (R160, R161). -/
theorem startLocalization_sound {s : State} (rail : Rail) (h : LocalizerSound s) (hidle : s.localizer.state = .idle) :
    LocalizerSound (startLocalization rail s) := by
  have hsuspect : s.localizer.suspect = none := by
    rw [LocalizerSound, hidle] at h
    exact h.1.2.1
  exact nextStep_sound ⟨rfl, hsuspect, suspectStack_nodup s, h.ranges, h.unmarked hidle⟩

theorem warningConfirmed_sound {s : State} (rail : Rail) (h : LocalizerSound s) :
    LocalizerSound (warningConfirmed rail s) := by
  unfold warningConfirmed
  split
  · next hidle => exact startLocalization_sound rail h hidle.2
  · exact h

theorem localizerSessionLeft_sound {s : State} (h : LocalizerSound s) : LocalizerSound (localizerSessionLeft s) := by
  unfold localizerSessionLeft
  split
  · next hdwell => exact advanceSuspect_sound (h.testing hdwell.1)
  · exact h

theorem localizerZoneOff_sound {s : State} (z : Fin 6) (h : LocalizerSound s) : LocalizerSound (localizerZoneOff z s) := by
  unfold localizerZoneOff
  split
  · next hdwell => exact advanceSuspect_sound (h.testing hdwell.1)
  · exact h

/-! ### Frames -/

/-- A reading is counted, the last four kept (R163). -/
theorem Testing.counted {s : State} (h : Testing s) (reading : Nat) :
    Testing (s.setLocalizer (s.localizer.counted reading)) := by
  refine ⟨h.target, h.suspect, h.stack, h.fresh, ?_, h.ranges, h.marks⟩
  show ((s.localizer.readings ++ [reading]).drop ((s.localizer.readings ++ [reading]).length - 4)).length ≤ 4
  rw [List.length_drop]
  omega

theorem evaluateStep_sound {s : State} (h : Testing s) : LocalizerSound (evaluateStep s) := by
  obtain ⟨x, hsuspect⟩ := Option.isSome_iff_exists.1 h.suspect
  simp only [evaluateStep, hsuspect]
  split
  · exact deliverVerdict_suspect_sound h.ranges h.marks hsuspect
  · exact advanceSuspect_sound h

theorem localizerFrame_sound {s : State} (f : MeterFrame) (h : LocalizerSound s) : LocalizerSound (localizerFrame f s) := by
  unfold localizerFrame
  split
  · next rail hdwell _ =>
    split
    · have hcounted := (h.testing hdwell).counted (f.reading rail)
      dsimp only
      split
      · exact evaluateStep_sound hcounted
      · next hshort => exact hcounted.localizerSound hdwell (Nat.lt_of_not_le hshort)
    · exact h
  · exact h

end Sys2Proof.Machine
end

section
/-! SUPPORT. What the shared operations of the blocks do, said once as a closure of a few moves: how a plan is cut and
withdrawn, and how sessions, accounts, zones, Localizer and Isolation Monitor act on each other. Each operation lies in
the closure, so an invariant is checked at the moves alone. -/

namespace Sys2Proof.Machine

/-! ### Withdrawals from a plan (R119 to R123) -/

/-- From one planner to the other the plan is only cut and withdrawn from. -/
inductive Withdraws : Planner → Planner → Prop
  | refl (p) : Withdraws p p
  | trans {p q r} : Withdraws p q → Withdraws q r → Withdraws p r
  | cut (budget p) : Withdraws p (p.cut budget)
  | charger (p) : Withdraws p p.withdrawCharger
  | zone (z p) : Withdraws p (p.withdrawZone z)
  | zoneAtOnce (z p) : Withdraws p (p.withdrawAtOnce z)

/-! ### The moves -/

/-- Two session records that differ at most in what no invariant reads: target, bands, minutes, costs and collection. -/
def EditOf (r r' : Session) : Prop :=
  r' = { r with
    energyTarget := r'.energyTarget, currentBand := r'.currentBand, queuedMinutes := r'.queuedMinutes
    chargeCost := r'.chargeCost, heatCost := r'.heatCost, occupancyMinutes := r'.occupancyMinutes
    collectedBy := r'.collectedBy }

@[refl] theorem EditOf.refl (r : Session) : EditOf r r := rfl

/-- What the operations do to the blocks while every session stays FREE, AUTHORIZED, live, CLOSING or CLOSED as it is. -/
inductive Works : State → State → Prop
  | same {s t} (hsame : SameBlocks s t) : Works s t
  | trans {s t u} : Works s t → Works t u → Works s u
  | planner {s q} (hwithdraws : Withdraws s.planner q) : Works s (s.setPlanner q)
  | heating {s h} (hshare : h.share = s.heating.share) : Works s (s.setHeating h)
  | isolation {s m} (htrip : tripHeld (s.setIsolation m) = tripHeld s) : Works s (s.setIsolation m)
  | localizer (s l) : Works s (s.setLocalizer l)
  | reasons {s i} (p) (hlive : (s.session i).state.isLive = true) :
      Works s (s.setSession i ((s.session i).withReasons p))
  | complete {s i} (hstate : (s.session i).state = .active ∨ (s.session i).state = .paused) :
      Works s (s.setSession i { s.session i with state := .complete })
  | retarget {s i} (t) (hlive : (s.session i).state.isLive = true) :
      Works s (s.setSession i { s.session i with
        energyTarget := t, state := { s.session i with energyTarget := t }.judgedState })
  | edits {s} {v : Vector Session 8} (hedit : ∀ i : Fin 8, EditOf (s.session i) v[i]) :
      Works s (s.setSessions { s.sessions with records := v })
  | accrued {s i} {p : Powers} (held) (haccrues : (s.session i).state.accrues = true)
      (hrunning : (s.session i).energyFrozen = false) (hheat : p.heat ≤ p.supply) :
      Works s (s.setSession i ((s.session i).accrued p held))
  | frozen (s i) : Works s (s.setSession i { s.session i with energyFrozen := true })
  | topUp {s i role a} (grant) (haccrues : (s.session i).state.accrues = true)
      (haccount : (s.session i).accountOf role = some a) :
      Works s ((s.setAccount a { s.account a with held := (s.account a).held + grant }).setSession i
        ((s.session i).raiseHold role grant))
  | account {s a r} (hheld : r.held = (s.account a).held) (hcount : r.sessionCount = (s.account a).sessionCount)
      (hfree : r.state = .free ↔ (s.account a).state = .free) : Works s (s.setAccount a r)

@[refl] theorem Works.refl (s : State) : Works s s := .same (.refl s)

/-- A whole operation: it works on the blocks so, and where the localizer record was sound it is sound after it. -/
structure Acts (s t : State) : Prop where
  works : Works s t
  sound : LocalizerSound s → LocalizerSound t

/-- Work that leaves the localizer record, the dwell setting and the marks. -/
theorem Works.acts {s t : State} (h : Works s t) (hkept : LocalKept s t) : Acts s t := ⟨h, hkept.localizerSound⟩

/-- Work that the localizer record does not see at all. -/
theorem Works.acts_of_eq {s t : State} (h : Works s t) (hrecord : t.localizer = s.localizer)
    (hisolation : t.isolation = s.isolation) (hheating : t.heating = s.heating) : Acts s t :=
  h.acts (.of_eq hrecord (by rw [hisolation]) hheating)

theorem Acts.same {s t : State} (h : SameBlocks s t) : Acts s t := by
  obtain ⟨_, _, _, _, _, _, _, rfl⟩ := h
  exact (Works.same ⟨_, _, _, _, _, _, _, rfl⟩).acts_of_eq rfl rfl rfl

@[refl] theorem Acts.refl (s : State) : Acts s s := .same (.refl s)

theorem Acts.trans {s t u : State} (h : Acts s t) (h' : Acts t u) : Acts s u :=
  ⟨h.works.trans h'.works, h'.sound ∘ h.sound⟩

theorem Acts.of_eq {s t : State} (h : t = s) : Acts s t := h ▸ .refl s

theorem Acts.ite {s t u : State} {c : Prop} [Decidable c] (ht : Acts s t) (hu : Acts s u) :
    Acts s (if c then t else u) := by
  split
  · exact ht
  · exact hu

theorem Acts.planner {s : State} {q : Planner} (h : Withdraws s.planner q) : Acts s (s.setPlanner q) :=
  (Works.planner h).acts_of_eq rfl rfl rfl

theorem Acts.heating {s : State} {h : HeatController} (hshare : h.share = s.heating.share)
    (hmarks : ∀ z : Fin 6, (h.zones[z]).underTest = (s.zone z).underTest) : Acts s (s.setHeating h) :=
  (Works.heating hshare).acts ⟨rfl, rfl, hmarks⟩

/-- Work that writes sessions or accounts alone. -/
theorem Works.acts_sessions {s t : State} (h : Works s t)
    (heq : t = { s with sessions := t.sessions, accounts := t.accounts } := by rfl) : Acts s t :=
  h.acts_of_eq (by rw [heq]) (by rw [heq]) (by rw [heq])

theorem post_acts (c : Cause) (s : State) : Acts s (post c s) := .same (sameBlocks_post c s)

/-- Writing an account: held amount, session count and whether it is FREE stay. -/
theorem Acts.account {s : State} {a : Fin 16} {r : Account} (hheld : r.held = (s.account a).held)
    (hcount : r.sessionCount = (s.account a).sessionCount) (hfree : r.state = .free ↔ (s.account a).state = .free) :
    Acts s (s.setAccount a r) := (Works.account hheld hcount hfree).acts_sessions

/-- Writing a record that differs only in an edit. -/
theorem Acts.edit {s : State} {i : Fin 8} {r : Session} (hedit : EditOf (s.session i) r) : Acts s (s.setSession i r) := by
  refine Works.acts_sessions (.edits fun j => ?_)
  have hat : (s.sessions.records.set i r)[j] = if i = j then r else s.session j := State.setSession_at s i j r
  rw [hat]
  split
  · next h => exact h ▸ hedit
  · exact .refl _

theorem setZone_works (z : Fin 6) (r : Zone) (s : State) : Works s (s.setZone z r) := .heating rfl

/-- Writing a zone record, its mark as it was. -/
theorem setZone_acts {z : Fin 6} {r : Zone} {s : State} (hmark : r.underTest = (s.zone z).underTest := by rfl) :
    Acts s (s.setZone z r) := (setZone_works z r s).acts ⟨rfl, rfl, setZone_marks hmark⟩

/-! ### Trip records -/

theorem tripHeld_congr {s t : State} (h : ∀ r, (t.fault (tripKey r)).nonFree = (s.fault (tripKey r)).nonFree) :
    tripHeld t = tripHeld s := by simp only [tripHeld, h]

theorem heaterKey_ne_tripKey (z : Fin 6) (r : Rail) : heaterKey z ≠ tripKey r := by
  intro h
  have hval := congrArg Fin.val h
  cases r <;> simp [heaterKey, tripKey] at hval

theorem warnKey_ne_tripKey (q r : Rail) : warnKey q ≠ tripKey r := by cases q <;> cases r <;> decide

/-- Writing a fault record that is FREE where the old one was. -/
theorem setFault_acts {k : Fin 12} {f : FaultRecord} {s : State} (h : f.nonFree = (s.fault k).nonFree) :
    Acts s (s.setFault k f) := by
  refine Works.acts (.isolation (tripHeld_congr fun r => ?_)) ⟨rfl, rfl, fun _ => rfl⟩
  show ((s.setFault k f).fault (tripKey r)).nonFree = _
  rw [State.setFault_at]
  split
  · next hk => rw [h, hk]
  · rfl

/-- Writing a fault record of another key than a trip's. -/
theorem setFault_acts_of_ne {k : Fin 12} (hk : ∀ r, k ≠ tripKey r) (f : FaultRecord) (s : State) :
    Acts s (s.setFault k f) :=
  Works.acts (.isolation (tripHeld_congr fun r => by
    show ((s.setFault k f).fault (tripKey r)).nonFree = _
    rw [State.setFault_other _ _ _ _ (hk r)])) ⟨rfl, rfl, fun _ => rfl⟩

theorem setIsolation_works {s : State} {m : IsolationMonitor} (h : m.faults = s.isolation.faults) :
    Works s (s.setIsolation m) :=
  .isolation (tripHeld_congr fun r => by
    show (m.faults[tripKey r]).nonFree = _
    rw [h]; rfl)

/-- Writing comparators or votes, fault records and settings as they were. -/
theorem setIsolation_acts {s : State} {m : IsolationMonitor} (h : m.faults = s.isolation.faults)
    (hsettings : m.settings = s.isolation.settings := by rfl) : Acts s (s.setIsolation m) :=
  (setIsolation_works h).acts ⟨rfl, by rw [← hsettings]; rfl, fun _ => rfl⟩

/-! ### The planner's part -/

theorem cutBudget_acts (s : State) : Acts s (cutBudget s) := .planner (.cut _ _)

theorem offeredChanged_acts (before : Option Nat) (s : State) : Acts s (offeredChanged before s) := by
  unfold offeredChanged
  split
  · split
    · exact cutBudget_acts s
    · exact .refl s
  · exact cutBudget_acts s
  · exact .refl s

theorem judgeStanding_acts (s : State) : Acts s (judgeStanding s) := by
  unfold judgeStanding
  split
  · exact .refl s
  · exact .planner (.cut _ _)

theorem plannerSessionChanged_acts (left : Bool) (s : State) : Acts s (plannerSessionChanged left s) := by
  unfold plannerSessionChanged
  cases left
  · exact judgeStanding_acts s
  · exact .trans (.planner (.charger _)) (judgeStanding_acts _)

theorem withdrawZoneAtOnce_acts (z : Fin 6) (s : State) : Acts s (withdrawZoneAtOnce z s) :=
  .trans (.planner (.zoneAtOnce z _)) (setZone_acts)

/-! ### Zones -/

theorem recomputeDemand_acts (z : Fin 6) (s : State) : Acts s (recomputeDemand z s) := setZone_acts
theorem recomputeDemands_acts (s : State) : Acts s (recomputeDemands s) :=
  .heating rfl fun z => by rw [mapIndexed_get]; rfl

theorem takeTemperature_underTest (w : Word) (z : Zone) : (takeTemperature w z).underTest = z.underTest := by
  unfold takeTemperature
  split
  · split <;> rfl
  · rfl

theorem heatFrame_acts (f : MeterFrame) (s : State) : Acts s (heatFrame f s) := by
  refine .trans ?_ (recomputeDemands_acts _)
  exact .heating rfl fun z => by rw [mapIndexed_get, takeTemperature_underTest]; rfl

theorem storeAdmission_acts (s : State) : Acts s (storeAdmission s) := .heating rfl fun _ => rfl

theorem excludeZone_acts (z : Fin 6) (s : State) : Acts s (excludeZone z s) := by
  unfold excludeZone
  split
  · exact .refl s
  · refine .trans ?_ (withdrawZoneAtOnce_acts z _)
    refine (setZone_acts (z := z) (r := { s.zone z with excluded := true, demand := 0 })).trans ?_
    exact setIsolation_acts rfl

theorem putUnderTest_works (z : Fin 6) (s : State) : Works s (putUnderTest z s) :=
  (setZone_works z _ s).trans ((recomputeDemand_acts z _).trans (withdrawZoneAtOnce_acts z _)).works

theorem clearUnderTest_works (z : Fin 6) (s : State) : Works s (clearUnderTest z s) :=
  (setZone_works z _ s).trans (recomputeDemand_acts z _).works

/-! ### Pause reasons and fault records -/

theorem changeReasonsQuietly_acts (i : Fin 8) (f : PauseReasons → PauseReasons) (s : State) :
    Acts s (changeReasonsQuietly i f s) := by
  unfold changeReasonsQuietly
  dsimp only
  split
  · exact .refl s
  · next h =>
    have hlive : (s.session i).state.isLive = true := by
      cases hl : (s.session i).state.isLive
      · exact absurd (.inl hl) h
      · rfl
    refine .trans (Works.reasons (f (s.session i).reasons) hlive).acts_sessions (.trans ?_ (plannerSessionChanged_acts _ _))
    split
    · exact post_acts _ _
    · exact .refl _

theorem changeLiveQuietly_acts (f : PauseReasons → PauseReasons) (s : State) : Acts s (changeLiveQuietly f s) := by
  unfold changeLiveQuietly
  split
  · exact .refl s
  · exact changeReasonsQuietly_acts _ f s

/-- A confirmation of another record than a trip's. -/
theorem confirmFault_acts {k : Fin 12} (hk : ∀ r, k ≠ tripKey r) (reading : Option Nat) (s : State) :
    Acts s (confirmFault k reading s) := by
  unfold confirmFault
  split
  · exact .refl s
  · exact (setFault_acts_of_ne hk _ s).trans (post_acts _ _)

theorem clearFault_acts (k : Fin 12) (s : State) : Acts s (clearFault k s) := by
  unfold clearFault
  split
  · next h => exact (setFault_acts (by rw [FaultRecord.nonFree, FaultRecord.nonFree, h]; rfl)).trans (post_acts _ _)
  · exact .refl s

theorem handIsolation_acts (before : Bool) (s : State) : Acts s (handIsolation before s) := by
  unfold handIsolation
  split
  · exact .refl s
  · exact changeLiveQuietly_acts _ s

theorem writeVerdict_acts (rail : Rail) (v : Verdict) (s : State) : Acts s (writeVerdict rail v s) :=
  (setFault_acts_of_ne (warnKey_ne_tripKey rail) _ s).trans (handIsolation_acts _ _)

/-! ### The Localizer -/

theorem releaseSuspect_works (s : State) : Works s (releaseSuspect s) := by
  unfold releaseSuspect
  refine .trans ?_ (.localizer _ _)
  split
  · exact clearUnderTest_works _ s
  · exact .refl s
  · exact .refl s

theorem verdictEffect_works (v : Verdict) (s : State) : Works s (verdictEffect v s) := by
  cases v with
  | zone z => exact (excludeZone_acts z s).works.trans (clearUnderTest_works z _)
  | charger => exact .refl s
  | packSide => exact .refl s
  | unresolved => exact releaseSuspect_works s

theorem deliverVerdict_works (v : Verdict) (s : State) : Works s (deliverVerdict v s) := by
  unfold deliverVerdict
  refine .trans ?_ ((verdictEffect_works v _).trans ((Works.localizer _ _).trans (post_acts _ _).works))
  split
  · exact (writeVerdict_acts _ v s).works
  · exact .refl s

theorem beginStep_works (x : Suspect) (rest : List Suspect) (s : State) : Works s (beginStep x rest s) := by
  cases x with
  | zone z =>
    refine .trans ?_ (putUnderTest_works z _)
    exact .localizer _ _
  | charger => exact .trans (.localizer s _) (.planner (.charger _))

theorem takeSuspect_works (stack : List Suspect) (s : State) : Works s (takeSuspect stack s) := by
  induction stack with
  | nil => exact .trans (.localizer _ _) (deliverVerdict_works _ _)
  | cons x below ih =>
    unfold takeSuspect
    split
    · exact beginStep_works x _ s
    · exact ih

theorem nextStep_works (s : State) : Works s (nextStep s) := takeSuspect_works _ s
theorem startLocalization_works (rail : Rail) (s : State) : Works s (startLocalization rail s) :=
  .trans (.localizer _ _) (nextStep_works _)
theorem advanceSuspect_works (s : State) : Works s (advanceSuspect s) := (releaseSuspect_works s).trans (nextStep_works _)

theorem startLocalization_acts {s : State} (rail : Rail) (hidle : s.localizer.state = .idle) :
    Acts s (startLocalization rail s) := ⟨startLocalization_works rail s, fun h => startLocalization_sound rail h hidle⟩

theorem warningConfirmed_acts (rail : Rail) (s : State) : Acts s (warningConfirmed rail s) := by
  refine ⟨?_, warningConfirmed_sound rail⟩
  unfold warningConfirmed
  split
  · exact startLocalization_works rail s
  · exact .refl s

theorem abortDwell_acts (s : State) : Acts s (abortDwell s) := by
  refine ⟨?_, abortDwell_sound⟩
  unfold abortDwell
  split
  · exact deliverVerdict_works _ s
  · exact .refl s

theorem localizerSessionLeft_acts (s : State) : Acts s (localizerSessionLeft s) := by
  refine ⟨?_, localizerSessionLeft_sound⟩
  unfold localizerSessionLeft
  split
  · exact advanceSuspect_works s
  · exact .refl s

theorem localizerZoneOff_acts (z : Fin 6) (s : State) : Acts s (localizerZoneOff z s) := by
  refine ⟨?_, localizerZoneOff_sound z⟩
  unfold localizerZoneOff
  split
  · exact advanceSuspect_works s
  · exact .refl s

theorem evaluateStep_works (s : State) : Works s (evaluateStep s) := by
  unfold evaluateStep
  split
  · exact .refl s
  · split
    · exact deliverVerdict_works _ s
    · exact advanceSuspect_works s

theorem localizerFrame_acts (f : MeterFrame) (s : State) : Acts s (localizerFrame f s) := by
  refine ⟨?_, localizerFrame_sound f⟩
  unfold localizerFrame
  split
  · split
    · dsimp only
      split
      · exact .trans (.localizer _ _) (evaluateStep_works _)
      · exact .localizer _ _
    · exact .refl s
  · exact .refl s

/-! ### A live session's changes -/

theorem sessionChanged_acts (left : Bool) (s : State) : Acts s (sessionChanged left s) := by
  unfold sessionChanged
  cases left
  · exact plannerSessionChanged_acts _ s
  · exact (plannerSessionChanged_acts _ s).trans (localizerSessionLeft_acts _)

theorem changeReasons_acts (i : Fin 8) (f : PauseReasons → PauseReasons) (s : State) : Acts s (changeReasons i f s) := by
  unfold changeReasons
  dsimp only
  split
  · exact (changeReasonsQuietly_acts i f s).trans (localizerSessionLeft_acts _)
  · exact changeReasonsQuietly_acts i f s

theorem changeLive_acts (f : PauseReasons → PauseReasons) (s : State) : Acts s (changeLive f s) := by
  unfold changeLive
  split
  · exact .refl s
  · exact changeReasons_acts _ f s

theorem enterComplete_acts {i : Fin 8} {s : State}
    (hstate : (s.session i).state = .active ∨ (s.session i).state = .paused) : Acts s (enterComplete i s) :=
  .trans (Works.complete hstate).acts_sessions (sessionChanged_acts _ _)

theorem retarget_acts {i : Fin 8} {s : State} (t : Option Nat) (hlive : (s.session i).state.isLive = true) :
    Acts s (retarget i t s) := .trans (Works.retarget t hlive).acts_sessions (sessionChanged_acts _ _)

/-! ### What every session stays -/

theorem SessionState.accrues_of_isLive {st : SessionState} (h : st.isLive = true) : st.accrues = true := by
  simp [SessionState.accrues, h]

/-- A session stays FREE, AUTHORIZED, live, CLOSING or CLOSED. -/
def SessionState.SamePhase (a b : SessionState) : Prop := a = b ∨ (a.isLive = true ∧ b.isLive = true)

theorem SessionState.SamePhase.isLive_eq {a b : SessionState} (h : a.SamePhase b) : b.isLive = a.isLive := by
  obtain rfl | ⟨ha, hb⟩ := h
  · rfl
  · rw [ha, hb]

theorem SessionState.SamePhase.accrues_eq {a b : SessionState} (h : a.SamePhase b) : b.accrues = a.accrues := by
  obtain rfl | ⟨ha, hb⟩ := h
  · rfl
  · rw [SessionState.accrues_of_isLive ha, SessionState.accrues_of_isLive hb]

/-- A state that is not live is the same on both sides. -/
theorem SessionState.SamePhase.eq_iff {a b c : SessionState} (h : a.SamePhase b) (hc : c.isLive = false) :
    b = c ↔ a = c := by
  obtain rfl | ⟨ha, hb⟩ := h
  · rfl
  · exact iff_of_false (by rintro rfl; simp [hb] at hc) (by rintro rfl; simp [ha] at hc)

theorem SessionState.SamePhase.trans {a b c : SessionState} (h : a.SamePhase b) (h' : b.SamePhase c) : a.SamePhase c := by
  obtain rfl | ⟨ha, hb⟩ := h
  · exact h'
  · exact .inr ⟨ha, h'.isLive_eq.trans hb⟩

theorem Session.withReasons_phase (r : Session) (p : PauseReasons) : r.state.SamePhase (r.withReasons p).state := by
  cases h : r.state <;> simp [SessionState.SamePhase, Session.withReasons, h, SessionState.isLive]
  · cases p.isEmpty <;> simp
  · cases p.isEmpty <;> simp

theorem Session.judgedState_isLive (r : Session) : r.judgedState.isLive = true := by
  unfold Session.judgedState
  split
  · rfl
  · split <;> rfl

@[simp] theorem Session.raiseHold_state (r : Session) (role : HoldRole) (grant : Nat) :
    (r.raiseHold role grant).state = r.state := by cases role <;> rfl

@[simp] theorem Session.accrued_state (p : Powers) (held : Bool) (r : Session) : (r.accrued p held).state = r.state := rfl

theorem EditOf.state_eq {r r' : Session} (h : EditOf r r') : r'.state = r.state := by rw [h]

/-- A write to one record that keeps its phase keeps every phase. -/
theorem setSession_phase {s : State} {i : Fin 8} {r : Session} (h : (s.session i).state.SamePhase r.state) (j : Fin 8) :
    (s.session j).state.SamePhase ((s.setSession i r).session j).state := by
  rw [State.setSession_at]
  split
  · next hij => exact hij ▸ h
  · exact .inl rfl

theorem SameBlocks.session_eq {s t : State} (h : SameBlocks s t) (i : Fin 8) : t.session i = s.session i := by
  obtain ⟨_, _, _, _, _, _, _, rfl⟩ := h
  rfl

/-- No session changes its phase while the operations act. -/
theorem Acts.phase {s t : State} (h : Acts s t) (j : Fin 8) : (s.session j).state.SamePhase (t.session j).state := by
  obtain ⟨h, -⟩ := h
  induction h with
  | same hsame => exact .inl (by rw [hsame.session_eq])
  | trans _ _ ih ih' => exact ih.trans ih'
  | planner | heating | isolation | localizer | account => exact .inl rfl
  | reasons p => exact setSession_phase (Session.withReasons_phase _ p) j
  | complete hstate => exact setSession_phase (.inr ⟨by obtain h | h := hstate <;> rw [h] <;> rfl, rfl⟩) j
  | retarget t hlive => exact setSession_phase (.inr ⟨hlive, Session.judgedState_isLive _⟩) j
  | edits hedit => exact .inl (hedit j).state_eq.symm
  | accrued held => exact setSession_phase (.inl (Session.accrued_state _ held _).symm) j
  | frozen s i => exact setSession_phase (r := { s.session i with energyFrozen := true }) (.inl rfl) j
  | topUp => exact setSession_phase (.inl (by simp)) j

theorem Acts.accrues_eq {s t : State} (h : Acts s t) (i : Fin 8) : (t.session i).state.accrues = (s.session i).state.accrues :=
  (h.phase i).accrues_eq

theorem Acts.isLive_eq {s t : State} (h : Acts s t) (i : Fin 8) : (t.session i).state.isLive = (s.session i).state.isLive :=
  (h.phase i).isLive_eq

/-! ### Holds and pricing -/

theorem judgeCredit_acts (i : Fin 8) (role : HoldRole) (grant : Nat) (s : State) : Acts s (judgeCredit i role grant s) := by
  unfold judgeCredit
  dsimp only
  split
  · exact .refl s
  · split
    · split
      · split
        · exact changeReasons_acts _ _ s
        · exact (post_acts _ s).trans (changeReasons_acts _ _ _)
      · exact .refl s
    · split
      · exact changeReasons_acts _ _ s
      · exact .refl s

theorem askTopUp_acts {i : Fin 8} {s : State} (role : HoldRole) (haccrues : (s.session i).state.accrues = true) :
    Acts s (askTopUp i role s) := by
  unfold askTopUp
  split
  · exact .refl s
  · next a haccount => exact .trans (Works.topUp _ haccrues haccount).acts_sessions (judgeCredit_acts _ _ _ _)

theorem checkHold_acts {i : Fin 8} {s : State} (role : HoldRole) (haccrues : (s.session i).state.accrues = true) :
    Acts s (checkHold i role s) := by
  unfold checkHold
  split
  · exact askTopUp_acts role haccrues
  · exact .refl s

theorem checkLowWater_acts {i : Fin 8} {s : State} (haccrues : (s.session i).state.accrues = true) :
    Acts s (checkLowWater i s) := by
  have hcharge := checkHold_acts .charge haccrues
  exact hcharge.trans (checkHold_acts .heat (by rwa [hcharge.accrues_eq]))

theorem retrySession_acts (a : Fin 16) (s : State) (i : Fin 8) : Acts s (retrySession a s i) := by
  unfold retrySession
  dsimp only
  split
  · next h =>
    have haccrues : (s.session i).state.accrues = true := SessionState.accrues_of_isLive (Bool.and_eq_true_iff.1 h).1
    have hasked (role : HoldRole) {t : State} (ht : (t.session i).state.accrues = true) :
        Acts t (if (t.session i).accountOf role = some a then checkHold i role t else t) := by
      split
      · exact checkHold_acts role ht
      · exact .refl t
    exact (hasked .charge haccrues).trans (hasked .heat (by rwa [(hasked .charge haccrues).accrues_eq]))
  · exact .refl s

/-- Acting over a list acts. -/
theorem foldl_acts {α : Type} {f : State → α → State} (hf : ∀ s x, Acts s (f s x)) (l : List α) (s : State) :
    Acts s (l.foldl f s) := by
  induction l generalizing s with
  | nil => exact .refl s
  | cons x rest ih => exact (hf s x).trans (ih _)

theorem creditRetry_acts (a : Fin 16) (s : State) : Acts s (creditRetry a s) := foldl_acts (retrySession_acts a) _ s

theorem Session.addCost_editOf (r : Session) (role : HoldRole) (amount : Nat) : EditOf r (r.addCost role amount) := by
  cases role <;> rfl

theorem priceOne_acts {i : Fin 8} {s : State} (role : HoldRole) (haccrues : (s.session i).state.accrues = true) :
    Acts s (priceOne i role s) := by
  have hcost : Acts s (s.setSession i ((s.session i).addCost role (currentRate role (s.session i) s))) :=
    .edit (Session.addCost_editOf _ _ _)
  exact hcost.trans (checkLowWater_acts (by rwa [hcost.accrues_eq]))

theorem priceMany_acts {i : Fin 8} (role : HoldRole) (n : Nat) {s : State} (haccrues : (s.session i).state.accrues = true) :
    Acts s (priceMany i role n s) := by
  induction n generalizing s with
  | zero => exact .refl s
  | succ n ih =>
    have hone := priceOne_acts role haccrues
    exact hone.trans (ih (by rwa [hone.accrues_eq]))

theorem judgeCompletion_acts (i : Fin 8) (s : State) : Acts s (judgeCompletion i s) := by
  unfold judgeCompletion
  dsimp only
  split
  · next h => exact enterComplete_acts h.1
  · exact .refl s

theorem accrueEnergy_acts {i : Fin 8} {p : Powers} {s : State} (held : Bool) (hheat : p.heat ≤ p.supply)
    (haccrues : (s.session i).state.accrues = true) : Acts s (accrueEnergy i p held s) := by
  unfold accrueEnergy
  dsimp only
  split
  · exact (Works.frozen s i).acts_sessions
  · next h =>
    have hrunning : (s.session i).energyFrozen = false := by
      cases hf : (s.session i).energyFrozen
      · rfl
      · simp [hf] at h
    have hadd : Acts s (s.setSession i ((s.session i).accrued p held)) :=
      (Works.accrued held haccrues hrunning hheat).acts_sessions
    have hcharge := priceMany_acts (s := s.setSession i ((s.session i).accrued p held)) .charge
      ((s.session i).chargeEnergy.carry p.charge) (by rwa [hadd.accrues_eq])
    exact hadd.trans (hcharge.trans (priceMany_acts .heat _ (by rwa [hcharge.accrues_eq, hadd.accrues_eq])))

theorem accrue_acts (held : Bool) (source : Option BudgetSource) (s : State) : Acts s (accrue held source s) := by
  unfold accrue
  split
  · next i f hslot _ =>
    exact (accrueEnergy_acts held (powersOf_heat_le_supply f source) (accruingSlot_some hslot)).trans
      (judgeCompletion_acts i _)
  · exact .refl s

theorem chargeOccupancy_acts {i : Fin 8} {s : State} (rate : Nat) (haccrues : (s.session i).state.accrues = true) :
    Acts s (chargeOccupancy i rate s) := by
  have hcost : Acts s (s.setSession i { (s.session i).addCost .charge rate with
      occupancyMinutes := min ((s.session i).occupancyMinutes + 1) Config.countMax }) := .edit rfl
  exact hcost.trans (checkLowWater_acts (by rwa [hcost.accrues_eq]))

/-! ### COLD, the supply, the link, the warnings and the votes -/

theorem judgeCold_acts (s : State) : Acts s (judgeCold s) := by
  unfold judgeCold
  split
  · exact changeLive_acts _ s
  · split
    · exact .refl s
    · split
      · exact changeLive_acts _ s
      · exact .refl s

theorem evaluateAdmission_acts (s : State) : Acts s (evaluateAdmission s) :=
  (storeAdmission_acts s).trans ((judgeCold_acts _).trans (recomputeDemands_acts _))

theorem sessionsSupply_acts (s : State) : Acts s (sessionsSupply s) := changeLive_acts _ s
theorem sessionsSynced_acts (s : State) : Acts s (sessionsSynced s) := changeLive_acts _ s
theorem sessionsLost_acts (s : State) : Acts s (sessionsLost s) := changeLiveQuietly_acts _ s

theorem FaultRecord.followed_state (reading : Nat) (f : FaultRecord) : (f.followed reading).state = f.state := by
  unfold FaultRecord.followed
  split <;> rfl

theorem FaultRecord.followed_nonFree (reading : Nat) (f : FaultRecord) : (f.followed reading).nonFree = f.nonFree := by
  rw [FaultRecord.nonFree, FaultRecord.followed_state, FaultRecord.nonFree]

theorem setComparator_faults (k : CompareKind) (r : Rail) (c : Comparator) (m : IsolationMonitor) :
    (m.setComparator k r c).faults = m.faults := by cases k <;> cases r <;> rfl

theorem setComparator_settings (k : CompareKind) (r : Rail) (c : Comparator) (m : IsolationMonitor) :
    (m.setComparator k r c).settings = m.settings := by cases k <;> cases r <;> rfl

/-- A comparator counts and its record follows the reading (R144, R147). -/
theorem comparatorWork_eq (k : CompareKind) (r : Rail) (reading : Nat) (s : State) :
    ∃ u, Acts s u ∧ u.planner = s.planner ∧ u.meter = s.meter ∧ comparatorWork k r reading s = actOnRecord k r reading u :=
  ⟨_, .trans (setIsolation_acts (setComparator_faults k r _ _) (setComparator_settings k r _ _)) (setFault_acts (FaultRecord.followed_nonFree _ _)),
    rfl, rfl, rfl⟩

theorem comparatorWarning_acts (r : Rail) (reading : Nat) (s : State) : Acts s (comparatorWork .warning r reading s) := by
  obtain ⟨u, hu, -, -, hwork⟩ := comparatorWork_eq .warning r reading s
  rw [hwork]
  refine hu.trans ?_
  unfold actOnRecord
  dsimp only
  split
  · split
    · exact clearFault_acts _ u
    · exact .refl u
  · split
    · exact (confirmFault_acts (warnKey_ne_tripKey r) _ u).trans (warningConfirmed_acts r _)
    · exact .refl u

theorem countVotes_acts (e : PlanEntry) (mismatch : Bool) (s : State) : Acts s (countVotes e mismatch s) := setIsolation_acts rfl

theorem judgeVotes_acts (s : State) (z : Fin 6) : Acts s (judgeVotes s z) := by
  unfold judgeVotes
  split
  · refine .trans ?_ ((excludeZone_acts z _).trans (localizerZoneOff_acts z _))
    refine (confirmFault_acts (heaterKey_ne_tripKey z) none s).trans ?_
    exact setIsolation_acts rfl
  · exact .refl s

theorem mismatchWork_acts (f : MeterFrame) (ended : Option PlanEntry) (s : State) : Acts s (mismatchWork f ended s) := by
  unfold mismatchWork
  split
  · exact .refl s
  · split
    · exact .refl s
    · exact (countVotes_acts _ _ s).trans (foldl_acts judgeVotes_acts _ _)

theorem handSupplyToFaults_acts (before : SupplyState) (s : State) : Acts s (handSupplyToFaults before s) := by
  unfold handSupplyToFaults
  split
  · exact .refl s
  · split
    · exact confirmFault_acts (fun r => by cases r <;> decide) _ s
    · split
      · exact clearFault_acts _ s
      · exact .refl s

theorem postPlug_acts (before : SupplyState) (s : State) : Acts s (postPlug before s) := by
  unfold postPlug
  split
  · exact post_acts _ s
  · exact .refl s

/-! ### Bands and ages of the sessions -/

theorem updateBands_acts (f : Session → Option (Fin 32)) (s : State) : Acts s (updateBands f s) := by
  refine Works.acts_sessions (.edits fun i => ?_)
  rw [mapIndexed_get]
  split
  · exact rfl
  · exact .refl _

theorem ageing_acts (s : State) :
    Acts s (s.setSessions { s.sessions with records := mapIndexed (fun _ r => r.aged) s.sessions.records }) := by
  refine Works.acts_sessions (.edits fun i => ?_)
  rw [mapIndexed_get, Session.aged]
  split
  · exact rfl
  · exact .refl _

/-! ### Sessions that go live, are stopped, close or are voided -/

/-- What the operations do to the blocks when sessions may also go live, be stopped and close. -/
inductive Handles : State → State → Prop
  | acts {s t} (hacts : Acts s t) : Handles s t
  | trans {s t u} : Handles s t → Handles t u → Handles s u
  | goLive (s) : Handles s (goLive s)
  | stop {s i} (p) (hlive : (s.session i).state.isLive = true) :
      Handles s (s.setSession i { s.session i with
        state := .closing, reasons := .empty, closeReason := some (stopReason p) })
  | close {s i} (reason) (haccrues : (s.session i).state.accrues = true) : Handles s (closeRecord reason i s)

/-- What the operations do to the blocks when sessions may also be voided. -/
inductive Voids : State → State → Prop
  | acts {s t} (hacts : Acts s t) : Voids s t
  | trans {s t u} : Voids s t → Voids t u → Voids s u
  | void {s i} (hwaits : (s.session i).state = .authorized) : Voids s (voidSession i s)

@[refl] theorem Voids.refl (s : State) : Voids s s := .acts (.refl s)
@[refl] theorem Handles.refl (s : State) : Handles s s := .acts (.refl s)

theorem handOver_handles (s : State) : Handles s (handOver s) := by
  unfold handOver
  split
  · exact .refl s
  · exact .goLive s

theorem closeSession_handles {i : Fin 8} {s : State} (reason : CloseReason)
    (haccrues : (s.session i).state.accrues = true) : Handles s (closeSession reason i s) := by
  unfold closeSession
  dsimp only
  split
  · exact (Handles.close reason haccrues).trans (.acts (sessionChanged_acts _ _))
  · exact .close reason haccrues

theorem closingSlot_accrues {s : State} {i : Fin 8} (h : closingSlot s = some i) : (s.session i).state.accrues = true := by
  rw [closingSlot_some h]; rfl

theorem endClosing_handles (s : State) : Handles s (endClosing s) := by
  unfold endClosing
  split
  · exact .refl s
  · next hslot => exact (closeSession_handles _ (closingSlot_accrues hslot)).trans (handOver_handles _)

theorem sessionsUnplugged_handles (s : State) : Handles s (sessionsUnplugged s) := by
  unfold sessionsUnplugged
  split
  · exact .refl s
  · next hslot => exact closeSession_handles _ (accruingSlot_some hslot)

theorem sessionsMeterLost_handles (s : State) : Handles s (sessionsMeterLost s) := by
  unfold sessionsMeterLost
  split
  · exact .refl s
  · next hslot =>
    exact (closeSession_handles _ (SessionState.accrues_of_isLive (liveSlot_some hslot))).trans (handOver_handles _)

theorem sessionsReset_handles (s : State) : Handles s (sessionsReset s) := by
  unfold sessionsReset
  split
  · exact .refl s
  · next hslot => exact .close _ (accruingSlot_some hslot)

theorem stopSession_handles {i : Fin 8} {s : State} (p : Port) (hlive : (s.session i).state.isLive = true) :
    Handles s (stopSession p i s) := (Handles.stop p hlive).trans (.acts (sessionChanged_acts _ _))

theorem liveAtOnce_handles (s : State) : Handles s (liveAtOnce s) := by
  unfold liveAtOnce
  split
  · exact .goLive s
  · exact .refl s

theorem handSupplyToSessions_handles (before : SupplyState) (s : State) : Handles s (handSupplyToSessions before s) := by
  unfold handSupplyToSessions
  split
  · exact .refl s
  · split
    · exact .goLive s
    · split
      · exact sessionsUnplugged_handles s
      · exact .acts (sessionsSupply_acts s)

/-- A property that each part keeps is kept over a list. -/
theorem foldl_keeps {α : Type} {P : State → Prop} {f : State → α → State} (hf : ∀ s x, P s → P (f s x)) (l : List α)
    {s : State} (h : P s) : P (l.foldl f s) := by
  induction l generalizing s with
  | nil => exact h
  | cons x rest ih => exact ih (hf s x h)

theorem foldl_voids {α : Type} {f : State → α → State} (hf : ∀ s x, Voids s (f s x)) (l : List α) (s : State) :
    Voids s (l.foldl f s) := foldl_keeps (P := Voids s) (fun _ x h => h.trans (hf _ x)) l (.refl s)

theorem voidIfExpired_voids (s : State) (i : Fin 8) : Voids s (voidIfExpired s i) := by
  unfold voidIfExpired
  split
  · next h =>
    simp only [Session.expired, Bool.and_eq_true, beq_iff_eq] at h
    exact .void h.1.1
  · exact .refl s

theorem ageSessions_voids (s : State) : Voids s (ageSessions s) :=
  (Voids.acts (ageing_acts s)).trans (foldl_voids voidIfExpired_voids _ _)

/-! ### The parts of a minute event -/

/-- A void frees its slot and touches no other session. -/
theorem voidSession_session (i j : Fin 8) (s : State) :
    (voidSession i s).session j = if i = j then .free else s.session j := by
  have hgone (u : State) (hu : u.sessions.records = s.sessions.records) :
      (post .sessionVoid (u.setSession i .free)).session j = if i = j then .free else s.session j := by
    rw [show (post .sessionVoid (u.setSession i .free)).session j = (u.setSession i .free).session j from rfl,
      State.setSession_at]
    simp only [State.session, hu]
  unfold voidSession
  dsimp only
  refine hgone _ ?_
  split <;> simp

/-- The session that owes occupancy at a minute event still accrues. -/
def DueAccrues (due : Option (Fin 8 × Nat)) (s : State) : Prop :=
  ∀ i rate, due = some (i, rate) → (s.session i).state.accrues = true

theorem occupancyDue_accrues (s : State) : DueAccrues (occupancyDue s) s := by
  intro i rate h
  unfold occupancyDue at h
  split at h
  · simp at h
  · next j hslot =>
    split at h
    · simp only [Option.some.injEq, Prod.mk.injEq] at h
      exact h.1 ▸ SessionState.accrues_of_isLive (liveSlot_some hslot)
    · simp at h

theorem Acts.dueAccrues {s t : State} {due : Option (Fin 8 × Nat)} (h : Acts s t) (hdue : DueAccrues due s) :
    DueAccrues due t := fun i rate hi => (h.accrues_eq i).trans (hdue i rate hi)

theorem voidIfExpired_dueAccrues {due : Option (Fin 8 × Nat)} (s : State) (i : Fin 8) (hdue : DueAccrues due s) :
    DueAccrues due (voidIfExpired s i) := by
  unfold voidIfExpired
  split
  · next h =>
    intro j rate hj
    have haccrues := hdue j rate hj
    simp only [Session.expired, Bool.and_eq_true, beq_iff_eq] at h
    rw [voidSession_session, if_neg]
    · exact haccrues
    · rintro rfl
      rw [h.1.1] at haccrues
      exact absurd haccrues (by decide)
  · exact hdue

theorem ageSessions_dueAccrues {due : Option (Fin 8 × Nat)} {s : State} (hdue : DueAccrues due s) :
    DueAccrues due (ageSessions s) := foldl_keeps voidIfExpired_dueAccrues _ ((ageing_acts s).dueAccrues hdue)

theorem payOccupancy_acts {due : Option (Fin 8 × Nat)} {s : State} (hdue : DueAccrues due s) :
    Acts s (payOccupancy due s) := by
  unfold payOccupancy
  split
  · exact .refl s
  · next i rate => exact chargeOccupancy_acts rate (hdue i rate rfl)

theorem takeMinutePart_voids {due : Option (Fin 8 × Nat)} {s : State} (hdue : DueAccrues due s) (x : Taker) :
    Voids s (takeMinutePart due s x) ∧ DueAccrues due (takeMinutePart due s x) := by
  cases x <;> simp only [takeMinutePart]
  case ageing => exact ⟨ageSessions_voids s, ageSessions_dueAccrues hdue⟩
  case occupancy => exact ⟨.acts (payOccupancy_acts hdue), (payOccupancy_acts hdue).dueAccrues hdue⟩
  all_goals exact ⟨.refl s, hdue⟩

/-- The parts of a minute event, in whatever order they come. -/
theorem foldl_takeMinutePart_voids {due : Option (Fin 8 × Nat)} (order : List Taker) {s : State}
    (hdue : DueAccrues due s) : Voids s (order.foldl (takeMinutePart due) s) :=
  (foldl_keeps (P := fun t => Voids s t ∧ DueAccrues due t)
    (fun _ x h => ⟨h.1.trans (takeMinutePart_voids h.2 x).1, (takeMinutePart_voids h.2 x).2⟩) order
    ⟨.refl s, hdue⟩).1

/-- The calendar's advance and the step of the bands change no session's state. -/
theorem advanceCalendar_dueAccrues {due : Option (Fin 8 × Nat)} {s : State} (m : Nat) (hdue : DueAccrues due s) :
    DueAccrues due (dropChoice (advanceCalendar m s)) := by
  refine (Acts.same (sameBlocks_dropChoice _)).dueAccrues ?_
  refine (updateBands_acts _ _).dueAccrues ?_
  exact hdue

/-- A minute event: the calendar advances and the bands step, then its parts act. -/
theorem takeMinute_eq {s : State} {m : Nat} (h : s.tariff.calendar = some m) :
    Voids (dropChoice (advanceCalendar m s)) (takeMinute s) := by
  simp only [takeMinute, h]
  exact foldl_takeMinutePart_voids _ (advanceCalendar_dueAccrues m (occupancyDue_accrues s))

theorem takeMinute_unset {s : State} (h : s.tariff.calendar = none) : takeMinute s = s := by
  unfold takeMinute
  rw [h]

end Sys2Proof.Machine
end

section
/-! SUPPORT. The requests in the closure of the shared operations: all but those that open, close or reset a record of
their own kind lie in it. -/

namespace Sys2Proof.Machine

/-! ### Requests that name a record -/

theorem refuse_acts (s : State) (code : ResultCode) : Acts s (refuse s code).state := .refl s
theorem accept_acts {s t : State} {data : List Byte} (h : Acts s t) : Acts s (accept t data).state := h

theorem onSession_acts {slot : Byte} {serial : BitVec 16} {s : State} {rule : Fin 8 → Reply}
    (h : ∀ i, Acts s (rule i).state) : Acts s (onSession slot serial s rule).state := by
  unfold onSession
  split
  · exact refuse_acts s _
  · exact h _

/-- An account that a request names is not FREE (R30). -/
theorem nameAccount_ok {index : Byte} {id : BitVec 32} {s : State} {a : Fin 16} (h : nameAccount index id s = .ok a) :
    (s.account a).state ≠ .free ∧ (s.account a).id = id.toNat ∧ id ≠ 0 ∧ index? 16 index = some a := by
  unfold nameAccount at h
  split at h
  · simp at h
  · next b hindex =>
    split at h
    · simp at h
    · next hid =>
      split at h
      · simp at h
      · next hnamed =>
        simp only [Except.ok.injEq] at h
        subst h
        exact ⟨fun hf => hnamed (.inl hf), by_contra fun hne => hnamed (.inr hne), hid, hindex⟩

theorem onAccount_acts {index : Byte} {id : BitVec 32} {s : State} {rule : Fin 16 → Reply}
    (h : ∀ a, (s.account a).state ≠ .free → Acts s (rule a).state) : Acts s (onAccount index id s rule).state := by
  unfold onAccount
  split
  · exact refuse_acts s _
  · next hname => exact h _ (nameAccount_ok hname).1

/-! ### Session requests -/

theorem requestCancel_voids (slot : Byte) (serial : BitVec 16) (s : State) :
    Voids s (requestCancel slot serial s).state := by
  unfold requestCancel onSession
  split
  · exact .refl s
  · dsimp only
    split
    · next hwaits => exact .void hwaits
    · exact .refl s

theorem requestStop_handles (p : Port) (slot : Byte) (serial : BitVec 16) (s : State) :
    Handles s (requestStop p slot serial s).state := by
  unfold requestStop onSession
  split
  · exact .refl s
  · dsimp only
    split
    · next hlive => exact stopSession_handles p hlive
    · exact .refl s

theorem requestLookSession_acts (slot : Byte) (s : State) : Acts s (requestLookSession slot s).state := by
  unfold requestLookSession
  split <;> exact .refl s

theorem requestCollect_acts (p : Port) (slot : Byte) (serial : BitVec 16) (s : State) :
    Acts s (requestCollect p slot serial s).state :=
  onSession_acts fun i => by
    split
    · exact accept_acts (.edit rfl)
    · exact refuse_acts s _

theorem requestPause_acts (slot : Byte) (serial : BitVec 16) (s : State) :
    Acts s (requestPause slot serial s).state :=
  onSession_acts fun i => by
    split
    · exact accept_acts (changeReasons_acts i _ s)
    · exact refuse_acts s _

theorem requestResume_acts (slot : Byte) (serial : BitVec 16) (s : State) :
    Acts s (requestResume slot serial s).state :=
  onSession_acts fun i => by
    split
    · exact accept_acts (changeReasons_acts i _ s)
    · exact refuse_acts s _

theorem requestMarkComplete_acts (slot : Byte) (serial : BitVec 16) (s : State) :
    Acts s (requestMarkComplete slot serial s).state :=
  onSession_acts fun i => by
    split
    · next hactive => exact accept_acts (enterComplete_acts (.inl hactive))
    · next hpaused => exact accept_acts (enterComplete_acts (.inr hpaused))
    all_goals exact .refl s

theorem requestSetTarget_acts (slot : Byte) (serial : BitVec 16) (target : BitVec 32) (s : State) :
    Acts s (requestSetTarget slot serial target s).state := by
  unfold requestSetTarget
  split
  · exact refuse_acts s _
  · refine onSession_acts fun i => ?_
    split
    · exact accept_acts (.edit rfl)
    · split
      · next hlive => exact accept_acts (retarget_acts _ hlive)
      · exact refuse_acts s _

/-! ### Account requests -/

theorem adjustAccount_acts (a : Fin 16) (sum : Int) (s : State) : Acts s (adjustAccount a sum s) :=
  .account rfl rfl .rfl

theorem requestAdjust_acts (index : Byte) (id : BitVec 32) (amount : BitVec 40) (s : State) :
    Acts s (requestAdjust index id amount s).state :=
  onAccount_acts fun a _ => by
    have hadjusted := adjustAccount_acts a ((s.account a).balance + amount.toInt) s
    exact accept_acts (.ite (hadjusted.trans (creditRetry_acts a _)) hadjusted)

theorem requestSetLimit_acts (index : Byte) (id : BitVec 32) (limit : BitVec 40) (s : State) :
    Acts s (requestSetLimit index id limit s).state :=
  onAccount_acts fun a _ => by
    split
    · exact refuse_acts s _
    · next l _ =>
      split
      · have hset : Acts s (s.setAccount a { s.account a with limit := some l }) := .account rfl rfl .rfl
        exact accept_acts (.ite (hset.trans (creditRetry_acts a _)) hset)
      · exact refuse_acts s _

theorem requestSetStep_acts (index : Byte) (id : BitVec 32) (holdStep : BitVec 40) (s : State) :
    Acts s (requestSetStep index id holdStep s).state :=
  onAccount_acts fun a _ => by
    split
    · exact refuse_acts s _
    · exact accept_acts (.account rfl rfl .rfl)

theorem requestBlock_acts (index : Byte) (id : BitVec 32) (s : State) :
    Acts s (requestBlock index id s).state :=
  onAccount_acts fun a hused => accept_acts (.account rfl rfl (iff_of_false (by simp) hused))

theorem requestUnblock_acts (index : Byte) (id : BitVec 32) (s : State) :
    Acts s (requestUnblock index id s).state :=
  onAccount_acts fun a hused => by
    split
    · have hset : Acts s (s.setAccount a { s.account a with state := .opened }) :=
        .account rfl rfl (iff_of_false (by simp) hused)
      exact accept_acts (hset.trans (creditRetry_acts a _))
    · exact accept_acts (.refl s)

theorem requestLookAccount_acts (index : Byte) (s : State) : Acts s (requestLookAccount index s).state := by
  unfold requestLookAccount
  split <;> exact .refl s

/-! ### Lookups of the tariff -/

theorem requestLookBand_acts (band : Byte) (s : State) : Acts s (requestLookBand band s).state := by
  unfold requestLookBand
  split <;> exact .refl s

theorem requestLookChain_acts (chain : Byte) (s : State) : Acts s (requestLookChain chain s).state := by
  unfold requestLookChain
  split <;> exact .refl s

/-! ### Heating requests -/

theorem setZoneTo_acts (z : Fin 6) (mode : ZoneMode) (target : Int) (rated : Nat) (s : State) :
    Acts s (setZoneTo z mode target rated s) := by
  have hchanged : Acts s (recomputeDemand z (s.setZone z { s.zone z with
      mode := mode, target := target, rated := rated, drive := driveAfter mode (s.zone z)
      deferred := if clearsDeferred mode (s.zone z) then false else (s.zone z).deferred })) :=
    Acts.trans setZone_acts (recomputeDemand_acts z _)
  have hplanned := Acts.ite (c := withdrawsZone mode rated (s.zone z) (s.planner.plans z) = true)
    (hchanged.trans (.planner (.zone z _))) hchanged
  exact .ite (hplanned.trans (localizerZoneOff_acts z _)) hplanned

theorem requestSetZone_acts (zone mode : Byte) (target : BitVec 16) (rated : BitVec 32) (s : State) :
    Acts s (requestSetZone zone mode target rated s).state := by
  unfold requestSetZone
  split
  · split
    · exact refuse_acts s _
    · exact accept_acts (setZoneTo_acts _ _ _ _ s)
  · exact refuse_acts s _

theorem driveOff_acts (z : Fin 6) (s : State) : Acts s (driveOff z s) := by
  refine .trans ?_ (localizerZoneOff_acts z _)
  exact (setZone_acts (z := z) (r := { s.zone z with drive := false, deferred := false })).trans (.planner (.zone z _))

theorem driveZoneTo_acts (z : Fin 6) (on : Bool) (s : State) : Acts s (driveZoneTo z on s) := by
  unfold driveZoneTo
  split
  · exact .refl s
  · split
    · exact setZone_acts
    · exact driveOff_acts z s

theorem requestDriveZone_acts (zone drive : Byte) (s : State) : Acts s (requestDriveZone zone drive s).state := by
  unfold requestDriveZone
  split
  · split
    · exact refuse_acts s _
    · split
      · exact refuse_acts s _
      · exact accept_acts (driveZoneTo_acts _ _ s)
  · exact refuse_acts s _

theorem restoreZone_acts (z : Fin 6) (s : State) : Acts s (restoreZone z s) :=
  (setZone_acts (z := z) (r := { s.zone z with excluded := false })).trans ((recomputeDemand_acts z _).trans (clearFault_acts _ _))

theorem requestRestoreZone_acts (zone : Byte) (s : State) : Acts s (requestRestoreZone zone s).state := by
  unfold requestRestoreZone
  split
  · exact refuse_acts s _
  · split
    · exact accept_acts (restoreZone_acts _ s)
    · exact refuse_acts s _

theorem requestSetAdmission_acts (count : Byte) (entries : Vector AdmissionOperand 8) (s : State) :
    Acts s (requestSetAdmission count entries s).state := by
  unfold requestSetAdmission
  split
  · exact refuse_acts s _
  · exact accept_acts (.heating rfl fun _ => rfl)

theorem requestLookZone_acts (zone : Byte) (s : State) : Acts s (requestLookZone zone s).state := by
  unfold requestLookZone
  split <;> exact .refl s

/-! ### Requests of the monitor, the Localizer and the Attention Unit -/

theorem applyIsolation_faults (new : IsolationSettings) (m : IsolationMonitor) :
    (applyIsolation new m).faults = m.faults := by
  unfold applyIsolation
  split <;> rfl

theorem applyIsolation_settings (new : IsolationSettings) (m : IsolationMonitor) :
    (applyIsolation new m).settings = new := by
  unfold applyIsolation
  split <;> rfl

theorem within?_some {low high v w : Nat} (h : within? low high v = some w) : w = v ∧ low ≤ v ∧ v ≤ high := by
  unfold within? at h
  split at h
  · next hrange => exact ⟨(Option.some.inj h).symm, hrange⟩
  · simp at h

theorem isolationSettings?_dwell {warning trip persistence autoLocalize dwell : Byte} {new : IsolationSettings}
    (h : isolationSettings? warning trip persistence autoLocalize dwell = some new) : 8 ≤ new.dwell ∧ new.dwell ≤ 64 := by
  unfold isolationSettings? at h
  split at h
  · next w t a d _ _ _ hd =>
    split at h
    · obtain rfl := Option.some.inj h
      obtain ⟨rfl, hlow, hhigh⟩ := within?_some hd
      exact ⟨hlow, hhigh⟩
    · simp at h
  · simp at h

theorem requestSetIsolation_acts (warning trip persistence autoLocalize dwell : Byte) (s : State) :
    Acts s (requestSetIsolation warning trip persistence autoLocalize dwell s).state := by
  unfold requestSetIsolation
  split
  · exact refuse_acts s _
  · next new hnew =>
    refine ⟨setIsolation_works (applyIsolation_faults _ _), fun h => h.of_marks rfl ?_ fun _ => rfl⟩
    show 8 ≤ (applyIsolation new s.isolation).settings.dwell ∧ (applyIsolation new s.isolation).settings.dwell ≤ 64
    rw [applyIsolation_settings]
    exact isolationSettings?_dwell hnew

theorem FaultRecord.seen_nonFree (p : Port) (f : FaultRecord) : (f.seen p).nonFree = f.nonFree := by cases p <;> rfl

theorem requestLookFault_acts (p : Port) (key : Byte) (s : State) : Acts s (requestLookFault p key s).state := by
  unfold requestLookFault
  split
  · exact refuse_acts s _
  · exact accept_acts (setFault_acts (FaultRecord.seen_nonFree p _))

theorem requestTestFaults_acts (m : BitVec 16) (filter : Byte) (s : State) :
    Acts s (requestTestFaults m filter s).state := by
  unfold requestTestFaults
  split
  · exact .refl s
  · by_cases h : 4096 ≤ m.toNat
    · rw [if_pos h]; exact .refl s
    · rw [if_neg h]; exact .refl s

theorem requestLocalize_acts (key : Byte) (s : State) : Acts s (requestLocalize key s).state := by
  unfold requestLocalize
  split
  · exact refuse_acts s _
  · split
    · exact refuse_acts s _
    · next hdwell =>
      have hidle : s.localizer.state = .idle := by
        cases h : s.localizer.state
        · rfl
        · exact absurd h hdwell
      split
      · exact refuse_acts s _
      · split
        · exact accept_acts (startLocalization_acts _ hidle)
        · exact refuse_acts s _

theorem requestSetAttention_acts (p : Port) (m : BitVec 16) (s : State) :
    Acts s (requestSetAttention p m s).state := by
  unfold requestSetAttention
  split
  · exact .refl s
  · exact accept_acts (.same (sameBlocks_setAttention s _))

theorem requestClearAttention_acts (p : Port) (m : BitVec 16) (s : State) :
    Acts s (requestClearAttention p m s).state := by
  unfold requestClearAttention
  split
  · exact .refl s
  · exact accept_acts (.same (sameBlocks_setAttention s _))

/-! ### All of them -/

/-- The requests that make, end, free or reset a record of their own kind, or set what another invariant is about: each is
taken on its own. -/
def takenAlone : Request → Bool
  | .authorize .. | .cancel .. | .stop .. | .release .. | .openAccount .. | .closeAccount .. | .writeBand .. | .freeBand .. | .sealChain ..
  | .unsealChain .. | .setCalendar .. | .setLifetime .. | .setHeating .. | .retireFault .. | .warmReset => true
  | _ => false

/-- Every other request is in the closure of the shared operations. -/
theorem serve_acts (p : Port) (s : State) {r : Request} (h : takenAlone r = false) : Acts s (serve p s r).state := by
  cases r with
  | authorize | cancel | stop | release | openAccount | closeAccount | writeBand | freeBand | sealChain | unsealChain
  | setCalendar | setLifetime | setHeating | retireFault | warmReset => exact absurd h.symm Bool.false_ne_true
  | lookSession slot => exact requestLookSession_acts slot s
  | collect slot serial => exact requestCollect_acts p slot serial s
  | pause slot serial => exact requestPause_acts slot serial s
  | resume slot serial => exact requestResume_acts slot serial s
  | markComplete slot serial => exact requestMarkComplete_acts slot serial s
  | setTarget slot serial target => exact requestSetTarget_acts slot serial target s
  | adjust index id amount => exact requestAdjust_acts index id amount s
  | setLimit index id limit => exact requestSetLimit_acts index id limit s
  | setStep index id holdStep => exact requestSetStep_acts index id holdStep s
  | block index id => exact requestBlock_acts index id s
  | unblock index id => exact requestUnblock_acts index id s
  | lookAccount index => exact requestLookAccount_acts index s
  | lookBand band => exact requestLookBand_acts band s
  | lookChain chain => exact requestLookChain_acts chain s
  | setZone zone mode target rated => exact requestSetZone_acts zone mode target rated s
  | driveZone zone drive => exact requestDriveZone_acts zone drive s
  | restoreZone zone => exact requestRestoreZone_acts zone s
  | setAdmission count entries => exact requestSetAdmission_acts count entries s
  | lookZone zone => exact requestLookZone_acts zone s
  | setIsolation warning trip persistence autoLocalize dwell =>
    exact requestSetIsolation_acts warning trip persistence autoLocalize dwell s
  | lookFault key => exact requestLookFault_acts p key s
  | testFaults mask filter => exact requestTestFaults_acts mask filter s
  | localize key => exact requestLocalize_acts key s
  | cancelLocalize => exact abortDwell_acts s
  | setAttention mask => exact requestSetAttention_acts p mask s
  | clearAttention mask => exact requestClearAttention_acts p mask s
  | lookCalendar | lookPlan | lookSupply | lookMeter | readAttention => exact .refl s

end Sys2Proof.Machine
end

section
/-! SUPPORT. What the planner's invariants read, and what the operations leave of it: the plan is only cut and withdrawn
from, and link state, Request Line, trip records and heater share stay. -/

namespace Sys2Proof.Machine

/-! ### What a withdrawal leaves -/

theorem mapNotBegun_eq (f : PlanEntry → PlanEntry) (p : Planner) :
    mapNotBegun f p = { p with plan := (mapNotBegun f p).plan } := by
  unfold mapNotBegun
  split <;> rfl

theorem mapFromRunning_eq (f : PlanEntry → PlanEntry) (p : Planner) :
    mapFromRunning f p = { p with plan := (mapFromRunning f p).plan } := by
  unfold mapFromRunning
  split <;> rfl

theorem Planner.cut_eq (budget : Nat) (p : Planner) : p.cut budget = { p with plan := (p.cut budget).plan } := by
  unfold Planner.cut
  split
  · exact mapNotBegun_eq _ p
  · rfl

/-- A withdrawal leaves the planner's state and last command, and switches no line on. -/
theorem Withdraws.keeps {p q : Planner} (h : Withdraws p q) :
    q.state = p.state ∧ q.lastCommand = p.lastCommand ∧
    ∀ z : Fin 6, p.heaterLines[z] = false → q.heaterLines[z] = false := by
  induction h with
  | refl p => exact ⟨rfl, rfl, fun _ => id⟩
  | trans _ _ ih ih' =>
    obtain ⟨hstate, hcommand, hlines⟩ := ih
    obtain ⟨hstate', hcommand', hlines'⟩ := ih'
    exact ⟨hstate'.trans hstate, hcommand'.trans hcommand, fun z h => hlines' z (hlines z h)⟩
  | cut budget p => rw [Planner.cut_eq]; exact ⟨rfl, rfl, fun _ => id⟩
  | charger p => rw [Planner.withdrawCharger, mapNotBegun_eq]; exact ⟨rfl, rfl, fun _ => id⟩
  | zone z p => rw [Planner.withdrawZone, mapNotBegun_eq]; exact ⟨rfl, rfl, fun _ => id⟩
  | zoneAtOnce z p =>
    rw [Planner.withdrawAtOnce, mapFromRunning_eq]
    refine ⟨rfl, rfl, fun y hy => ?_⟩
    show (p.heaterLines.set z false)[y] = false
    simp only [Fin.getElem_fin, Vector.getElem_set] at hy ⊢
    split
    · rfl
    · exact hy

/-! ### What the operations leave of the plant -/

/-- What the planner's invariants read: the plan is only cut and withdrawn from; link state, Request Line, the trips and
the heater share are the same. -/
structure PlantKept (s t : State) : Prop where
  withdraws : Withdraws s.planner t.planner
  link : t.meter.state = s.meter.state
  line : t.supply.requestLine = s.supply.requestLine
  trip : tripHeld t = tripHeld s
  share : t.heating.share = s.heating.share

@[refl] theorem PlantKept.refl (s : State) : PlantKept s s := ⟨.refl _, rfl, rfl, rfl, rfl⟩

theorem PlantKept.trans {s t u : State} (h : PlantKept s t) (h' : PlantKept t u) : PlantKept s u :=
  ⟨h.withdraws.trans h'.withdraws, h'.link.trans h.link, h'.line.trans h.line, h'.trip.trans h.trip,
    h'.share.trans h.share⟩

theorem tripHeld_of_isolation {s t : State} (h : t.isolation = s.isolation) : tripHeld t = tripHeld s := by
  simp only [tripHeld, State.fault, h]

/-- A state whose planner, link state, Request Line, monitor and heating are the same. -/
theorem PlantKept.of_same {s t : State} (hplanner : t.planner = s.planner) (hlink : t.meter.state = s.meter.state)
    (hline : t.supply.requestLine = s.supply.requestLine) (hisolation : t.isolation = s.isolation)
    (hheating : t.heating = s.heating) : PlantKept s t :=
  ⟨hplanner ▸ .refl _, hlink, hline, tripHeld_of_isolation hisolation, by rw [hheating]⟩

theorem Acts.plantKept {s t : State} (h : Acts s t) : PlantKept s t := by
  obtain ⟨h, -⟩ := h
  induction h with
  | same hsame =>
    obtain ⟨_, _, _, _, _, _, _, rfl⟩ := hsame
    exact .of_same rfl rfl rfl rfl rfl
  | trans _ _ ih ih' => exact ih.trans ih'
  | planner hwithdraws => exact ⟨hwithdraws, rfl, rfl, rfl, rfl⟩
  | heating hshare => exact ⟨.refl _, rfl, rfl, rfl, hshare⟩
  | isolation htrip => exact ⟨.refl _, rfl, rfl, htrip, rfl⟩
  | localizer | reasons | complete | retarget | edits | accrued | frozen | topUp | account => exact .of_same rfl rfl rfl rfl rfl

theorem Handles.plantKept {s t : State} (h : Handles s t) : PlantKept s t := by
  induction h with
  | acts hacts => exact hacts.plantKept
  | trans _ _ ih ih' => exact ih.trans ih'
  | goLive | close => exact .of_same (by simp) (by simp) (by simp) (by simp) (by simp)
  | stop => exact .of_same rfl rfl rfl rfl rfl

theorem Voids.plantKept {s t : State} (h : Voids s t) : PlantKept s t := by
  induction h with
  | acts hacts => exact hacts.plantKept
  | trans _ _ ih ih' => exact ih.trans ih'
  | void => exact .of_same (by simp) (by simp) (by simp) (by simp) (by simp)

theorem takeMinute_plantKept (s : State) : PlantKept s (takeMinute s) := by
  cases hcalendar : s.tariff.calendar with
  | none => rw [takeMinute_unset hcalendar]
  | some m =>
    refine .trans ?_ (takeMinute_eq hcalendar).plantKept
    exact .of_same (by simp) (by simp) (by simp) (by simp) (by simp)

/-- A request leaves the plant, unless it resets it, retires a trip record or sets the heater share. -/
theorem serve_plantKept (p : Port) (s : State) {r : Request} (hretire : ∀ key, r ≠ .retireFault key)
    (hheating : ∀ share budget preheat, r ≠ .setHeating share budget preheat) (hreset : r ≠ .warmReset) :
    PlantKept s (serve p s r).state := by
  cases halone : takenAlone r with
  | false => exact (serve_acts p s halone).plantKept
  | true =>
    cases r with
    | stop slot serial => exact (requestStop_handles p slot serial s).plantKept
    | authorize | cancel | release | openAccount | closeAccount | writeBand | freeBand | sealChain | unsealChain
    | setCalendar | setLifetime => exact .of_same (by simp [serve]) (by simp [serve]) (by simp [serve]) (by simp [serve]) (by simp [serve])
    | retireFault key => exact absurd rfl (hretire key)
    | setHeating share budget preheat => exact absurd rfl (hheating share budget preheat)
    | warmReset => exact absurd rfl hreset
    | _ => exact absurd halone Bool.false_ne_true

/-! ### Halt, release, and the fields the planner does not own -/

theorem haltPlanner_of_halted {s : State} (h : s.planner.state = .halted) : haltPlanner s = s := if_pos h

theorem haltPlanner_of_not_halted {s : State} (h : s.planner.state ≠ .halted) :
    haltPlanner s = instructRequestLine false (clearGrants (s.setPlanner (s.planner.allOff .halted))) := if_neg h

theorem haltPlanner_state (s : State) : (haltPlanner s).planner.state = .halted := by
  by_cases h : s.planner.state = .halted
  · rw [haltPlanner_of_halted h, h]
  · rw [haltPlanner_of_not_halted h]; rfl

/-- A release leaves all but the planner's state. -/
theorem releasePlanner_eq (s : State) : releasePlanner s = s ∨
    (s.planner.state = .halted ∧ tripHeld s = false ∧ s.meter.state.isGood = true ∧
      releasePlanner s = s.setPlanner { s.planner with state := .idle }) := by
  unfold releasePlanner
  split
  · next h => exact .inr ⟨h.1, h.2.1, h.2.2, rfl⟩
  · exact .inl rfl

end Sys2Proof.Machine
end

section
/-! The planner runs only on a good link without a trip record, and drives nothing while it does not run: every step
keeps it (R109, R124, R125). -/

namespace Sys2Proof.Machine

/-! ### PlannerSafe and the operations -/

theorem outputsOff_congr {s t : State} (h : PlantKept s t) (hoff : OutputsOff s) : OutputsOff t := by
  obtain ⟨hlines, hcommand, hrequest⟩ := hoff
  obtain ⟨-, hcommand', hlines'⟩ := h.withdraws.keeps
  exact ⟨fun z => hlines' z (hlines z), hcommand'.trans hcommand, h.line.trans hrequest⟩

theorem PlantKept.plannerSafe {s t : State} (h : PlantKept s t) (hs : PlannerSafe s) : PlannerSafe t := by
  obtain ⟨hrunning, hstopped⟩ := hs
  obtain ⟨hstate, -, -⟩ := h.withdraws.keeps
  exact ⟨fun ht => by rw [h.link, h.trip]; exact hrunning (hstate ▸ ht),
    fun ht => outputsOff_congr h (hstopped (hstate ▸ ht))⟩

/-- A planner that does not run and drives nothing is safe. -/
theorem plannerSafe_of_off {s : State} (hstate : s.planner.state ≠ .running) (hoff : OutputsOff s) : PlannerSafe s :=
  ⟨fun h => absurd h hstate, fun _ => hoff⟩

/-- A running planner is safe on a good link without a trip record. -/
theorem plannerSafe_of_running {s : State} (hstate : s.planner.state = .running) (hlink : s.meter.state.isGood = true)
    (htrip : tripHeld s = false) : PlannerSafe s := ⟨fun _ => ⟨hlink, htrip⟩, fun h => absurd hstate h⟩

theorem allOff_outputs (st : PlannerState) (p : Planner) :
    (∀ z : Fin 6, (p.allOff st).heaterLines[z] = false) ∧ (p.allOff st).lastCommand = 0 :=
  ⟨fun z => by simp [Planner.allOff, Planner.powerOn], rfl⟩

/-- After a halt the planner is safe, whatever link and trips were, if it drove nothing where it was HALTED already. -/
theorem haltPlanner_plannerSafe {s : State} (h : s.planner.state = .halted → OutputsOff s) :
    PlannerSafe (haltPlanner s) := by
  refine plannerSafe_of_off (by rw [haltPlanner_state]; simp) ?_
  by_cases hhalted : s.planner.state = .halted
  · rw [haltPlanner_of_halted hhalted]
    exact h hhalted
  · rw [haltPlanner_of_not_halted hhalted]
    obtain ⟨hlines, hcommand⟩ := allOff_outputs .halted s.planner
    exact ⟨hlines, hcommand, by simp [instructRequestLine]⟩

theorem releasePlanner_plannerSafe {s : State} (h : PlannerSafe s) : PlannerSafe (releasePlanner s) := by
  obtain hsame | ⟨hhalted, -, -, hreleased⟩ := releasePlanner_eq s
  · rw [hsame]; exact h
  · rw [hreleased]
    exact plannerSafe_of_off (by simp) (h.2 (by rw [hhalted]; simp))

/-! ### Slots and cycles -/

theorem startSlot_plannerSafe {s : State} (k : Fin 16) (hstate : s.planner.state = .running) (h : PlannerSafe s) :
    PlannerSafe (s.setPlanner (s.planner.startSlot k)) := plannerSafe_of_running hstate (h.1 hstate).1 (h.1 hstate).2

/-- A cycle begins only where the planner may run. -/
theorem cycleBoundary_plannerSafe {s : State} (hlink : s.meter.state.isGood = true) (htrip : tripHeld s = false) :
    PlannerSafe (cycleBoundary s) := by
  have hkept := (evaluateAdmission_acts s).plantKept
  refine plannerSafe_of_running (by simp [cycleBoundary, buildPlan, plannedCycle, Planner.startSlot]) (by simpa) ?_
  rw [tripHeld_of_isolation (s := evaluateAdmission s) (by simp [cycleBoundary]), hkept.trip, htrip]

theorem endSlot_plannerSafe {s : State} (hstate : s.planner.state = .running) (h : PlannerSafe s) :
    PlannerSafe (endSlot s) := by
  unfold endSlot
  split
  · exact h
  · split
    · exact startSlot_plannerSafe _ hstate h
    · exact cycleBoundary_plannerSafe (h.1 hstate).1 (h.1 hstate).2

theorem plannerHeld_plannerSafe {s : State} (h : PlannerSafe s) : PlannerSafe (plannerHeld s) := by
  unfold plannerHeld
  split
  · next hstate => exact endSlot_plannerSafe hstate h
  · exact h
  · exact h

theorem setDerate_plannerSafe {s : State} (d : Derate) (h : PlannerSafe s) :
    PlannerSafe (s.setPlanner { s.planner with derate := d }) := h

theorem plannerAccepted_plannerSafe (f : MeterFrame) (haltedBefore entered : Bool) {s : State} (h : PlannerSafe s) :
    PlannerSafe (plannerAccepted f haltedBefore entered s) := by
  have hderated := setDerate_plannerSafe (nextDerate s.planner.derate f.inlet.toInt) h
  unfold plannerAccepted
  dsimp only
  split
  · split
    · exact releasePlanner_plannerSafe hderated
    · exact hderated
  · split
    · next hstart =>
      obtain ⟨-, hsynced, htrip⟩ := hstart
      exact cycleBoundary_plannerSafe (by rw [State.setPlanner_meter, hsynced]; rfl) htrip
    · exact hderated
  · next hstate =>
    split
    · exact cycleBoundary_plannerSafe (h.1 hstate).1 (h.1 hstate).2
    · have hended := endSlot_plannerSafe hstate hderated
      split
      · exact (cutBudget_acts _).plantKept.plannerSafe hended
      · exact hended

/-! ### Trips -/

/-- A comparator's work, a trip's halt included. -/
theorem comparatorWork_plannerSafe (k : CompareKind) (r : Rail) (reading : Nat) {s : State} (h : PlannerSafe s) :
    PlannerSafe (comparatorWork k r reading s) := by
  cases k with
  | warning => exact (comparatorWarning_acts r reading s).plantKept.plannerSafe h
  | trip =>
    obtain ⟨u, hu, -, -, hwork⟩ := comparatorWork_eq .trip r reading s
    have hsafe := hu.plantKept.plannerSafe h
    rw [hwork]
    unfold actOnRecord
    dsimp only
    split
    · split
      · exact (clearFault_acts _ u).plantKept.plannerSafe hsafe
      · exact hsafe
    · split
      · have hhalted : PlannerSafe (haltPlanner (confirmFault (tripKey r) (some reading) u)) :=
          haltPlanner_plannerSafe fun hstate => by
            simp only [confirmFault_frame] at hstate
            have hoff := hsafe.2 (by rw [hstate]; simp)
            simpa only [OutputsOff, confirmFault_frame] using hoff
        exact (abortDwell_acts _).plantKept.plannerSafe ((handIsolation_acts _ _).plantKept.plannerSafe hhalted)
      · exact hsafe

theorem isolationFrame_plannerSafe (f : MeterFrame) (ended : Option PlanEntry) {s : State} (h : PlannerSafe s) :
    PlannerSafe (isolationFrame f ended s) := by
  refine (mismatchWork_acts f ended _).plantKept.plannerSafe ?_
  split
  · exact comparatorWork_plannerSafe _ _ _ (comparatorWork_plannerSafe _ _ _
      (comparatorWork_plannerSafe _ _ _ (comparatorWork_plannerSafe _ _ _ h)))
  · exact h

/-! ### Meter period events -/

theorem accrueAndEnd_handles (held : Bool) (source : Option BudgetSource) (s : State) :
    Handles s (endClosing (accrue held source s)) := (Handles.acts (accrue_acts held source s)).trans (endClosing_handles _)

theorem takeAccepted_plannerSafe (f : MeterFrame) (a : Arrival) (entered : Bool) (s : State) (x : Taker)
    (h : PlannerSafe s) : PlannerSafe (takeAccepted f a entered s x) := by
  cases x <;> simp only [takeAccepted]
  case accrual => exact (accrueAndEnd_handles _ _ s).plantKept.plannerSafe h
  case heat => exact (heatFrame_acts f s).plantKept.plannerSafe h
  case planner => exact plannerAccepted_plannerSafe f _ _ h
  case isolation => exact isolationFrame_plannerSafe f _ h
  case localizer => exact (localizerFrame_acts f s).plantKept.plannerSafe h
  all_goals exact h

theorem takeHeld_plannerSafe (a : Arrival) (s : State) (x : Taker) (h : PlannerSafe s) : PlannerSafe (takeHeld a s x) := by
  cases x <;> simp only [takeHeld]
  case accrual => exact (accrueAndEnd_handles _ _ s).plantKept.plannerSafe h
  case planner => exact plannerHeld_plannerSafe h
  all_goals exact h

/-- A good link stays good at an accepted frame (R85). -/
theorem linkAfterFrame_good {m : MeterLink} (h : m.state.isGood = true) : (linkAfterFrame m).1.isGood = true := by
  unfold linkAfterFrame
  cases hstate : m.state
  case synced | holding => rfl
  all_goals rw [hstate] at h; exact absurd h Bool.false_ne_true

theorem setMeter_plannerSafe {s : State} {m : MeterLink} (hlink : s.meter.state.isGood = true → m.state.isGood = true)
    (h : PlannerSafe s) : PlannerSafe (s.setMeter m) := ⟨fun hr => ⟨hlink (h.1 hr).1, (h.1 hr).2⟩, h.2⟩

theorem enterSynced_plantKept (s : State) : PlantKept s (enterSynced s) := by
  refine .trans ?_ ((sessionsSynced_acts _).plantKept.trans (clearFault_acts _ _).plantKept)
  exact .of_same rfl rfl rfl rfl rfl

theorem acceptFrame_plannerSafe (f : MeterFrame) {s : State} (h : PlannerSafe s) : PlannerSafe (acceptFrame f s) := by
  have hlinked := setMeter_plannerSafe (m := s.meter.accepted f) linkAfterFrame_good h
  refine foldl_keeps (takeAccepted_plannerSafe f _ _) _ ?_
  refine (Acts.same (sameBlocks_dropChoice _)).plantKept.plannerSafe ?_
  split
  · exact (enterSynced_plantKept _).plannerSafe hlinked
  · exact hlinked

theorem takeDataWord_plannerSafe (w : Word) {s : State} (h : PlannerSafe s) : PlannerSafe (takeDataWord w s) := by
  unfold takeDataWord
  split
  · exact h
  · split
    · exact h
    · dsimp only
      split
      · exact h
      · exact acceptFrame_plannerSafe _ (setMeter_plannerSafe (m := { s.meter with assembly := none }) id h)

theorem heldEvent_plannerSafe {s : State} (h : PlannerSafe s) : PlannerSafe (heldEvent s) :=
  foldl_keeps (takeHeld_plannerSafe _) _ ((Acts.same (sameBlocks_dropChoice s)).plantKept.plannerSafe h)

theorem lostEvent_plannerSafe {s : State} (h : PlannerSafe s) : PlannerSafe (lostEvent s) :=
  (endClosing_handles s).plantKept.plannerSafe h

/-- The entry to LOST halts the planner. -/
theorem enterLost_plannerSafe {s : State} (h : PlannerSafe s) : PlannerSafe (enterLost s) := by
  refine (abortDwell_acts _).plantKept.plannerSafe ((confirmFault_acts (fun r => by cases r <;> decide) _ _).plantKept.plannerSafe
    ((sessionsLost_acts _).plantKept.plannerSafe (haltPlanner_plannerSafe fun hstate => ?_)))
  have hoff := h.2 (by rw [show s.planner.state = .halted from hstate]; simp)
  exact hoff

theorem takeOverdue_plannerSafe {s : State} (h : PlannerSafe s) : PlannerSafe (takeOverdue s) := by
  have hrearmed : PlannerSafe (rearmOverdue s) := h
  unfold takeOverdue
  dsimp only
  split
  · next hsynced => exact heldEvent_plannerSafe (setMeter_plannerSafe (fun _ => rfl) hrearmed)
  · next hholding =>
    split
    · exact heldEvent_plannerSafe (setMeter_plannerSafe id hrearmed)
    · exact lostEvent_plannerSafe (enterLost_plannerSafe hrearmed)
  · exact lostEvent_plannerSafe hrearmed
  · exact lostEvent_plannerSafe hrearmed
  · exact lostEvent_plannerSafe (setMeter_plannerSafe id hrearmed)

theorem takeLostExpiry_plantKept (s : State) : PlantKept s (takeLostExpiry s) := by
  unfold takeLostExpiry
  split
  · exact .refl s
  · refine .trans ?_ (sessionsMeterLost_handles _).plantKept
    exact .of_same rfl rfl rfl rfl rfl

/-! ### The Offer Line -/

theorem adoptClass_requestLine (cls : LevelClass) (m : OfferMonitor) : (m.adoptClass cls).requestLine = m.requestLine := by
  unfold OfferMonitor.adoptClass
  (repeat' split) <;> rfl

theorem adoptOffer_requestLine (offer : Option Nat) (m : OfferMonitor) : (m.adoptOffer offer).requestLine = m.requestLine := by
  unfold OfferMonitor.adoptOffer
  split <;> rfl

/-- A period never activates the Request Line. -/
theorem taken_requestLine (offer : Option Nat) (cls : LevelClass) (last : LastPeriod) (m : OfferMonitor) :
    (m.taken offer cls last).requestLine = m.requestLine ∨ (m.taken offer cls last).requestLine = false := by
  unfold OfferMonitor.taken OfferMonitor.settled
  dsimp only
  split
  · exact .inr rfl
  · split
    · exact .inr rfl
    · exact .inl ((adoptClass_requestLine cls _).trans (adoptOffer_requestLine offer _))

theorem setSupply_plannerSafe {s : State} {m : OfferMonitor}
    (hline : m.requestLine = s.supply.requestLine ∨ m.requestLine = false) (h : PlannerSafe s) :
    PlannerSafe (s.setSupply m) :=
  ⟨h.1, fun hstate => by
    obtain ⟨hlines, hcommand, hrequest⟩ := h.2 hstate
    exact ⟨hlines, hcommand, hline.elim (fun he => he.trans hrequest) id⟩⟩

theorem takePeriod_handles (offer : Option Nat) (cls : LevelClass) (last : LastPeriod) (s : State) :
    Handles (s.setSupply (s.supply.taken offer cls last)) (takePeriod offer cls last s) := by
  refine (handSupplyToSessions_handles s.supply.state _).trans (.acts ?_)
  exact (offeredChanged_acts s.supply.offered _).trans ((handSupplyToFaults_acts s.supply.state _).trans (postPlug_acts s.supply.state _))

theorem takePeriod_plannerSafe (offer : Option Nat) (cls : LevelClass) (last : LastPeriod) {s : State}
    (h : PlannerSafe s) : PlannerSafe (takePeriod offer cls last s) :=
  (takePeriod_handles offer cls last s).plantKept.plannerSafe
    (setSupply_plannerSafe (taken_requestLine offer cls last s.supply) h)

theorem takeRisingEdge_plannerSafe (w : Word) {s : State} (h : PlannerSafe s) : PlannerSafe (takeRisingEdge w s) := by
  unfold takeRisingEdge
  dsimp only
  split
  · exact h
  · exact h
  · exact takePeriod_plannerSafe _ _ _ (s := setCapture (.timing 0 none) (restartOverflow s)) h

theorem takeFallingEdge_plannerSafe (w : Word) {s : State} (h : PlannerSafe s) : PlannerSafe (takeFallingEdge w s) := by
  unfold takeFallingEdge
  split <;> exact h

theorem takeOverflow_plannerSafe (w : Word) {s : State} (h : PlannerSafe s) : PlannerSafe (takeOverflow w s) :=
  takePeriod_plannerSafe _ _ _ (s := setCapture .waiting (restartOverflow s)) h

/-! ### Resets and requests -/

theorem warmReset_plannerSafe (s : State) : PlannerSafe (warmReset s) := by
  refine plannerSafe_of_off (s := warmReset s) (by simp [warmReset, resetPlanner, Planner.powerOn]) ⟨fun z => ?_, ?_, ?_⟩
  · simp [warmReset, resetPlanner, Planner.powerOn]
  · simp [warmReset, resetPlanner, Planner.powerOn]
  · simp only [warmReset, resetPorts_frame, resetPlanner_frame, resetHeating_frame]
    unfold resetSupply
    dsimp only
    split <;> simp [State.reset]

theorem powerOnState_plannerSafe (s : State) : PlannerSafe (powerOnState s) := by
  refine plannerSafe_of_off (by simp [powerOnState, State.reset, Planner.powerOn]) ⟨fun z => ?_, rfl, rfl⟩
  simp [powerOnState, State.reset, Planner.powerOn]

/-- A retired trip record only takes a trip away. -/
theorem retireFault_plannerSafe (k : Fin 12) {s : State} (h : PlannerSafe s) : PlannerSafe (retireFault k s) := by
  have hnonFree (j : Fin 12) (hj : (s.fault j).nonFree = false) :
      ((s.setFault k (s.fault k).retired).fault j).nonFree = false := by
    rw [State.setFault_at]
    split
    · rfl
    · exact hj
  have hretired : PlannerSafe (s.setFault k (s.fault k).retired) := by
    refine ⟨fun hr => ⟨(h.1 hr).1, ?_⟩, h.2⟩
    have htrip := (h.1 hr).2
    simp only [tripHeld, Bool.or_eq_false_iff] at htrip ⊢
    exact ⟨hnonFree _ htrip.1, hnonFree _ htrip.2⟩
  have htold := (handIsolation_acts (isolationCondition s) _).plantKept.plannerSafe hretired
  unfold retireFault
  dsimp only
  split
  · exact releasePlanner_plannerSafe htold
  · exact htold

theorem serve_plannerSafe (p : Port) (r : Request) {s : State} (h : PlannerSafe s) : PlannerSafe (serve p s r).state := by
  cases r with
  | retireFault key =>
    show PlannerSafe (requestRetireFault key s).state
    unfold requestRetireFault
    split
    · exact h
    · split
      · exact h
      · exact retireFault_plannerSafe _ h
  | setHeating share budget preheat =>
    show PlannerSafe (requestSetHeating share budget preheat s).state
    unfold requestSetHeating
    split <;> exact h
  | warmReset => exact warmReset_plannerSafe s
  | _ => exact (serve_plantKept p s (by simp) (by simp) (by simp)).plannerSafe h

theorem Move.plannerSafe {s t : State} (hmove : Move s t) (h : PlannerSafe s) : PlannerSafe t := by
  have htime (us : Nat) (s : State) (h : PlannerSafe s) : PlannerSafe (passTime us s) := h
  cases hmove with
  | nothing => exact h
  | served p r => exact serve_plannerSafe p r h
  | warmReset => exact warmReset_plannerSafe s
  | powerOn => exact powerOnState_plannerSafe s
  | time us => exact htime us s h
  | frameSync => exact h
  | dataWord w => exact takeDataWord_plannerSafe w h
  | overdue us => exact takeOverdue_plannerSafe (htime us s h)
  | lostExpiry us => exact (takeLostExpiry_plantKept _).plannerSafe (htime us s h)
  | risingEdge us w => exact takeRisingEdge_plannerSafe w (htime us s h)
  | fallingEdge us w => exact takeFallingEdge_plannerSafe w (htime us s h)
  | overflow us w => exact takeOverflow_plannerSafe w (htime us s h)
  | minute us => exact (takeMinute_plantKept _).plannerSafe (htime us s h)

/-- Settles O53: each move of a step keeps the planner safe. -/
theorem stepsKeepPlannerSafe : Obligations.StepsKeepPlannerSafe := fun _ _ hs hstep =>
  step_keeps (P := PlannerSafe) (fun hsame => (Acts.same hsame).plantKept.plannerSafe) Move.plannerSafe hstep hs

end Sys2Proof.Machine
end

section
/-! No slot of the plan draws more than its budget, and its heater power is that of its zones: every step keeps it (R108,
R112 to R116, R120 to R123). -/

namespace Sys2Proof.Machine

/-! ### Rated powers in an entry -/

theorem ratedSum_eq_sum (e : PlanEntry) : e.ratedSum = ∑ z : Fin 6, (e.zones[z]).getD 0 := by
  have hlist : e.zones.toList = List.ofFn fun z : Fin 6 => e.zones[z] :=
    List.ext_getElem (by simp) fun i _ _ => by
      simp only [Vector.getElem_toList, List.getElem_ofFn, Fin.getElem_fin]
  rw [PlanEntry.ratedSum, hlist, List.map_ofFn, List.sum_ofFn]
  rfl

/-- The rated power of one zone and of all others. -/
theorem ratedSum_eq_add (z : Fin 6) (e : PlanEntry) :
    e.ratedSum = (e.zones[z]).getD 0 + ∑ y ∈ Finset.univ.erase z, (e.zones[y]).getD 0 := by
  rw [ratedSum_eq_sum]
  exact (Finset.add_sum_erase Finset.univ (fun y : Fin 6 => (e.zones[y]).getD 0) (Finset.mem_univ z)).symm

theorem ratedSum_remove (z : Fin 6) (e : PlanEntry) : (e.remove z).ratedSum = e.ratedSum - (e.zones[z]).getD 0 := by
  have hothers : ∑ y ∈ Finset.univ.erase z, ((e.remove z).zones[y]).getD 0 =
      ∑ y ∈ Finset.univ.erase z, (e.zones[y]).getD 0 := by
    refine Finset.sum_congr rfl fun y hy => ?_
    rw [remove_zones, if_neg (Finset.ne_of_mem_erase hy)]
  rw [ratedSum_eq_add z, ratedSum_eq_add z e, hothers, remove_zones, if_pos rfl]
  simp

theorem add_zones (z y : Fin 6) (rated : Nat) (e : PlanEntry) :
    (e.add z rated).zones[y] = if y = z then some rated else e.zones[y] := by
  simp only [PlanEntry.add, Fin.getElem_fin, Vector.getElem_set, Fin.val_inj, eq_comm]

theorem ratedSum_add {z : Fin 6} {e : PlanEntry} (rated : Nat) (hnot : e.holds z = false) :
    (e.add z rated).ratedSum = e.ratedSum + rated := by
  have hnone : e.zones[z] = none := by simpa [PlanEntry.holds] using hnot
  have hothers : ∑ y ∈ Finset.univ.erase z, ((e.add z rated).zones[y]).getD 0 =
      ∑ y ∈ Finset.univ.erase z, (e.zones[y]).getD 0 := by
    refine Finset.sum_congr rfl fun y hy => ?_
    rw [add_zones, if_neg (Finset.ne_of_mem_erase hy)]
  rw [ratedSum_eq_add z, ratedSum_eq_add z e, hothers, add_zones, if_pos rfl, hnone]
  simp only [Option.getD_some, Option.getD_none]
  omega

theorem ratedSum_of_no_zones {e : PlanEntry} (h : ∀ z, e.holds z = false) : e.ratedSum = 0 := by
  rw [ratedSum_eq_sum]
  refine Finset.sum_eq_zero fun z _ => ?_
  have hnone : e.zones[z] = none := by simpa [PlanEntry.holds] using h z
  rw [hnone]; rfl

theorem holds_remove {z y : Fin 6} {e : PlanEntry} (h : (e.remove z).holds y = true) : y ≠ z ∧ e.holds y = true := by
  simp only [PlanEntry.holds, remove_zones] at h ⊢
  split at h
  · simp at h
  · next hne => exact ⟨hne, h⟩

theorem holds_add {z y : Fin 6} {rated : Nat} {e : PlanEntry} (h : (e.add z rated).holds y = true) :
    y = z ∨ e.holds y = true := by
  simp only [PlanEntry.holds, add_zones] at h ⊢
  split at h
  · next heq => exact .inl heq
  · exact .inr h

/-! ### Sound entries -/

/-- An entry draws no more than its budget, and its heater power is that of its zones. -/
def EntrySound (e : PlanEntry) : Prop := e.heaterPower + e.command ≤ e.budget ∧ e.heaterPower = e.ratedSum

theorem entrySound_empty : EntrySound .empty := ⟨Nat.zero_le _, by decide⟩

theorem EntrySound.remove {e : PlanEntry} (h : EntrySound e) (z : Fin 6) : EntrySound (e.remove z) := by
  obtain ⟨hbudget, hpower⟩ := h
  obtain ⟨hb, hc⟩ := remove_budget z e
  refine ⟨?_, ?_⟩
  · rw [remove_heaterPower, hb, hc]; omega
  · rw [remove_heaterPower, ratedSum_remove, hpower]

theorem EntrySound.foldl_remove (gone : List (Fin 6)) {e : PlanEntry} (h : EntrySound e) :
    EntrySound (gone.foldl (fun e z => e.remove z) e) := by
  induction gone generalizing e with
  | nil => exact h
  | cons z rest ih => exact ih (h.remove z)

theorem holds_foldl_remove {y : Fin 6} (gone : List (Fin 6)) {e : PlanEntry}
    (h : (gone.foldl (fun e z => e.remove z) e).holds y = true) : y ∉ gone ∧ e.holds y = true := by
  simp only [PlanEntry.holds, foldl_remove_zones] at h ⊢
  split at h
  · simp at h
  · next hnot => exact ⟨hnot, h⟩

/-- A lower command keeps an entry sound. -/
theorem EntrySound.lower {e : PlanEntry} {c : Nat} (h : EntrySound e) (hc : c ≤ e.command) :
    EntrySound { e with command := c } := ⟨by have := h.1; simp only; omega, h.2⟩

/-- The zones that a cut leaves in an entry fit the new budget, where the placement order names every zone of the
entry. -/
theorem dropLatest_heaterPower {budget : Nat} {order : List (Fin 6)} {e : PlanEntry} (h : EntrySound e)
    (hplaced : ∀ z, e.holds z = true → z ∈ order) : (dropLatest budget order.reverse e).heaterPower ≤ budget := by
  obtain ⟨gone, kept, hsplit, hdropped, hfits, -⟩ := dropLatest_removes budget order.reverse e
  by_cases hkept : kept = []
  · have hgone : order.reverse = gone := by rw [hsplit, hkept, List.append_nil]
    have hnone : ∀ z, (gone.foldl (fun e z => e.remove z) e).holds z = false := by
      intro z
      by_contra hz
      obtain ⟨hnot, hheld⟩ := holds_foldl_remove gone (by simpa using hz)
      exact hnot (hgone ▸ List.mem_reverse.2 (hplaced z hheld))
    rw [hdropped, (h.foldl_remove gone).2, ratedSum_of_no_zones hnone]
    exact Nat.zero_le _
  · exact hfits hkept

/-- A cut leaves an entry sound, and adds no zone. -/
theorem trimEntry_sound {budget : Nat} {order : List (Fin 6)} {e : PlanEntry} (h : EntrySound e)
    (hplaced : ∀ z, e.holds z = true → z ∈ order) :
    EntrySound (trimEntry budget order e) ∧ ∀ z, (trimEntry budget order e).holds z = true → e.holds z = true := by
  unfold trimEntry
  split
  · exact ⟨h, fun _ => id⟩
  · have hfits := dropLatest_heaterPower (budget := budget) h hplaced
    obtain ⟨gone, kept, -, hdropped, -⟩ := dropLatest_removes budget order.reverse e
    have hsound := h.foldl_remove gone
    rw [← hdropped] at hsound
    refine ⟨⟨?_, hsound.2⟩, fun z hz => ?_⟩
    · simp only; omega
    · have hz' : (dropLatest budget order.reverse e).holds z = true := hz
      rw [hdropped] at hz'
      exact (holds_foldl_remove gone hz').2

/-! ### Sound plans -/

/-- The planner's part of the invariant: sound entries, and in a slot not yet begun only zones of the placement order. -/
def PlannedSound (p : Planner) : Prop :=
  (∀ k : Fin 16, EntrySound p.plan[k]) ∧
  ∀ now, p.state = .running → p.slot = some now → ∀ k : Fin 16, now < k → ∀ z, (p.plan[k]).holds z = true → z ∈ p.order

theorem planSound_iff (s : State) : PlanSound s ↔ PlannedSound s.planner ∧ s.heating.share ≤ 100 := by
  rw [PlanSound, PlannedSound, and_assoc]
  rfl

/-- A rewriting of the slots not yet begun that keeps entries sound and adds no zone. -/
theorem mapNotBegun_sound {f : PlanEntry → PlanEntry} {p : Planner} (hp : PlannedSound p)
    (hf : ∀ e, EntrySound e → (∀ z, e.holds z = true → z ∈ p.order) →
      EntrySound (f e) ∧ ∀ z, (f e).holds z = true → e.holds z = true) : PlannedSound (mapNotBegun f p) := by
  obtain ⟨hsound, hplaced⟩ := hp
  unfold mapNotBegun
  split
  · next now hstate hslot =>
    have hcase (k : Fin 16) (hk : now < k) := hf _ (hsound k) (hplaced now hstate hslot k hk)
    refine ⟨fun k => ?_, fun now' _ hslot' k hk z hz => ?_⟩
    · simp only [mapIndexed_get]
      split
      · next hk => exact (hcase k hk).1
      · exact hsound k
    · obtain rfl : now = now' := Option.some.inj (hslot.symm.trans hslot')
      simp only [mapIndexed_get, if_pos hk] at hz
      exact hplaced now hstate hslot k hk z ((hcase k hk).2 z hz)
  · exact ⟨hsound, hplaced⟩

theorem Planner.cut_sound {budget : Nat} {p : Planner} (hp : PlannedSound p) : PlannedSound (p.cut budget) := by
  unfold Planner.cut
  split
  · exact mapNotBegun_sound hp fun e he hplaced => trimEntry_sound he hplaced
  · exact hp

theorem Planner.withdrawCharger_sound {p : Planner} (hp : PlannedSound p) : PlannedSound p.withdrawCharger :=
  mapNotBegun_sound hp fun _ he _ => ⟨he.lower (Nat.zero_le _), fun _ => id⟩

theorem Planner.withdrawZone_sound {p : Planner} (z : Fin 6) (hp : PlannedSound p) : PlannedSound (p.withdrawZone z) :=
  mapNotBegun_sound hp fun _ he _ => ⟨he.remove z, fun _ h => (holds_remove h).2⟩

theorem Planner.withdrawAtOnce_sound {p : Planner} (z : Fin 6) (hp : PlannedSound p) :
    PlannedSound (p.withdrawAtOnce z) := by
  obtain ⟨hsound, hplaced⟩ := hp
  unfold Planner.withdrawAtOnce mapFromRunning
  dsimp only
  split
  · next now hstate hslot =>
    refine ⟨fun k => ?_, fun now' _ hslot' k hk y hy => ?_⟩
    · simp only [mapIndexed_get]
      split
      · exact (hsound k).remove z
      · exact hsound k
    · obtain rfl : now = now' := Option.some.inj (hslot.symm.trans hslot')
      simp only [mapIndexed_get, if_pos hk.le] at hy
      obtain ⟨hne, hheld⟩ := holds_remove hy
      exact (List.mem_erase_of_ne hne).2 (hplaced now hstate hslot k hk y hheld)
  · next hstopped => exact ⟨hsound, fun now hstate hslot => absurd hslot (hstopped now hstate)⟩

theorem Withdraws.sound {p q : Planner} (h : Withdraws p q) (hp : PlannedSound p) : PlannedSound q := by
  induction h with
  | refl => exact hp
  | trans _ _ ih ih' => exact ih' (ih hp)
  | cut => exact Planner.cut_sound hp
  | charger => exact Planner.withdrawCharger_sound hp
  | zone z => exact Planner.withdrawZone_sound z hp
  | zoneAtOnce z => exact Planner.withdrawAtOnce_sound z hp

theorem PlantKept.planSound {s t : State} (h : PlantKept s t) (hs : PlanSound s) : PlanSound t := by
  rw [planSound_iff] at hs ⊢
  exact ⟨h.withdraws.sound hs.1, by rw [h.share]; exact hs.2⟩

/-- A planner with an empty plan is sound. -/
theorem plannedSound_empty {p : Planner} (hplan : p.plan = Vector.replicate 16 .empty) : PlannedSound p := by
  have hentry (k : Fin 16) : p.plan[k] = .empty := by simp [hplan]
  refine ⟨fun k => by rw [hentry]; exact entrySound_empty, fun now _ _ k _ z hz => ?_⟩
  rw [hentry] at hz
  simp [PlanEntry.holds, PlanEntry.empty] at hz

/-- A later slot begins: fewer slots have not yet begun. -/
theorem startSlot_sound {p : Planner} {now k : Fin 16} (hslot : p.slot = some now) (hle : now ≤ k)
    (hp : PlannedSound p) : PlannedSound (p.startSlot k) := by
  refine ⟨hp.1, fun now' hstate hslot' j hj z hz => ?_⟩
  obtain rfl : k = now' := Option.some.inj hslot'
  exact hp.2 now hstate hslot j (hle.trans_lt hj) z hz

/-! ### The building of a plan (R114 to R116) -/

/-- What holds of every entry while a plan is built: the budget is that of the cycle, no charger command is set yet, the
heater power is that of the zones and within the cap, and every zone is one of `placed`. -/
def EntryDrafted (budget cap : Nat) (placed : List (Fin 6)) (e : PlanEntry) : Prop :=
  e.budget = budget ∧ e.command = 0 ∧ e.heaterPower = e.ratedSum ∧ e.heaterPower ≤ cap ∧
  ∀ z, e.holds z = true → z ∈ placed

theorem EntryDrafted.mono {budget cap : Nat} {placed placed' : List (Fin 6)} {e : PlanEntry}
    (h : EntryDrafted budget cap placed e) (hsub : ∀ z ∈ placed, z ∈ placed') : EntryDrafted budget cap placed' e := by
  obtain ⟨hb, hc, hp, hle, hheld⟩ := h
  exact ⟨hb, hc, hp, hle, fun z hz => hsub z (hheld z hz)⟩

theorem EntryDrafted.add {budget cap rated : Nat} {placed : List (Fin 6)} {z : Fin 6} {e : PlanEntry}
    (h : EntryDrafted budget cap placed e) (hnot : e.holds z = false) (hfits : e.heaterPower + rated ≤ cap) :
    EntryDrafted budget cap (placed ++ [z]) (e.add z rated) := by
  obtain ⟨hb, hc, hp, -, hheld⟩ := h
  refine ⟨hb, hc, by rw [ratedSum_add rated hnot, ← hp]; rfl, hfits, fun y hy => ?_⟩
  rcases holds_add hy with rfl | hy
  · simp
  · simp [hheld y hy]

/-- A draft under the direct placement: drafted entries, all of one heater power. -/
def DirectDrafted (budget cap : Nat) (d : Draft) : Prop :=
  (∀ k : Fin 16, EntryDrafted budget cap d.order d.plan[k]) ∧
  ∀ k : Fin 16, (d.plan[k]).heaterPower = d.directPower

theorem draftStart_drafted (budget cap : Nat) : DirectDrafted budget cap (Draft.start budget) := by
  have hentry (k : Fin 16) : (Draft.start budget).plan[k] = { PlanEntry.empty with budget := budget } := by
    simp [Draft.start]
  refine ⟨fun k => ?_, fun k => ?_⟩
  · rw [hentry]
    refine ⟨rfl, rfl, entrySound_empty.2, Nat.zero_le _, fun z hz => ?_⟩
    simp [PlanEntry.holds, PlanEntry.empty] at hz
  · rw [Draft.directPower, hentry, hentry]

theorem placeDirect_drafted {budget cap : Nat} {zones : Vector Zone 6} {d : Draft} {z : Fin 6}
    (h : DirectDrafted budget cap d) (hnew : z ∉ d.order) :
    DirectDrafted budget cap (placeDirect cap zones d z) ∧
    ∀ y, y ≠ z → y ∉ d.order → y ∉ (placeDirect cap zones d z).order := by
  obtain ⟨hentries, hpower⟩ := h
  unfold placeDirect
  split
  · split
    · next hfits =>
      refine ⟨⟨fun k => ?_, fun k => ?_⟩, fun y hne hy => ?_⟩
      · simp only [mapIndexed_get]
        refine (hentries k).add ?_ (by rw [hpower k]; exact hfits)
        by_contra hheld
        exact hnew ((hentries k).2.2.2.2 z (by simpa using hheld))
      · simp only [Draft.directPower, mapIndexed_get]
        show (d.plan[k]).heaterPower + _ = (d.plan[(0 : Fin 16)]).heaterPower + _
        rw [hpower k]; rfl
      · simp only [List.mem_append, List.mem_singleton]
        exact not_or.2 ⟨hy, hne⟩
    · exact ⟨⟨hentries, hpower⟩, fun y _ hy => hy⟩
  · exact ⟨⟨hentries, hpower⟩, fun y _ hy => hy⟩

theorem foldl_placeDirect_drafted {budget cap : Nat} {zones : Vector Zone 6} (l : List (Fin 6)) (hl : l.Nodup)
    {d : Draft} (h : DirectDrafted budget cap d) (hnew : ∀ z ∈ l, z ∉ d.order) :
    DirectDrafted budget cap (l.foldl (placeDirect cap zones) d) := by
  induction l generalizing d with
  | nil => exact h
  | cons z rest ih =>
    obtain ⟨hz, hrest⟩ := List.nodup_cons.1 hl
    obtain ⟨hplaced, hothers⟩ := placeDirect_drafted (zones := zones) h (hnew z List.mem_cons_self)
    refine ih hrest hplaced fun y hy => hothers y ?_ (hnew y (List.mem_cons_of_mem _ hy))
    rintro rfl
    exact hz hy

/-- The slots that a zone is placed in stay drafted; without one the plan stays. -/
theorem placeSlots_drafted {budget cap rated : Nat} {placed : List (Fin 6)} {z : Fin 6} (n : Nat)
    {plan : Vector PlanEntry 16} (h : ∀ k : Fin 16, EntryDrafted budget cap placed plan[k]) :
    (∀ k : Fin 16, EntryDrafted budget cap (placed ++ [z]) (placeSlots cap z rated n plan).1[k]) ∧
    ((placeSlots cap z rated n plan).2 = 0 → (placeSlots cap z rated n plan).1 = plan) := by
  have hmore (k : Fin 16) : EntryDrafted budget cap (placed ++ [z]) plan[k] :=
    (h k).mono fun y hy => List.mem_append_left _ hy
  cases n with
  | zero => exact ⟨hmore, fun _ => rfl⟩
  | succ n =>
    have hbest := bestSlot_finds cap z rated plan
    cases hb : bestSlot cap z rated plan with
    | none =>
      simp only [placeSlots, hb]
      exact ⟨hmore, fun _ => trivial⟩
    | some b =>
      rw [hb] at hbest
      have htake := hbest.1
      simp only [placeSlots, hb]
      simp only [canTake, Bool.and_eq_true, Bool.not_eq_true', decide_eq_true_eq] at htake
      have hset (k : Fin 16) : EntryDrafted budget cap (placed ++ [z]) (plan.set b (plan[b].add z rated))[k] := by
        simp only [Fin.getElem_fin, Vector.getElem_set]
        split
        · exact (h b).add htake.1 htake.2
        · exact hmore k
      have hrest := (placeSlots_drafted (z := z) (rated := rated) n hset).1
      refine ⟨fun k => (hrest k).mono fun y hy => ?_, fun hzero => absurd hzero (Nat.succ_ne_zero _)⟩
      simp only [List.mem_append, List.mem_singleton, or_assoc, or_self] at hy ⊢
      exact hy

theorem placeAuto_drafted {budget cap : Nat} {zones : Vector Zone 6} {d : Draft} (z : Fin 6)
    (h : ∀ k : Fin 16, EntryDrafted budget cap d.order d.plan[k]) :
    ∀ k : Fin 16, EntryDrafted budget cap (placeAuto cap zones d z).order (placeAuto cap zones d z).plan[k] := by
  obtain ⟨hplaced, hnone⟩ := placeSlots_drafted (z := z) (rated := zones[z].rated) zones[z].demand h
  unfold placeAuto
  dsimp only
  split
  · exact hplaced
  · next hzero =>
    rw [hnone (by omega)]
    exact h

theorem foldl_placeAuto_drafted {budget cap : Nat} {zones : Vector Zone 6} (l : List (Fin 6)) {d : Draft}
    (h : ∀ k : Fin 16, EntryDrafted budget cap d.order d.plan[k]) :
    ∀ k : Fin 16, EntryDrafted budget cap (l.foldl (placeAuto cap zones) d).order
      (l.foldl (placeAuto cap zones) d).plan[k] := by
  induction l generalizing d with
  | nil => exact h
  | cons z rest ih => exact ih (placeAuto_drafted z h)

/-- Every entry that the placement leaves is drafted. -/
theorem placeZones_drafted (budget cap : Nat) (zones : Vector Zone 6) (k : Fin 16) :
    EntryDrafted budget cap (placeZones budget cap zones).order (placeZones budget cap zones).plan[k] :=
  foldl_placeAuto_drafted _ (foldl_placeDirect_drafted _ (List.nodup_finRange 6) (draftStart_drafted budget cap)
    (fun z _ => by simp [Draft.start])).1 k

theorem heaterCapOf_le {s : State} (hshare : s.heating.share ≤ 100) : heaterCapOf s ≤ cycleBudget s := by
  unfold heaterCapOf
  split
  · refine Nat.div_le_of_le_mul ?_
    rw [Nat.mul_comm 100]
    exact Nat.mul_le_mul_left _ hshare
  · exact le_rfl

theorem chargerCommand_le (s : State) (budget power : Nat) : chargerCommand s budget power ≤ budget - power := by
  unfold chargerCommand
  split
  · exact Nat.min_le_left _ _
  · exact Nat.zero_le _

/-- The plan of a cycle is sound, and every zone in it is in the placement order. -/
theorem plannedCycle_sound {s : State} (hshare : s.heating.share ≤ 100) (k : Fin 16) :
    EntrySound (plannedCycle s).plan[k] ∧ ∀ z, ((plannedCycle s).plan[k]).holds z = true → z ∈ (plannedCycle s).order := by
  obtain ⟨hbudget, -, hpower, hcap, hplaced⟩ := placeZones_drafted (cycleBudget s) (heaterCapOf s) s.heating.zones k
  have hle := heaterCapOf_le hshare
  simp only [plannedCycle, mapIndexed_get]
  refine ⟨⟨?_, hpower⟩, hplaced⟩
  have hcommand := chargerCommand_le s (cycleBudget s)
    ((placeZones (cycleBudget s) (heaterCapOf s) s.heating.zones).plan[k]).heaterPower
  simp only
  omega

/-! ### PlanSound and the planner's events -/

theorem setPlanner_planSound {s : State} {p : Planner} (hp : PlannedSound p) (h : PlanSound s) :
    PlanSound (s.setPlanner p) := (planSound_iff _).2 ⟨hp, ((planSound_iff s).1 h).2⟩

theorem haltPlanner_planSound {s : State} (h : PlanSound s) : PlanSound (haltPlanner s) := by
  by_cases hhalted : s.planner.state = .halted
  · rw [haltPlanner_of_halted hhalted]; exact h
  · rw [haltPlanner_of_not_halted hhalted]
    exact (planSound_iff _).2 ⟨plannedSound_empty rfl, ((planSound_iff s).1 h).2⟩

theorem releasePlanner_planSound {s : State} (h : PlanSound s) : PlanSound (releasePlanner s) := by
  obtain hsame | ⟨-, -, -, hreleased⟩ := releasePlanner_eq s
  · rw [hsame]; exact h
  · rw [hreleased]
    exact setPlanner_planSound ⟨((planSound_iff s).1 h).1.1, fun now hstate => by simp at hstate⟩ h

theorem cycleBoundary_planSound {s : State} (h : PlanSound s) : PlanSound (cycleBoundary s) := by
  have hadmitted := (evaluateAdmission_acts s).plantKept.planSound h
  have hshare := ((planSound_iff _).1 hadmitted).2
  refine (planSound_iff _).2 ⟨⟨fun k => (plannedCycle_sound hshare k).1, fun now _ _ k _ => (plannedCycle_sound hshare k).2⟩,
    hshare⟩

theorem endSlot_planSound {s : State} (h : PlanSound s) : PlanSound (endSlot s) := by
  unfold endSlot
  split
  · exact h
  · next k hslot =>
    split
    · exact setPlanner_planSound (startSlot_sound hslot (by simp [Fin.le_def]) ((planSound_iff s).1 h).1) h
    · exact cycleBoundary_planSound h

theorem plannerHeld_planSound {s : State} (h : PlanSound s) : PlanSound (plannerHeld s) := by
  unfold plannerHeld
  split
  · exact endSlot_planSound h
  · exact h
  · exact h

theorem plannerAccepted_planSound (f : MeterFrame) (haltedBefore entered : Bool) {s : State} (h : PlanSound s) :
    PlanSound (plannerAccepted f haltedBefore entered s) := by
  have hderated : PlanSound (s.setPlanner { s.planner with derate := nextDerate s.planner.derate f.inlet.toInt }) := h
  unfold plannerAccepted
  dsimp only
  split
  · split
    · exact releasePlanner_planSound hderated
    · exact hderated
  · split
    · exact cycleBoundary_planSound hderated
    · exact hderated
  · split
    · exact cycleBoundary_planSound hderated
    · have hended := endSlot_planSound hderated
      split
      · exact (cutBudget_acts _).plantKept.planSound hended
      · exact hended

theorem comparatorWork_planSound (k : CompareKind) (r : Rail) (reading : Nat) {s : State} (h : PlanSound s) :
    PlanSound (comparatorWork k r reading s) := by
  cases k with
  | warning => exact (comparatorWarning_acts r reading s).plantKept.planSound h
  | trip =>
    obtain ⟨u, hu, -, -, hwork⟩ := comparatorWork_eq .trip r reading s
    have hsound := hu.plantKept.planSound h
    rw [hwork]
    unfold actOnRecord
    dsimp only
    split
    · split
      · exact (clearFault_acts _ u).plantKept.planSound hsound
      · exact hsound
    · split
      · have hconfirmed : PlanSound (confirmFault (tripKey r) (some reading) u) := by
          simpa only [PlanSound, confirmFault_frame] using hsound
        exact (abortDwell_acts _).plantKept.planSound ((handIsolation_acts _ _).plantKept.planSound
          (haltPlanner_planSound hconfirmed))
      · exact hsound

theorem isolationFrame_planSound (f : MeterFrame) (ended : Option PlanEntry) {s : State} (h : PlanSound s) :
    PlanSound (isolationFrame f ended s) := by
  refine (mismatchWork_acts f ended _).plantKept.planSound ?_
  split
  · exact comparatorWork_planSound _ _ _ (comparatorWork_planSound _ _ _
      (comparatorWork_planSound _ _ _ (comparatorWork_planSound _ _ _ h)))
  · exact h

theorem takeAccepted_planSound (f : MeterFrame) (a : Arrival) (entered : Bool) (s : State) (x : Taker)
    (h : PlanSound s) : PlanSound (takeAccepted f a entered s x) := by
  cases x <;> simp only [takeAccepted]
  case accrual => exact (accrueAndEnd_handles _ _ s).plantKept.planSound h
  case heat => exact (heatFrame_acts f s).plantKept.planSound h
  case planner => exact plannerAccepted_planSound f _ _ h
  case isolation => exact isolationFrame_planSound f _ h
  case localizer => exact (localizerFrame_acts f s).plantKept.planSound h
  all_goals exact h

theorem takeHeld_planSound (a : Arrival) (s : State) (x : Taker) (h : PlanSound s) : PlanSound (takeHeld a s x) := by
  cases x <;> simp only [takeHeld]
  case accrual => exact (accrueAndEnd_handles _ _ s).plantKept.planSound h
  case planner => exact plannerHeld_planSound h
  all_goals exact h

theorem acceptFrame_planSound (f : MeterFrame) {s : State} (h : PlanSound s) : PlanSound (acceptFrame f s) := by
  have hlinked : PlanSound (s.setMeter (s.meter.accepted f)) := h
  refine foldl_keeps (takeAccepted_planSound f _ _) _ ?_
  refine (Acts.same (sameBlocks_dropChoice _)).plantKept.planSound ?_
  split
  · exact (enterSynced_plantKept _).planSound hlinked
  · exact hlinked

theorem takeDataWord_planSound (w : Word) {s : State} (h : PlanSound s) : PlanSound (takeDataWord w s) := by
  unfold takeDataWord
  split
  · exact h
  · split
    · exact h
    · dsimp only
      split
      · exact h
      · exact acceptFrame_planSound _ (s := s.setMeter { s.meter with assembly := none }) h

theorem heldEvent_planSound {s : State} (h : PlanSound s) : PlanSound (heldEvent s) :=
  foldl_keeps (takeHeld_planSound _) _ ((Acts.same (sameBlocks_dropChoice s)).plantKept.planSound h)

theorem lostEvent_planSound {s : State} (h : PlanSound s) : PlanSound (lostEvent s) :=
  (endClosing_handles s).plantKept.planSound h

theorem enterLost_planSound {s : State} (h : PlanSound s) : PlanSound (enterLost s) := by
  refine (abortDwell_acts _).plantKept.planSound ((confirmFault_acts (fun r => by cases r <;> decide) _ _).plantKept.planSound
    ((sessionsLost_acts _).plantKept.planSound (haltPlanner_planSound ?_)))
  exact h

theorem takeOverdue_planSound {s : State} (h : PlanSound s) : PlanSound (takeOverdue s) := by
  have hmeter (m : MeterLink) : PlanSound ((rearmOverdue s).setMeter m) := h
  have hrearmed : PlanSound (rearmOverdue s) := h
  unfold takeOverdue
  dsimp only
  split
  · exact heldEvent_planSound (hmeter _)
  · split
    · exact heldEvent_planSound (hmeter _)
    · exact lostEvent_planSound (enterLost_planSound hrearmed)
  · exact lostEvent_planSound hrearmed
  · exact lostEvent_planSound hrearmed
  · exact lostEvent_planSound (hmeter _)

theorem takePeriod_planSound (offer : Option Nat) (cls : LevelClass) (last : LastPeriod) {s : State}
    (h : PlanSound s) : PlanSound (takePeriod offer cls last s) := (takePeriod_handles offer cls last s).plantKept.planSound h

theorem takeRisingEdge_planSound (w : Word) {s : State} (h : PlanSound s) : PlanSound (takeRisingEdge w s) := by
  unfold takeRisingEdge
  dsimp only
  split
  · exact h
  · exact h
  · exact takePeriod_planSound _ _ _ (s := setCapture (.timing 0 none) (restartOverflow s)) h

theorem takeFallingEdge_planSound (w : Word) {s : State} (h : PlanSound s) : PlanSound (takeFallingEdge w s) := by
  unfold takeFallingEdge
  split <;> exact h

/-! ### Resets, requests and steps -/

theorem warmReset_planSound {s : State} (h : PlanSound s) : PlanSound (warmReset s) := by
  refine (planSound_iff _).2 ⟨plannedSound_empty (by simp [warmReset, resetPlanner, Planner.powerOn]), ?_⟩
  have hsessions : PlanSound (sessionsReset (abortDwell (resetAttention s))) :=
    (sessionsReset_handles _).plantKept.planSound ((abortDwell_acts _).plantKept.planSound
      ((Acts.same (sameBlocks_setAttention s _)).plantKept.planSound h))
  simpa [warmReset, resetHeating] using ((planSound_iff _).1 hsessions).2

theorem powerOnState_planSound (s : State) : PlanSound (powerOnState s) :=
  (planSound_iff _).2 ⟨plannedSound_empty rfl, (by decide : 60 ≤ 100)⟩

theorem retireFault_planSound (k : Fin 12) {s : State} (h : PlanSound s) : PlanSound (retireFault k s) := by
  have htold : PlanSound (handIsolation (isolationCondition s) (s.setFault k (s.fault k).retired)) :=
    (handIsolation_acts _ _).plantKept.planSound h
  unfold retireFault
  dsimp only
  split
  · exact releasePlanner_planSound htold
  · exact htold

theorem requestSetHeating_planSound (share : Byte) (budget : BitVec 32) (preheat : BitVec 16) {s : State}
    (h : PlanSound s) : PlanSound (requestSetHeating share budget preheat s).state := by
  unfold requestSetHeating
  split
  · next v b t hshare _ _ =>
    obtain ⟨rfl, -, hle⟩ := within?_some hshare
    exact (planSound_iff _).2 ⟨((planSound_iff s).1 h).1, hle⟩
  · exact h

theorem serve_planSound (p : Port) (r : Request) {s : State} (h : PlanSound s) : PlanSound (serve p s r).state := by
  cases r with
  | retireFault key =>
    show PlanSound (requestRetireFault key s).state
    unfold requestRetireFault
    split
    · exact h
    · split
      · exact h
      · exact retireFault_planSound _ h
  | setHeating share budget preheat => exact requestSetHeating_planSound share budget preheat h
  | warmReset => exact warmReset_planSound h
  | _ => exact (serve_plantKept p s (by simp) (by simp) (by simp)).planSound h

theorem Move.planSound {s t : State} (hmove : Move s t) (h : PlanSound s) : PlanSound t := by
  have htime (us : Nat) (s : State) (h : PlanSound s) : PlanSound (passTime us s) := h
  cases hmove with
  | nothing => exact h
  | served p r => exact serve_planSound p r h
  | warmReset => exact warmReset_planSound h
  | powerOn => exact powerOnState_planSound s
  | time us => exact htime us s h
  | frameSync => exact h
  | dataWord w => exact takeDataWord_planSound w h
  | overdue us => exact takeOverdue_planSound (htime us s h)
  | lostExpiry us => exact (takeLostExpiry_plantKept _).planSound (htime us s h)
  | risingEdge us w => exact takeRisingEdge_planSound w (htime us s h)
  | fallingEdge us w => exact takeFallingEdge_planSound w (htime us s h)
  | overflow us w => exact takePeriod_planSound _ _ _ (s := setCapture .waiting (restartOverflow (passTime us s))) h
  | minute us => exact (takeMinute_plantKept _).planSound (htime us s h)

/-- Settles O55: each move of a step keeps the plan sound. -/
theorem stepsKeepPlanSound : Obligations.StepsKeepPlanSound := fun _ _ hs hstep =>
  step_keeps (P := PlanSound) (fun hsame => (Acts.same hsame).plantKept.planSound) Move.planSound hstep hs

end Sys2Proof.Machine
end

section
/-! SUPPORT. What the events do to the books, that is to sessions, accounts and tariff: beside the operations of the
closure, they only change blocks that the books do not read. -/

namespace Sys2Proof.Machine

/-! ### The books -/

/-- Two states with the same sessions, accounts and tariff, but for how far the minute timer has run. -/
def SameBooks (s t : State) : Prop :=
  t.sessions = s.sessions ∧ t.accounts = s.accounts ∧
  ∃ timer, timer.isSome = s.tariff.minuteTimer.isSome ∧ t.tariff = { s.tariff with minuteTimer := timer }

theorem SameBooks.of_eq {s t : State} (hsessions : t.sessions = s.sessions) (haccounts : t.accounts = s.accounts)
    (htariff : t.tariff = s.tariff) : SameBooks s t := ⟨hsessions, haccounts, _, rfl, htariff⟩

/-- The record of the Offer Monitor is the same but for timer, capture and Request Line, which goes on only while PLUGGED or
OFFERING (R105). -/
def SupplyKept (s t : State) : Prop :=
  ∃ capture overflow line, t.supply = { s.supply with capture := capture, overflow := overflow, requestLine := line } ∧
    (line = true → s.supply.requestLine = true ∨ s.supply.state = .plugged ∨ s.supply.state = .offering)

theorem SupplyKept.of_eq {s t : State} (h : t.supply = s.supply) : SupplyKept s t := ⟨_, _, _, h, .inl⟩

@[refl] theorem SupplyKept.refl (s : State) : SupplyKept s s := .of_eq rfl

theorem SupplyKept.state {s t : State} : SupplyKept s t → t.supply.state = s.supply.state := by
  rintro ⟨_, _, _, h, -⟩
  rw [h]

/-- What an event does while the supply state stands: the shared operations, the end of a CLOSING session and the lost
timeout, and whatever neither books nor supply state read. -/
inductive Events : State → State → Prop
  | acts {s t} (h : Acts s t) : Events s t
  | trans {s t u} : Events s t → Events t u → Events s u
  | other {s t} (hbooks : SameBooks s t) (hsupply : SupplyKept s t)
      (hlocal : LocalizerSound s → LocalizerSound t) : Events s t
  | endClosing (s) : Events s (endClosing s)
  | meterLost (s) : Events s (sessionsMeterLost s)

@[refl] theorem Events.refl (s : State) : Events s s := .acts (.refl s)
theorem Acts.events {s t : State} (h : Acts s t) : Events s t := .acts h
theorem Events.of_eq {s t : State} (hsessions : t.sessions = s.sessions) (haccounts : t.accounts = s.accounts)
    (htariff : t.tariff = s.tariff) (hsupply : SupplyKept s t := by rfl)
    (hlocal : LocalKept s t := by exact ⟨rfl, rfl, fun _ => rfl⟩) : Events s t :=
  .other (.of_eq hsessions haccounts htariff) hsupply hlocal.localizerSound

theorem foldl_events {α : Type} {f : State → α → State} (hf : ∀ s x, Events s (f s x)) (l : List α) (s : State) :
    Events s (l.foldl f s) := foldl_keeps (P := Events s) (fun _ x h => h.trans (hf _ x)) l (.refl s)

/-! ### The planner -/

/-- The monitor acts on the planner's instruction in PLUGGED and OFFERING alone (R105). -/
theorem instructRequestLine_supply (on : Bool) (s : State) : SupplyKept s (instructRequestLine on s) := by
  refine ⟨_, _, _, rfl, fun h => .inr ?_⟩
  simpa using (Bool.and_eq_true_iff.1 h).2

theorem haltPlanner_supply (s : State) : SupplyKept s (haltPlanner s) := by
  by_cases h : s.planner.state = .halted
  · rw [haltPlanner_of_halted h]
  · rw [haltPlanner_of_not_halted h]
    exact instructRequestLine_supply false (clearGrants (s.setPlanner (s.planner.allOff .halted)))

theorem haltPlanner_kept (s : State) : LocalKept s (haltPlanner s) := by
  by_cases h : s.planner.state = .halted
  · rw [haltPlanner_of_halted h]
  · rw [haltPlanner_of_not_halted h]
    refine ⟨rfl, rfl, fun z => ?_⟩
    show ((clearGrants _).zone z).underTest = _
    rw [clearGrants, State.zone, State.setHeating_heating, mapIndexed_get]
    rfl

theorem confirmFault_kept (k : Fin 12) (reading : Option Nat) (s : State) : LocalKept s (confirmFault k reading s) := by
  unfold confirmFault
  split
  · rfl
  · exact .of_eq rfl rfl rfl

/-- The plan of a cycle writes grants and deferred flags, no marks (R114, R115). -/
theorem buildPlan_kept (s : State) : LocalKept s ((buildPlan s).setPlanner ((buildPlan s).planner.startSlot 0)) := by
  refine ⟨rfl, rfl, fun z => ?_⟩
  show ((s.setHeating (grantZones s s.heating)).zone z).underTest = _
  rw [grantZones, State.zone, State.setHeating_heating, mapIndexed_get]
  rfl

theorem haltPlanner_events (s : State) : Events s (haltPlanner s) :=
  .of_eq (by simp) (by simp) (by simp) (haltPlanner_supply s) (haltPlanner_kept s)
theorem releasePlanner_events (s : State) : Events s (releasePlanner s) :=
  .of_eq (by simp) (by simp) (by simp) (.of_eq (by simp)) (.of_eq (by simp) (by simp) (by simp))
theorem confirmFault_events (k : Fin 12) (reading : Option Nat) (s : State) : Events s (confirmFault k reading s) :=
  .of_eq (by simp) (by simp) (by simp) (.of_eq (by simp)) (confirmFault_kept k reading s)

theorem cycleBoundary_events (s : State) : Events s (cycleBoundary s) :=
  (evaluateAdmission_acts s).events.trans (.of_eq (by simp [cycleBoundary]) (by simp [cycleBoundary]) (by simp [cycleBoundary])
    (instructRequestLine_supply _ (((evaluateAdmission s).setPlanner (plannedCycle (evaluateAdmission s))).setHeating _))
    (buildPlan_kept _))

theorem endSlot_events (s : State) : Events s (endSlot s) := by
  unfold endSlot
  split
  · exact .refl s
  · split
    · exact .of_eq rfl rfl rfl (.of_eq rfl)
    · exact cycleBoundary_events s

theorem plannerHeld_events (s : State) : Events s (plannerHeld s) := by
  unfold plannerHeld
  split
  · exact endSlot_events s
  · exact .refl s
  · exact .refl s

theorem plannerAccepted_events (f : MeterFrame) (haltedBefore entered : Bool) (s : State) :
    Events s (plannerAccepted f haltedBefore entered s) := by
  unfold plannerAccepted
  dsimp only
  refine Events.trans (t := s.setPlanner { s.planner with derate := nextDerate s.planner.derate f.inlet.toInt })
    (.of_eq rfl rfl rfl (.of_eq rfl)) ?_
  split
  · split
    · exact releasePlanner_events _
    · exact .refl _
  · split
    · exact cycleBoundary_events _
    · exact .refl _
  · split
    · exact cycleBoundary_events _
    · split
      · exact (endSlot_events _).trans (cutBudget_acts _).events
      · exact endSlot_events _

/-! ### Meter period events -/

theorem accrueAndEnd_events (held : Bool) (source : Option BudgetSource) (s : State) :
    Events s (endClosing (accrue held source s)) := (accrue_acts held source s).events.trans (.endClosing _)

theorem comparatorWork_events (k : CompareKind) (r : Rail) (reading : Nat) (s : State) :
    Events s (comparatorWork k r reading s) := by
  cases k with
  | warning => exact (comparatorWarning_acts r reading s).events
  | trip =>
    obtain ⟨u, hu, -, -, hwork⟩ := comparatorWork_eq .trip r reading s
    rw [hwork]
    refine hu.events.trans ?_
    unfold actOnRecord
    dsimp only
    split
    · split
      · exact (clearFault_acts _ u).events
      · exact .refl u
    · split
      · exact (confirmFault_events _ _ u).trans ((haltPlanner_events _).trans
          ((handIsolation_acts _ _).events.trans (abortDwell_acts _).events))
      · exact .refl u

theorem isolationFrame_events (f : MeterFrame) (ended : Option PlanEntry) (s : State) :
    Events s (isolationFrame f ended s) := by
  refine .trans ?_ (mismatchWork_acts f ended _).events
  split
  · exact (comparatorWork_events _ _ _ s).trans ((comparatorWork_events _ _ _ _).trans
      ((comparatorWork_events _ _ _ _).trans (comparatorWork_events _ _ _ _)))
  · exact .refl s

theorem takeAccepted_events (f : MeterFrame) (a : Arrival) (entered : Bool) (s : State) (x : Taker) :
    Events s (takeAccepted f a entered s x) := by
  cases x <;> simp only [takeAccepted]
  case accrual => exact accrueAndEnd_events _ _ s
  case heat => exact (heatFrame_acts f s).events
  case planner => exact plannerAccepted_events f _ _ s
  case isolation => exact isolationFrame_events f _ s
  case localizer => exact (localizerFrame_acts f s).events
  all_goals exact .refl s

theorem takeHeld_events (a : Arrival) (s : State) (x : Taker) : Events s (takeHeld a s x) := by
  cases x <;> simp only [takeHeld]
  case accrual => exact accrueAndEnd_events _ _ s
  case planner => exact plannerHeld_events s
  all_goals exact .refl s

theorem enterSynced_events (s : State) : Events s (enterSynced s) := by
  refine .trans ?_ ((sessionsSynced_acts _).events.trans (clearFault_acts _ _).events)
  exact .of_eq rfl rfl rfl (.of_eq rfl)

theorem acceptFrame_events (f : MeterFrame) (s : State) : Events s (acceptFrame f s) := by
  refine .trans ?_ (foldl_events (takeAccepted_events f _ _) _ _)
  refine .trans ?_ (Acts.same (sameBlocks_dropChoice _)).events
  have hlinked : Events s (s.setMeter (s.meter.accepted f)) := .of_eq rfl rfl rfl (.of_eq rfl)
  split
  · exact hlinked.trans (enterSynced_events _)
  · exact hlinked

theorem takeDataWord_events (w : Word) (s : State) : Events s (takeDataWord w s) := by
  unfold takeDataWord
  split
  · exact .refl s
  · split
    · exact .of_eq rfl rfl rfl (.of_eq rfl)
    · dsimp only
      split
      · exact .of_eq rfl rfl rfl (.of_eq rfl)
      · exact Events.trans (t := s.setMeter { s.meter with assembly := none }) (.of_eq rfl rfl rfl (.of_eq rfl)) (acceptFrame_events _ _)

theorem heldEvent_events (s : State) : Events s (heldEvent s) :=
  (Acts.same (sameBlocks_dropChoice s)).events.trans (foldl_events (takeHeld_events _) _ _)

theorem enterLost_events (s : State) : Events s (enterLost s) := by
  refine .trans ?_ ((sessionsLost_acts _).events.trans ((confirmFault_events _ _ _).trans (abortDwell_acts _).events))
  refine .of_eq (by simp) (by simp) (by simp) (haltPlanner_supply (post .meterState _)) (.trans ?_ (haltPlanner_kept _))
  exact .of_eq rfl rfl rfl

theorem takeOverdue_events (s : State) : Events s (takeOverdue s) := by
  have hmeter (m : MeterLink) : Events s ((rearmOverdue s).setMeter m) := .of_eq rfl rfl rfl (.of_eq rfl)
  have hrearmed : Events s (rearmOverdue s) := .of_eq rfl rfl rfl (.of_eq rfl)
  have hlost (u : State) : Events u (lostEvent u) := .endClosing u
  unfold takeOverdue
  dsimp only
  split
  · exact (hmeter _).trans (heldEvent_events _)
  · split
    · exact (hmeter _).trans (heldEvent_events _)
    · exact hrearmed.trans ((enterLost_events _).trans (hlost _))
  · exact hrearmed.trans (hlost _)
  · exact hrearmed.trans (hlost _)
  · exact (hmeter _).trans (hlost _)

theorem takeLostExpiry_events (s : State) : Events s (takeLostExpiry s) := by
  unfold takeLostExpiry
  split
  · exact .refl s
  · refine .trans ?_ (.meterLost _)
    exact .of_eq rfl rfl rfl (.of_eq rfl)

/-! ### The closure of the books -/

/-- What an event does to the books: the shared operations, and whatever the books do not read. -/
inductive Deals : State → State → Prop
  | handles {s t} (h : Handles s t) : Deals s t
  | trans {s t u} : Deals s t → Deals t u → Deals s u
  | books {s t} (h : SameBooks s t) (hlocal : LocalizerSound s → LocalizerSound t) : Deals s t

@[refl] theorem Deals.refl (s : State) : Deals s s := .handles (.refl s)
theorem Acts.deals {s t : State} (h : Acts s t) : Deals s t := .handles (.acts h)
theorem Deals.of_eq {s t : State} (hsessions : t.sessions = s.sessions) (haccounts : t.accounts = s.accounts)
    (htariff : t.tariff = s.tariff) (hlocal : LocalKept s t := by exact ⟨rfl, rfl, fun _ => rfl⟩) : Deals s t :=
  .books (.of_eq hsessions haccounts htariff) hlocal.localizerSound

theorem Events.deals {s t : State} (h : Events s t) : Deals s t := by
  induction h with
  | acts h => exact h.deals
  | trans _ _ ih ih' => exact ih.trans ih'
  | other hbooks _ hlocal => exact .books hbooks hlocal
  | endClosing s => exact .handles (endClosing_handles s)
  | meterLost s => exact .handles (sessionsMeterLost_handles s)

/-! ### The Offer Line -/

theorem takePeriod_deals (offer : Option Nat) (cls : LevelClass) (last : LastPeriod) (s : State) :
    Deals s (takePeriod offer cls last s) :=
  Deals.trans (t := s.setSupply (s.supply.taken offer cls last)) (.of_eq rfl rfl rfl)
    (.handles (takePeriod_handles offer cls last s))

theorem takeRisingEdge_deals (w : Word) (s : State) : Deals s (takeRisingEdge w s) := by
  unfold takeRisingEdge
  dsimp only
  split
  · exact .of_eq rfl rfl rfl
  · exact .of_eq rfl rfl rfl
  · exact Deals.trans (t := setCapture (.timing 0 none) (restartOverflow s)) (.of_eq rfl rfl rfl) (takePeriod_deals _ _ _ _)

theorem takeFallingEdge_deals (w : Word) (s : State) : Deals s (takeFallingEdge w s) := by
  unfold takeFallingEdge
  split <;> exact .of_eq rfl rfl rfl

theorem takeOverflow_deals (w : Word) (s : State) : Deals s (takeOverflow w s) :=
  Deals.trans (t := setCapture .waiting (restartOverflow s)) (.of_eq rfl rfl rfl) (takePeriod_deals _ _ _ _)

/-! ### Resets, requests and moves -/

theorem passTime_events (us : Nat) (s : State) : Events s (passTime us s) :=
  .other ⟨rfl, rfl, _, by simp, rfl⟩ ⟨_, _, _, rfl, .inl⟩ id

theorem passTime_deals (us : Nat) (s : State) : Deals s (passTime us s) := (passTime_events us s).deals

theorem abortDwell_state (s : State) : (abortDwell s).localizer.state = .idle := by
  cases h : s.localizer.state with
  | idle => rw [abortDwell_idle s h, h]
  | dwell => rw [abortDwell_dwell s h]; rfl

theorem clearFault_settings (k : Fin 12) (s : State) : (clearFault k s).isolation.settings = s.isolation.settings := by
  unfold clearFault
  split <;> rfl

theorem resetSupply_settings (s : State) : (resetSupply s).isolation.settings = s.isolation.settings := by
  unfold resetSupply
  dsimp only
  split
  · rw [clearFault_settings]; rfl
  · rfl

theorem warmReset_settings (s : State) :
    (warmReset s).isolation.settings = (sessionsReset (abortDwell (resetAttention s))).isolation.settings := by
  unfold warmReset
  generalize sessionsReset (abortDwell (resetAttention s)) = u
  exact resetSupply_settings (resetIsolation (resetMeter u))

theorem warmReset_unmarked (s : State) (z : Fin 6) : ((warmReset s).zone z).underTest = false := by
  unfold warmReset
  generalize sessionsReset (abortDwell (resetAttention s)) = u
  show ((resetHeating (resetSupply (resetIsolation (resetMeter u)))).zone z).underTest = false
  rw [resetHeating, State.zone, State.setHeating_heating, mapIndexed_get]
  rfl

/-- The rest of a warm reset keeps a Localizer that has aborted its dwell: it clears marks where none stands (R142). -/
theorem warmReset_localizer {s : State} (h : LocalizerSound (sessionsReset (abortDwell (resetAttention s)))) :
    LocalizerSound (warmReset s) := by
  have hidle : (sessionsReset (abortDwell (resetAttention s))).localizer.state = .idle := by
    simpa using abortDwell_state (resetAttention s)
  refine h.of_marks (by simp [warmReset]) ?_ fun z => ?_
  · rw [warmReset_settings]; exact h.ranges.2.2
  · rw [warmReset_unmarked, h.unmarked hidle]

theorem warmReset_deals (s : State) : Deals s (warmReset s) := by
  refine Deals.trans (t := sessionsReset (abortDwell (resetAttention s)))
    ((Acts.same (sameBlocks_setAttention s _)).deals.trans
      ((abortDwell_acts _).deals.trans (.handles (sessionsReset_handles _)))) ?_
  exact .books (.of_eq (by simp [warmReset]) (by simp [warmReset]) (by simp [warmReset])) warmReset_localizer

theorem retireFault_events (k : Fin 12) (s : State) : Events s (retireFault k s) := by
  have htold : Events s (handIsolation (isolationCondition s) (s.setFault k (s.fault k).retired)) :=
    Events.trans (t := s.setFault k (s.fault k).retired) (.of_eq rfl rfl rfl (.of_eq rfl)) (handIsolation_acts _ _).events
  unfold retireFault
  dsimp only
  split
  · exact htold.trans (releasePlanner_events _)
  · exact htold

/-- The requests that keep the books otherwise than by the shared operations. -/
def keepsBooks : Request → Bool
  | .authorize .. | .cancel .. | .release .. | .openAccount .. | .closeAccount .. | .writeBand .. | .freeBand ..
  | .sealChain .. | .unsealChain .. | .setCalendar .. | .setLifetime .. => true
  | _ => false

theorem serve_deals (p : Port) (s : State) {r : Request} (h : keepsBooks r = false) : Deals s (serve p s r).state := by
  cases halone : takenAlone r with
  | false => exact (serve_acts p s halone).deals
  | true =>
    cases r with
    | stop slot serial => exact .handles (requestStop_handles p slot serial s)
    | setHeating share budget preheat =>
      refine .of_eq (by simp [serve]) (by simp [serve]) (by simp [serve]) ⟨by simp [serve], by simp [serve], fun z => ?_⟩
      show ((requestSetHeating share budget preheat s).state.zone z).underTest = _
      unfold requestSetHeating
      split <;> rfl
    | retireFault key =>
      show Deals s (requestRetireFault key s).state
      unfold requestRetireFault
      split
      · exact .refl s
      · split
        · exact .refl s
        · exact (retireFault_events _ s).deals
    | warmReset => exact warmReset_deals s
    | authorize | cancel | release | openAccount | closeAccount | writeBand | freeBand | sealChain | unsealChain
    | setCalendar | setLifetime => exact absurd h.symm Bool.false_ne_true
    | _ => exact absurd halone Bool.false_ne_true

/-- A move of a step: power-on, a minute event, a request that keeps the books, or else the closure. -/
theorem Move.books_cases {s t : State} (h : Move s t) : Deals s t ∨ t = powerOnState s ∨
    (∃ us, t = takeMinute (passTime us s)) ∨ ∃ p r, keepsBooks r = true ∧ t = (serve p s r).state := by
  cases h with
  | nothing => exact .inl (.refl s)
  | served p r =>
    cases hbooks : keepsBooks r with
    | false => exact .inl (serve_deals p s hbooks)
    | true => exact .inr (.inr (.inr ⟨p, r, hbooks, rfl⟩))
  | warmReset => exact .inl (warmReset_deals s)
  | powerOn => exact .inr (.inl rfl)
  | time us => exact .inl (passTime_deals us s)
  | frameSync => exact .inl (.of_eq rfl rfl rfl)
  | dataWord w => exact .inl (takeDataWord_events w s).deals
  | overdue us => exact .inl ((passTime_deals us s).trans (takeOverdue_events _).deals)
  | lostExpiry us => exact .inl ((passTime_deals us s).trans (takeLostExpiry_events _).deals)
  | risingEdge us w => exact .inl ((passTime_deals us s).trans (takeRisingEdge_deals w _))
  | fallingEdge us w => exact .inl ((passTime_deals us s).trans (takeFallingEdge_deals w _))
  | overflow us w => exact .inl ((passTime_deals us s).trans (takeOverflow_deals w _))
  | minute us => exact .inr (.inr (.inl ⟨us, rfl⟩))

end Sys2Proof.Machine
end

section
/-! Supply energy is charge energy plus heat energy in every session, and energies that have come to stand do not move:
every step keeps it (R65 to R68). -/

namespace Sys2Proof.Machine

/-! ### The records that the operations on sessions leave -/

/-- A settlement empties the holds of its session and touches no other (R42). -/
theorem settle_session (i j : Fin 8) (s : State) : (settle i s).session j =
    if i = j then { s.session i with chargeHold := 0, heatHold := (s.session i).heatHold.map fun _ => 0 }
    else s.session j := by
  have hwritten (u : State) (hu : u.sessions = s.sessions) :
      (u.setSession i { u.session i with chargeHold := 0, heatHold := (s.session i).heatHold.map fun _ => 0 }).session j =
      if i = j then { s.session i with chargeHold := 0, heatHold := (s.session i).heatHold.map fun _ => 0 }
      else s.session j := by
    rw [State.setSession_at]
    simp only [State.session, hu]
  unfold settle
  dsimp only
  refine hwritten _ ?_
  split <;> simp

/-- The record of a session that has closed (R22, R24, R42). -/
def Session.closedRecord (reason : CloseReason) (s : State) (r : Session) : Session :=
  { r with
    state := .closed, reasons := .empty, currentBand := none, endMinute := some (minuteNow s)
    closeReason := some (r.closeReason.getD reason), chargeHold := 0, heatHold := r.heatHold.map fun _ => 0 }

theorem closeRecord_session (reason : CloseReason) (i j : Fin 8) (s : State) : (closeRecord reason i s).session j =
    if i = j then (s.session i).closedRecord reason s else s.session j := by
  have hposted (u : State) (c : Fin 4) : (post .sessionClosed (unlockChain c u)).session j = u.session j := rfl
  unfold closeRecord
  dsimp only
  rw [hposted, settle_session]
  split
  · next hij => subst hij; simp only [State.setSession_same]; rfl
  · next hne => exact State.setSession_other _ _ _ _ hne

/-- The head of the queue goes live, and no other session changes (R8). -/
theorem goLive_session {s : State} {i : Fin 8} {rest : List (Fin 8)} (hqueue : s.sessions.queue = i :: rest) (j : Fin 8) :
    (goLive s).session j = if i = j then (s.session i).gone s else s.session j := by
  simp only [goLive, hqueue]
  rw [show ∀ u : State, (post .sessionLive u).session j = u.session j from fun _ => rfl, State.setSession_at]
  rfl

theorem goLive_empty {s : State} (hqueue : s.sessions.queue = []) : goLive s = s := by
  simp only [goLive, hqueue]

/-! ### What is kept of one record's energies -/

/-- The record's supply energy is its charge energy plus its heat energy (R66). -/
def Session.Balanced (r : Session) : Prop := r.supplyEnergy.total = r.chargeEnergy.total + r.heatEnergy.total

/-- Two records with the same energies, held frames and mark. -/
def SameEnergies (r r' : Session) : Prop :=
  r'.energyFrozen = r.energyFrozen ∧ r'.supplyEnergy = r.supplyEnergy ∧ r'.chargeEnergy = r.chargeEnergy ∧
  r'.heatEnergy = r.heatEnergy ∧ r'.heldFrames = r.heldFrames

/-- The balance is kept, and energies that stand do not move. -/
def EnergyKept (r r' : Session) : Prop :=
  (r.Balanced → r'.Balanced) ∧ (r.energyFrozen = true → SameEnergies r r')

theorem SameEnergies.energyKept {r r' : Session} (h : SameEnergies r r') : EnergyKept r r' := by
  obtain ⟨hmark, hsupply, hcharge, hheat, hframes⟩ := h
  exact ⟨fun hr => by rw [Session.Balanced, hsupply, hcharge, hheat]; exact hr,
    fun _ => ⟨hmark, hsupply, hcharge, hheat, hframes⟩⟩

theorem EnergyKept.refl (r : Session) : EnergyKept r r := SameEnergies.energyKept ⟨rfl, rfl, rfl, rfl, rfl⟩

theorem EnergyKept.trans {r r' r'' : Session} (h : EnergyKept r r') (h' : EnergyKept r' r'') : EnergyKept r r'' := by
  refine ⟨h'.1 ∘ h.1, fun hmark => ?_⟩
  obtain ⟨hm, hs, hc, hh, hf⟩ := h.2 hmark
  obtain ⟨hm', hs', hc', hh', hf'⟩ := h'.2 (hm.trans hmark)
  exact ⟨hm'.trans hm, hs'.trans hs, hc'.trans hc, hh'.trans hh, hf'.trans hf⟩

/-- An addition with its carry adds the power exactly (R65). -/
theorem Energy.plus_total (e : Energy) (power : Nat) : (e.plus power).total = e.total + power := by
  have hcarry := Nat.div_add_mod (e.rem + power) Config.framesPerWh
  rw [Nat.mul_comm] at hcarry
  simp only [Energy.total, Energy.plus, Energy.carry, Nat.add_mul]
  omega

/-- An accrued event keeps the balance: charge power and grid heat power make up the supply power (R64, R66). -/
theorem Session.accrued_balanced {p : Powers} (held : Bool) {r : Session} (hheat : p.heat ≤ p.supply) (h : r.Balanced) :
    (r.accrued p held).Balanced := by
  have hsplit := Powers.charge_add_heat hheat
  simp only [Session.Balanced, Session.accrued, Energy.plus_total] at h ⊢
  omega

/-! ### The closures -/

theorem setSession_energyKept {s : State} {i : Fin 8} {r : Session} (h : EnergyKept (s.session i) r) (j : Fin 8) :
    EnergyKept (s.session j) ((s.setSession i r).session j) := by
  rw [State.setSession_at]
  split
  · next hij => exact hij ▸ h
  · exact .refl _

theorem EditOf.sameEnergies {r r' : Session} (h : EditOf r r') : SameEnergies r r' := by
  rw [h]; exact ⟨rfl, rfl, rfl, rfl, rfl⟩

theorem Session.raiseHold_sameEnergies (r : Session) (role : HoldRole) (grant : Nat) :
    SameEnergies r (r.raiseHold role grant) := by cases role <;> exact ⟨rfl, rfl, rfl, rfl, rfl⟩

theorem Acts.energyKept {s t : State} (h : Acts s t) (j : Fin 8) : EnergyKept (s.session j) (t.session j) := by
  obtain ⟨h, -⟩ := h
  induction h with
  | same hsame => rw [hsame.session_eq]; exact .refl _
  | trans _ _ ih ih' => exact ih.trans ih'
  | planner | heating | isolation | localizer | account => exact .refl _
  | reasons | complete | retarget =>
    refine setSession_energyKept (SameEnergies.energyKept ?_) j
    exact ⟨rfl, rfl, rfl, rfl, rfl⟩
  | edits hedit => exact (hedit j).sameEnergies.energyKept
  | accrued held _ hrunning hheat =>
    exact setSession_energyKept ⟨Session.accrued_balanced held hheat, fun h => absurd (hrunning.symm.trans h) Bool.false_ne_true⟩ j
  | frozen s i =>
    refine setSession_energyKept ⟨?_, fun h => ?_⟩ j
    · exact id
    · exact ⟨h.symm, rfl, rfl, rfl, rfl⟩
  | topUp => exact setSession_energyKept (Session.raiseHold_sameEnergies _ _ _).energyKept j

theorem Session.gone_sameEnergies (s : State) (r : Session) : SameEnergies r (r.gone s) := ⟨rfl, rfl, rfl, rfl, rfl⟩

theorem Handles.energyKept {s t : State} (h : Handles s t) (j : Fin 8) : EnergyKept (s.session j) (t.session j) := by
  induction h with
  | acts hacts => exact hacts.energyKept j
  | trans _ _ ih ih' => exact ih.trans ih'
  | goLive s =>
    cases hqueue : s.sessions.queue with
    | nil => rw [goLive_empty hqueue]; exact .refl _
    | cons i rest =>
      rw [goLive_session hqueue]
      split
      · next hij => subst hij; exact (Session.gone_sameEnergies s _).energyKept
      · exact .refl _
  | stop =>
    refine setSession_energyKept (SameEnergies.energyKept ?_) j
    exact ⟨rfl, rfl, rfl, rfl, rfl⟩
  | close reason =>
    rw [closeRecord_session]
    split
    · next hij => subst hij; exact SameEnergies.energyKept ⟨rfl, rfl, rfl, rfl, rfl⟩
    · exact .refl _

theorem SameBooks.session_eq {s t : State} (h : SameBooks s t) (i : Fin 8) : t.session i = s.session i := by
  simp only [State.session, h.1]

theorem Deals.energyKept {s t : State} (h : Deals s t) (j : Fin 8) : EnergyKept (s.session j) (t.session j) := by
  induction h with
  | handles h => exact h.energyKept j
  | trans _ _ ih ih' => exact ih.trans ih'
  | books h => rw [h.session_eq]; exact .refl _

/-! ### A whole step -/

/-- What a step keeps of a record: the balance, and, unless the record is FREE before or after, energies that stand. -/
def EnergyStep (r r' : Session) : Prop :=
  (r.Balanced → r'.Balanced) ∧
  (r.state ≠ .free → r.energyFrozen = true → r'.state ≠ .free → SameEnergies r r')

theorem EnergyKept.energyStep {r r' : Session} (h : EnergyKept r r') : EnergyStep r r' :=
  ⟨h.1, fun _ hmark _ => h.2 hmark⟩

theorem free_balanced : Session.free.Balanced := rfl

/-- A record that is freed, or filled where it was FREE, starts without energies. -/
theorem energyStep_of_balanced {r r' : Session} (hfresh : r'.Balanced) (hfree : r.state = .free ∨ r'.state = .free) :
    EnergyStep r r' := ⟨fun _ => hfresh, fun hr _ hr' => absurd hfree (not_or.2 ⟨hr, hr'⟩)⟩

/-- While sessions are voided, a record keeps its energies or is FREE, and a FREE record stays FREE. -/
theorem Voids.energyStep {s t : State} (h : Voids s t) (j : Fin 8) :
    (((s.session j).Balanced → (t.session j).Balanced) ∧
      ((s.session j).energyFrozen = true → (t.session j).state = .free ∨ SameEnergies (s.session j) (t.session j))) ∧
    ((s.session j).state = .free → (t.session j).state = .free) := by
  induction h with
  | acts hacts =>
    obtain ⟨hbalanced, hmark⟩ := hacts.energyKept j
    exact ⟨⟨hbalanced, fun h => .inr (hmark h)⟩, ((hacts.phase j).eq_iff rfl).2⟩
  | trans _ _ ih ih' =>
    obtain ⟨⟨hb, hm⟩, hf⟩ := ih
    obtain ⟨⟨hb', hm'⟩, hf'⟩ := ih'
    refine ⟨⟨hb' ∘ hb, fun h => ?_⟩, hf' ∘ hf⟩
    obtain hfree | hsame := hm h
    · exact .inl (hf' hfree)
    · obtain hfree' | hsame' := hm' (hsame.1.trans h)
      · exact .inl hfree'
      · exact .inr ((hsame.energyKept.trans hsame'.energyKept).2 h)
  | void hwaits =>
    rw [voidSession_session]
    split
    · exact ⟨⟨fun _ => free_balanced, fun _ => .inl rfl⟩, fun _ => rfl⟩
    · exact ⟨⟨id, fun _ => .inr ⟨rfl, rfl, rfl, rfl, rfl⟩⟩, id⟩

theorem takeMinute_energyStep (s : State) (j : Fin 8) : EnergyStep (s.session j) ((takeMinute s).session j) := by
  cases hcalendar : s.tariff.calendar with
  | none => rw [takeMinute_unset hcalendar]; exact (EnergyKept.refl _).energyStep
  | some m =>
    have hbands : EnergyKept (s.session j) ((dropChoice (advanceCalendar m s)).session j) :=
      (updateBands_acts _ (s.setTariff _)).energyKept j
    obtain ⟨⟨hbalanced, hmark⟩, -⟩ := (takeMinute_eq hcalendar).energyStep j
    refine ⟨hbalanced ∘ hbands.1, fun _ h hused => ?_⟩
    have hstands := hbands.2 h
    have hmoved := (hmark (hstands.1.trans h)).resolve_left hused
    exact (hbands.trans hmoved.energyKept).2 h

/-- The lowest FREE slot is FREE (R7). -/
theorem freeSlot_some {s : State} {i : Fin 8} (h : freeSlot s = some i) : (s.session i).state = .free := by
  simpa using List.find?_some h

/-- An AUTHORIZE passes its checks into a FREE slot (R6). -/
theorem authorizeChecks_ok {z : Authorization} {s : State} {i : Fin 8} (h : authorizeChecks z s = .ok i) :
    s.tariff.calendar ≠ none ∧ (s.chain z.chain).state = .sealed ∧ (s.account z.charge).state = .opened ∧
    (∀ a, z.heat = some a → (s.account a).state = .opened) ∧ freeSlot s = some i ∧ holdsAvailable s z = true := by
  unfold authorizeChecks at h
  split at h
  · simp at h
  · next hcalendar =>
    split at h
    · simp at h
    · next hsealed =>
      split at h
      · simp at h
      · next hcharge =>
        split at h
        · simp at h
        · next hheat =>
          split at h
          · simp at h
          · next k hslot =>
            split at h
            · next hholds =>
              simp only [Except.ok.injEq] at h
              subst h
              refine ⟨hcalendar, by simpa using hsealed, accountRefusal_none hcharge, fun a ha => ?_, hslot, hholds⟩
              rw [ha] at hheat
              exact accountRefusal_none hheat
            · simp at h
where
  accountRefusal_none {a : Account} (h : accountRefusal a = none) : a.state = .opened := by
    unfold accountRefusal at h
    split at h
    · assumption
    · simp at h
    · simp at h

/-- A filled slot holds the new record, and no other session changes (R7). -/
theorem fillSlot_session (i j : Fin 8) (z : Authorization) (s : State) :
    (fillSlot i z s).session j = if i = j then authorizedRecord z s else s.session j := by
  rw [← State.setSession_at]
  unfold fillSlot
  simp [State.session, State.setSession, lockChain]

theorem requestAuthorize_energyStep (charge : Byte) (heat : Option Byte) (chain : Byte) (target : Option (BitVec 32))
    (s : State) (j : Fin 8) :
    EnergyStep (s.session j) ((requestAuthorize charge heat chain target s).state.session j) := by
  unfold requestAuthorize
  split
  · exact (EnergyKept.refl _).energyStep
  · split
    · exact (EnergyKept.refl _).energyStep
    · next i hchecks =>
      obtain ⟨-, -, -, -, hslot, -⟩ := authorizeChecks_ok hchecks
      have hlive := (liveAtOnce_handles (fillSlot i ‹_› s)).energyKept j
      rw [fillSlot_session] at hlive
      split at hlive
      · next hij =>
        subst hij
        exact energyStep_of_balanced (hlive.1 free_balanced) (.inl (freeSlot_some hslot))
      · exact hlive.energyStep

theorem releaseSession_session (i j : Fin 8) (s : State) :
    (releaseSession i s).session j = if i = j then .free else s.session j := by
  rw [← State.setSession_at]
  unfold releaseSession
  dsimp only
  split <;> simp [State.session, State.setSession]

theorem requestRelease_energyStep (p : Port) (slot : Byte) (serial : BitVec 16) (s : State) (j : Fin 8) :
    EnergyStep (s.session j) ((requestRelease p slot serial s).state.session j) := by
  unfold requestRelease onSession
  split
  · exact (EnergyKept.refl _).energyStep
  · dsimp only
    split
    · split
      · exact (EnergyKept.refl _).energyStep
      · split
        · rw [accept_state, releaseSession_session]
          split
          · exact energyStep_of_balanced free_balanced (.inr rfl)
          · exact (EnergyKept.refl _).energyStep
        · exact (EnergyKept.refl _).energyStep
    · exact (EnergyKept.refl _).energyStep

theorem setCalendar_energyKept (m : Nat) (s : State) (j : Fin 8) :
    EnergyKept (s.session j) ((setCalendar m s).session j) := (updateBands_acts _ (s.setTariff _)).energyKept j

theorem session_eq_of_sessions {s t : State} (h : t.sessions = s.sessions) (j : Fin 8) : t.session j = s.session j := by
  simp only [State.session, h]

theorem energyKept_of_sessions {s t : State} (h : t.sessions = s.sessions) (j : Fin 8) :
    EnergyKept (s.session j) (t.session j) := by
  rw [session_eq_of_sessions h]
  exact .refl _

theorem serve_energyStep (p : Port) (r : Request) (s : State) (j : Fin 8) :
    EnergyStep (s.session j) ((serve p s r).state.session j) := by
  cases hbooks : keepsBooks r with
  | false => exact ((serve_deals p s hbooks).energyKept j).energyStep
  | true =>
    cases r with
    | authorize charge heat chain target => exact requestAuthorize_energyStep charge heat chain target s j
    | cancel slot serial =>
      obtain ⟨⟨hbalanced, hmark⟩, -⟩ := (requestCancel_voids slot serial s).energyStep j
      exact ⟨hbalanced, fun _ h hused => (hmark h).resolve_left hused⟩
    | release slot serial => exact requestRelease_energyStep p slot serial s j
    | setCalendar minute =>
      show EnergyStep _ ((requestSetCalendar minute s).state.session j)
      unfold requestSetCalendar
      split
      · exact (EnergyKept.refl _).energyStep
      · exact (setCalendar_energyKept _ s j).energyStep
    | openAccount | closeAccount | writeBand | freeBand | sealChain | unsealChain | setLifetime =>
      exact (energyKept_of_sessions (by simp [serve]) j).energyStep
    | _ => exact absurd hbooks Bool.false_ne_true

theorem Move.energyStep {s t : State} (h : Move s t) (j : Fin 8) : EnergyStep (s.session j) (t.session j) := by
  obtain hdeals | rfl | ⟨us, rfl⟩ | ⟨p, r, -, rfl⟩ := h.books_cases
  · exact (hdeals.energyKept j).energyStep
  · have hfree : (powerOnState s).session j = .free := by simp [powerOnState, State.reset, State.session]
    rw [hfree]
    exact energyStep_of_balanced free_balanced (.inr rfl)
  · exact takeMinute_energyStep (passTime us s) j
  · exact serve_energyStep p r s j

theorem step_energyStep {s t : State} (h : step s = .next t) (j : Fin 8) : EnergyStep (s.session j) (t.session j) := by
  obtain ⟨u, v, hu, hmove, hv⟩ := step_movesOnce h
  have hmoved := hmove.energyStep j
  rwa [hu.session_eq, ← hv.session_eq] at hmoved

/-- Settles O54: a step keeps the balance of every record and the energies that stand. -/
theorem stepsKeepEnergyBalanced : Obligations.StepsKeepEnergyBalanced := by
  intro s t hstep
  refine ⟨fun hs i => (step_energyStep hstep i).1 (hs i), fun i hused hmark hused' => ?_⟩
  obtain ⟨hm, hs, hc, hh, hf⟩ := (step_energyStep hstep i).2 hused hmark hused'
  exact ⟨hm.trans hmark, hs, hc, hh, hf⟩

end Sys2Proof.Machine
end

section
/-! The queue holds the AUTHORIZED sessions, at most one session accrues, and each session's state agrees with its pause
reasons: every step keeps it (R2, R4, R9, R21). -/

namespace Sys2Proof.Machine

/-! ### What the moves leave of queue and supply -/

theorem Acts.queue_eq {s t : State} (h : Acts s t) :
    t.sessions.queue = s.sessions.queue ∧ t.sessions.nextSerial = s.sessions.nextSerial := by
  obtain ⟨h, -⟩ := h
  induction h with
  | same hsame => obtain ⟨_, _, _, _, _, _, _, rfl⟩ := hsame; exact ⟨rfl, rfl⟩
  | trans _ _ ih ih' => exact ⟨ih'.1.trans ih.1, ih'.2.trans ih.2⟩
  | _ => exact ⟨rfl, rfl⟩

theorem Acts.supply_eq {s t : State} (h : Acts s t) : t.supply = s.supply := by
  obtain ⟨h, -⟩ := h
  induction h with
  | same hsame => obtain ⟨_, _, _, _, _, _, _, rfl⟩ := hsame; rfl
  | trans _ _ ih ih' => exact ih'.trans ih
  | _ => rfl

theorem Voids.supply_eq {s t : State} (h : Voids s t) : t.supply = s.supply := by
  induction h with
  | acts hacts => exact hacts.supply_eq
  | trans _ _ ih ih' => exact ih'.trans ih
  | void => simp

theorem goLive_queue {s : State} {i : Fin 8} {rest : List (Fin 8)} (hqueue : s.sessions.queue = i :: rest) :
    (goLive s).sessions.queue = rest := by
  simp only [goLive, hqueue]
  rfl

theorem voidSession_queue (i : Fin 8) (s : State) : (voidSession i s).sessions.queue = s.sessions.queue.erase i := by
  have hheated (u : State) (hu : u.sessions = s.sessions) : u.sessions.queue.erase i = s.sessions.queue.erase i := by rw [hu]
  unfold voidSession
  dsimp only
  refine hheated _ ?_
  split <;> simp

theorem fillSlot_queue (i : Fin 8) (z : Authorization) (s : State) :
    (fillSlot i z s).sessions.queue = s.sessions.queue ++ [i] := by
  unfold fillSlot
  simp [State.setSession, lockChain]

/-! ### Requests that make and end a record -/

/-- AUTHORIZE leaves the state, or fills a slot that its checks found (R6, R7). -/
theorem requestAuthorize_state (charge : Byte) (heat : Option Byte) (chain : Byte) (target : Option (BitVec 32))
    (s : State) : (requestAuthorize charge heat chain target s).state = s ∨
      ∃ z i, authorization? charge heat chain target = some z ∧ authorizeChecks z s = .ok i ∧
        (requestAuthorize charge heat chain target s).state = liveAtOnce (fillSlot i z s) := by
  cases hfields : authorization? charge heat chain target with
  | none => left; simp only [requestAuthorize, hfields]; rfl
  | some z =>
    cases hchecks : authorizeChecks z s with
    | error code => left; simp only [requestAuthorize, hfields, hchecks]; rfl
    | ok i => right; exact ⟨z, i, rfl, hchecks, by simp only [requestAuthorize, hfields, hchecks]; rfl⟩

/-- RELEASE leaves the state, or frees a CLOSED record (R26). -/
theorem requestRelease_state (p : Port) (slot : Byte) (serial : BitVec 16) (s : State) :
    (requestRelease p slot serial s).state = s ∨
      ∃ i, (s.session i).state = .closed ∧ (requestRelease p slot serial s).state = releaseSession i s := by
  unfold requestRelease onSession
  split
  · exact .inl rfl
  · next i _ =>
    dsimp only
    split
    · next hclosed =>
      split
      · exact .inl rfl
      · split
        · exact .inr ⟨i, hclosed, rfl⟩
        · exact .inl rfl
    · exact .inl rfl

/-- SET_CALENDAR leaves the state, or sets the calendar to a minute of the week (R58). -/
theorem requestSetCalendar_state (minute : BitVec 16) (s : State) : (requestSetCalendar minute s).state = s ∨
    ∃ m, m ≤ 10079 ∧ (requestSetCalendar minute s).state = setCalendar m s := by
  unfold requestSetCalendar
  split
  · exact .inl rfl
  · next m hm => exact .inr ⟨m, (within?_some hm).1 ▸ (within?_some hm).2.2, rfl⟩

/-- A session goes live at once only while the supply is not UNPLUGGED and none accrues (R7). -/
theorem liveAtOnce_cases (s : State) : liveAtOnce s = s ∨
    (s.supply.state ≠ .unplugged ∧ (∀ i, (s.session i).state.accrues = false) ∧ liveAtOnce s = goLive s) := by
  unfold liveAtOnce
  split
  · next h => exact .inr ⟨h.1, accruingSlot_none.1 h.2, rfl⟩
  · exact .inl rfl

/-! ### The queue (R4) -/

/-- The same queue and the same AUTHORIZED sessions. -/
theorem QueueExact.of_same {s t : State} (h : QueueExact s) (hqueue : t.sessions.queue = s.sessions.queue)
    (hstate : ∀ j, (t.session j).state = .authorized ↔ (s.session j).state = .authorized) : QueueExact t := by
  refine ⟨hqueue ▸ h.1, fun j => ?_⟩
  rw [hqueue, hstate]
  exact h.2 j

/-- A session that is AUTHORIZED neither before nor after a write leaves the queue exact. -/
theorem QueueExact.setSession {s : State} {i : Fin 8} {r : Session} (h : QueueExact s)
    (hbefore : (s.session i).state ≠ .authorized) (hafter : r.state ≠ .authorized) : QueueExact (s.setSession i r) := by
  refine h.of_same rfl fun j => ?_
  rw [State.setSession_at]
  split
  · next hij => exact iff_of_false hafter (hij ▸ hbefore)
  · exact .rfl

theorem Acts.queueExact {s t : State} (h : Acts s t) (hs : QueueExact s) : QueueExact t :=
  hs.of_same h.queue_eq.1 fun j => (h.phase j).eq_iff rfl

theorem SessionState.ne_authorized_of_accrues {st : SessionState} (h : st.accrues = true) : st ≠ .authorized := by
  rintro rfl
  exact absurd h Bool.false_ne_true

theorem Session.gone_isLive (s : State) (r : Session) : (r.gone s).state.isLive = true := Session.judgedState_isLive _

theorem goLive_queueExact {s : State} (h : QueueExact s) : QueueExact (goLive s) := by
  cases hqueue : s.sessions.queue with
  | nil => rwa [goLive_empty hqueue]
  | cons i rest =>
    obtain ⟨hnodup, hexact⟩ := h
    rw [hqueue, List.nodup_cons] at hnodup
    refine ⟨goLive_queue hqueue ▸ hnodup.2, fun j => ?_⟩
    rw [goLive_queue hqueue, goLive_session hqueue]
    split
    · next hij =>
      have hgone := SessionState.ne_authorized_of_accrues (SessionState.accrues_of_isLive (Session.gone_isLive s (s.session i)))
      exact iff_of_false (hij ▸ hnodup.1) hgone
    · next hne => rw [← hexact j, hqueue, List.mem_cons, or_iff_right (Ne.symm hne)]

theorem closeRecord_queue (reason : CloseReason) (i : Fin 8) (s : State) :
    (closeRecord reason i s).sessions.queue = s.sessions.queue := by
  have hsettled (u : State) (r : Session) (hu : u.sessions.queue = s.sessions.queue) :
      (u.setSession i r).sessions.queue = s.sessions.queue := hu
  unfold closeRecord settle
  dsimp only
  refine hsettled _ _ ?_
  split <;> simp [State.setSession]

theorem Handles.queueExact {s t : State} (h : Handles s t) (hs : QueueExact s) : QueueExact t := by
  induction h with
  | acts hacts => exact hacts.queueExact hs
  | trans _ _ ih ih' => exact ih' (ih hs)
  | goLive s => exact goLive_queueExact hs
  | stop p hlive =>
    refine hs.setSession (SessionState.ne_authorized_of_accrues (SessionState.accrues_of_isLive hlive)) ?_
    exact SessionState.noConfusion
  | close reason haccrues =>
    refine hs.of_same (closeRecord_queue _ _ _) fun j => ?_
    rw [closeRecord_session]
    split
    · next hij =>
      subst hij
      exact iff_of_false SessionState.noConfusion (SessionState.ne_authorized_of_accrues haccrues)
    · exact .rfl

theorem Voids.queueExact {s t : State} (h : Voids s t) (hs : QueueExact s) : QueueExact t := by
  induction h with
  | acts hacts => exact hacts.queueExact hs
  | trans _ _ ih ih' => exact ih' (ih hs)
  | void =>
    obtain ⟨hnodup, hexact⟩ := hs
    refine ⟨voidSession_queue _ _ ▸ hnodup.erase _, fun j => ?_⟩
    rw [voidSession_queue, voidSession_session, hnodup.mem_erase_iff, hexact]
    split
    · next hij => exact iff_of_false (fun h => h.1 hij.symm) SessionState.noConfusion
    · next hne => exact and_iff_right (Ne.symm hne)

theorem Deals.queueExact {s t : State} (h : Deals s t) (hs : QueueExact s) : QueueExact t := by
  induction h with
  | handles h => exact h.queueExact hs
  | trans _ _ ih ih' => exact ih' (ih hs)
  | books h => exact hs.of_same (by rw [h.1]) fun j => by rw [h.session_eq]

theorem fillSlot_queueExact {s : State} {i : Fin 8} (z : Authorization) (hfree : (s.session i).state = .free)
    (hs : QueueExact s) : QueueExact (fillSlot i z s) := by
  obtain ⟨hnodup, hexact⟩ := hs
  have hnew : i ∉ s.sessions.queue := by simp [hexact, hfree]
  refine ⟨?_, fun j => ?_⟩
  · rw [fillSlot_queue]
    exact List.nodup_append.2 ⟨hnodup, by simp, by simpa using fun j hj (h : j = i) => hnew (h ▸ hj)⟩
  · rw [fillSlot_queue, fillSlot_session, List.mem_append, List.mem_singleton, hexact]
    split
    · next hij => exact iff_of_true (.inr hij.symm) rfl
    · next hne => exact or_iff_left (Ne.symm hne)

theorem releaseSession_queueExact {s : State} {i : Fin 8} (hclosed : (s.session i).state = .closed)
    (hs : QueueExact s) : QueueExact (releaseSession i s) := by
  refine hs.of_same ?_ fun j => ?_
  · unfold releaseSession
    dsimp only
    split <;> simp [State.setSession]
  · rw [releaseSession_session]
    split
    · next hij => subst hij; exact iff_of_false SessionState.noConfusion (by rw [hclosed]; exact SessionState.noConfusion)
    · exact .rfl

/-! ### States and reasons (R2, R9) -/

/-- The record's state agrees with its pause reasons. -/
def Session.ReasonsAgree (r : Session) : Prop :=
  (r.state = .active → r.reasons = .empty) ∧ (r.state = .paused → r.reasons ≠ .empty) ∧
  (r.state.isLive = false → r.reasons = .empty)

theorem reasonsFollow_iff {s : State} : ReasonsFollow s ↔ ∀ i, (s.session i).ReasonsAgree := by
  refine forall_congr' fun i => ?_
  cases h : (s.session i).state <;> simp [h, Session.ReasonsAgree, SessionState.isLive]

theorem PauseReasons.isEmpty_iff (p : PauseReasons) : p.isEmpty = true ↔ p = .empty := by
  cases p
  simp [PauseReasons.isEmpty, PauseReasons.empty, and_assoc]

theorem Session.reasonsAgree_of_dead {r : Session} (hreasons : r.reasons = .empty)
    (hstate : r.state.isLive = false) : r.ReasonsAgree :=
  ⟨fun _ => hreasons, fun h => by simp [h, SessionState.isLive] at hstate, fun _ => hreasons⟩

theorem Session.withReasons_agree {r : Session} (p : PauseReasons) (hlive : r.state.isLive = true) :
    (r.withReasons p).ReasonsAgree := by
  have hempty := PauseReasons.isEmpty_iff p
  cases hstate : r.state <;> simp [SessionState.isLive, hstate] at hlive <;>
    cases hp : p.isEmpty <;> simp_all [Session.ReasonsAgree, Session.withReasons, SessionState.isLive]

/-- A state judged afresh agrees with the reasons (R8, R17). -/
theorem Session.judged_agree (r : Session) : ({ r with state := r.judgedState } : Session).ReasonsAgree := by
  have hempty := PauseReasons.isEmpty_iff r.reasons
  unfold Session.judgedState
  split
  · exact ⟨SessionState.noConfusion, SessionState.noConfusion, fun h => Bool.noConfusion h⟩
  · split
    · next h => exact ⟨fun _ => hempty.1 h, SessionState.noConfusion, fun h => Bool.noConfusion h⟩
    · next h => exact ⟨SessionState.noConfusion, fun _ => h ∘ hempty.2, fun h => Bool.noConfusion h⟩

/-- Writing a record that agrees with its reasons where the old one did. -/
theorem setSession_agrees {s : State} {i : Fin 8} {r : Session}
    (h : (s.session i).ReasonsAgree → r.ReasonsAgree) {j : Fin 8} (hs : (s.session j).ReasonsAgree) :
    ((s.setSession i r).session j).ReasonsAgree := by
  rw [State.setSession_at]
  split
  · next hij => subst hij; exact h hs
  · exact hs

theorem Session.ReasonsAgree.of_same {r r' : Session} (h : r.ReasonsAgree) (hstate : r'.state = r.state)
    (hreasons : r'.reasons = r.reasons) : r'.ReasonsAgree := by
  simpa only [Session.ReasonsAgree, hstate, hreasons] using h

theorem Session.raiseHold_reasons (r : Session) (role : HoldRole) (grant : Nat) :
    (r.raiseHold role grant).reasons = r.reasons := by cases role <;> rfl

theorem EditOf.reasons_eq {r r' : Session} (h : EditOf r r') : r'.reasons = r.reasons := by rw [h]

theorem Acts.agrees {s t : State} (h : Acts s t) {j : Fin 8} (hs : (s.session j).ReasonsAgree) :
    (t.session j).ReasonsAgree := by
  obtain ⟨h, -⟩ := h
  induction h with
  | same hsame => rwa [hsame.session_eq]
  | trans _ _ ih ih' => exact ih' (ih hs)
  | planner | heating | isolation | localizer | account => exact hs
  | reasons p hlive => exact setSession_agrees (fun _ => Session.withReasons_agree p hlive) hs
  | complete hstate =>
    refine setSession_agrees (fun _ => ?_) hs
    exact ⟨SessionState.noConfusion, SessionState.noConfusion, fun h => Bool.noConfusion h⟩
  | retarget t _ =>
    refine setSession_agrees (fun _ => ?_) hs
    exact Session.judged_agree _
  | edits hedit => exact hs.of_same (hedit j).state_eq (hedit j).reasons_eq
  | accrued =>
    refine setSession_agrees (fun h => ?_) hs
    exact h.of_same rfl rfl
  | frozen s i =>
    refine setSession_agrees (fun h => ?_) hs
    exact h.of_same rfl rfl
  | topUp => exact setSession_agrees (fun h => h.of_same (Session.raiseHold_state _ _ _) (Session.raiseHold_reasons _ _ _)) hs

theorem Handles.agrees {s t : State} (h : Handles s t) {j : Fin 8} (hs : (s.session j).ReasonsAgree) :
    (t.session j).ReasonsAgree := by
  induction h with
  | acts hacts => exact hacts.agrees hs
  | trans _ _ ih ih' => exact ih' (ih hs)
  | goLive s =>
    cases hqueue : s.sessions.queue with
    | nil => rwa [goLive_empty hqueue]
    | cons i rest =>
      rw [goLive_session hqueue]
      split
      · exact Session.judged_agree _
      · exact hs
  | stop =>
    refine setSession_agrees (fun _ => ?_) hs
    exact Session.reasonsAgree_of_dead rfl rfl
  | close =>
    rw [closeRecord_session]
    split
    · exact Session.reasonsAgree_of_dead rfl rfl
    · exact hs

theorem free_agrees : Session.free.ReasonsAgree := Session.reasonsAgree_of_dead rfl rfl

theorem Voids.agrees {s t : State} (h : Voids s t) {j : Fin 8} (hs : (s.session j).ReasonsAgree) :
    (t.session j).ReasonsAgree := by
  induction h with
  | acts hacts => exact hacts.agrees hs
  | trans _ _ ih ih' => exact ih' (ih hs)
  | void =>
    rw [voidSession_session]
    split
    · exact free_agrees
    · exact hs

theorem Deals.agrees {s t : State} (h : Deals s t) {j : Fin 8} (hs : (s.session j).ReasonsAgree) :
    (t.session j).ReasonsAgree := by
  induction h with
  | handles h => exact h.agrees hs
  | trans _ _ ih ih' => exact ih' (ih hs)
  | books h => rwa [h.session_eq]

/-! ### Queue and reasons over a whole move -/

/-- The queue is exact and every record agrees with its reasons. -/
def TableSound (s : State) : Prop := QueueExact s ∧ ∀ i, (s.session i).ReasonsAgree

theorem Deals.tableSound {s t : State} (h : Deals s t) (hs : TableSound s) : TableSound t :=
  ⟨h.queueExact hs.1, fun i => h.agrees (hs.2 i)⟩

theorem Acts.tableSound {s t : State} (h : Acts s t) (hs : TableSound s) : TableSound t := h.deals.tableSound hs

theorem Voids.tableSound {s t : State} (h : Voids s t) (hs : TableSound s) : TableSound t :=
  ⟨h.queueExact hs.1, fun i => h.agrees (hs.2 i)⟩

theorem fillSlot_tableSound {s : State} {i : Fin 8} (z : Authorization) (hfree : (s.session i).state = .free)
    (hs : TableSound s) : TableSound (fillSlot i z s) := by
  refine ⟨fillSlot_queueExact z hfree hs.1, fun j => ?_⟩
  rw [fillSlot_session]
  split
  · exact Session.reasonsAgree_of_dead rfl rfl
  · exact hs.2 j

theorem releaseSession_tableSound {s : State} {i : Fin 8} (hclosed : (s.session i).state = .closed)
    (hs : TableSound s) : TableSound (releaseSession i s) := by
  refine ⟨releaseSession_queueExact hclosed hs.1, fun j => ?_⟩
  rw [releaseSession_session]
  split
  · exact free_agrees
  · exact hs.2 j

/-- A change of the tariff with the step of the bands that follows it is an edit of the sessions. -/
theorem updateBands_tableSound (f : Session → Option (Fin 32)) (v : TariffStore) {s : State} (hs : TableSound s) :
    TableSound (updateBands f (s.setTariff v)) := (updateBands_acts f (s.setTariff v)).tableSound hs

theorem takeMinute_tableSound {s : State} (hs : TableSound s) : TableSound (takeMinute s) := by
  cases hcalendar : s.tariff.calendar with
  | none => rwa [takeMinute_unset hcalendar]
  | some m => exact (takeMinute_eq hcalendar).tableSound (updateBands_tableSound _ _ hs)

theorem powerOn_tableSound (s : State) : TableSound (powerOnState s) := by
  have hfree (i : Fin 8) : (powerOnState s).session i = .free := by simp [powerOnState, State.reset, State.session]
  refine ⟨⟨List.nodup_nil, fun i => ?_⟩, fun i => hfree i ▸ free_agrees⟩
  rw [hfree]
  exact iff_of_false List.not_mem_nil SessionState.noConfusion

theorem TableSound.of_sessions {s t : State} (h : t.sessions = s.sessions) (hs : TableSound s) : TableSound t := by
  simpa only [TableSound, QueueExact, State.session, h] using hs

theorem serve_tableSound (p : Port) (r : Request) {s : State} (hs : TableSound s) :
    TableSound (serve p s r).state := by
  cases hbooks : keepsBooks r with
  | false => exact (serve_deals p s hbooks).tableSound hs
  | true =>
    cases r with
    | authorize charge heat chain target =>
      obtain heq | ⟨z, i, -, hchecks, heq⟩ := requestAuthorize_state charge heat chain target s
      · exact heq.symm ▸ hs
      · obtain ⟨-, -, -, -, hslot, -⟩ := authorizeChecks_ok hchecks
        exact heq.symm ▸ (Deals.handles (liveAtOnce_handles _)).tableSound (fillSlot_tableSound z (freeSlot_some hslot) hs)
    | cancel slot serial => exact (requestCancel_voids slot serial s).tableSound hs
    | release slot serial =>
      obtain heq | ⟨i, hclosed, heq⟩ := requestRelease_state p slot serial s
      · exact heq.symm ▸ hs
      · exact heq.symm ▸ releaseSession_tableSound hclosed hs
    | setCalendar minute =>
      obtain heq | ⟨m, -, heq⟩ := requestSetCalendar_state minute s
      · exact heq.symm ▸ hs
      · exact heq.symm ▸ updateBands_tableSound _ _ hs
    | openAccount | closeAccount | writeBand | freeBand | sealChain | unsealChain | setLifetime =>
      exact hs.of_sessions (by simp [serve])
    | _ => exact absurd hbooks Bool.false_ne_true

theorem Move.tableSound {s t : State} (h : Move s t) (hs : TableSound s) : TableSound t := by
  obtain hdeals | rfl | ⟨us, rfl⟩ | ⟨p, r, -, rfl⟩ := h.books_cases
  · exact hdeals.tableSound hs
  · exact powerOn_tableSound s
  · exact takeMinute_tableSound (s := passTime us s) hs
  · exact serve_tableSound p r hs

/-! ### One session at the inlet (R2, R21) -/

/-- No session is live or CLOSING. -/
def NoneAccrues (s : State) : Prop := ∀ i, (s.session i).state.accrues = false

/-- At most one session is live or CLOSING. -/
def OneAccrues (s : State) : Prop :=
  ∀ i j, (s.session i).state.accrues = true → (s.session j).state.accrues = true → i = j

theorem NoneAccrues.oneHoldsInlet {s : State} (h : NoneAccrues s) : OneHoldsInlet s :=
  ⟨fun i _ hi => absurd ((h i).symm.trans hi) Bool.false_ne_true, fun i hi => absurd ((h i).symm.trans hi) Bool.false_ne_true⟩

/-- Every session that accrues did so before, and the supply state stands. -/
theorem OneHoldsInlet.of_fewer {s t : State} (h : OneHoldsInlet s)
    (hfewer : ∀ i, (t.session i).state.accrues = true → (s.session i).state.accrues = true)
    (hsupply : t.supply.state = s.supply.state) : OneHoldsInlet t :=
  ⟨fun i j hi hj => h.1 i j (hfewer i hi) (hfewer j hj), fun i hi => hsupply ▸ h.2 i (hfewer i hi)⟩

theorem OneHoldsInlet.none_of_unplugged {s : State} (h : OneHoldsInlet s) (hsupply : s.supply.state = .unplugged) :
    NoneAccrues s := fun i => Bool.eq_false_iff.2 fun hi => h.2 i hi hsupply

theorem goLive_supply (s : State) : (goLive s).supply = s.supply := by simp

/-- Going live while no session accrues and the supply is not UNPLUGGED (R7, R8). -/
theorem goLive_oneHoldsInlet {s : State} (hnone : NoneAccrues s) (hplugged : s.supply.state ≠ .unplugged) :
    OneHoldsInlet (goLive s) := by
  cases hqueue : s.sessions.queue with
  | nil => rw [goLive_empty hqueue]; exact hnone.oneHoldsInlet
  | cons i rest =>
    have honly (j : Fin 8) (hj : ((goLive s).session j).state.accrues = true) : i = j := by
      rw [goLive_session hqueue] at hj
      by_contra hne
      rw [if_neg hne, hnone j] at hj
      exact absurd hj Bool.false_ne_true
    exact ⟨fun j k hj hk => (honly j hj).symm.trans (honly k hk), fun _ _ => goLive_supply s ▸ hplugged⟩

theorem handOver_oneHoldsInlet {s : State} (hnone : NoneAccrues s) : OneHoldsInlet (handOver s) := by
  unfold handOver
  split
  · exact hnone.oneHoldsInlet
  · next hplugged => exact goLive_oneHoldsInlet hnone hplugged

/-- The close of the one session that accrues leaves none. -/
theorem closeRecord_noneAccrues {s : State} {i : Fin 8} (reason : CloseReason) (hone : OneAccrues s)
    (haccrues : (s.session i).state.accrues = true) : NoneAccrues (closeRecord reason i s) := by
  intro j
  rw [closeRecord_session]
  split
  · rfl
  · next hne => exact Bool.eq_false_iff.2 fun hj => hne (hone i j haccrues hj)

theorem Acts.noneAccrues {s t : State} (h : Acts s t) (hs : NoneAccrues s) : NoneAccrues t :=
  fun i => (h.accrues_eq i).trans (hs i)

theorem closeSession_noneAccrues {s : State} {i : Fin 8} (reason : CloseReason) (hone : OneAccrues s)
    (haccrues : (s.session i).state.accrues = true) : NoneAccrues (closeSession reason i s) := by
  have hclosed := closeRecord_noneAccrues reason hone haccrues
  unfold closeSession
  dsimp only
  split
  · exact (sessionChanged_acts _ _).noneAccrues hclosed
  · exact hclosed

theorem Acts.oneHoldsInlet {s t : State} (h : Acts s t) (hs : OneHoldsInlet s) : OneHoldsInlet t :=
  hs.of_fewer (fun i hi => (h.accrues_eq i).symm.trans hi) (by rw [h.supply_eq])

theorem Voids.accrues {s t : State} (h : Voids s t) {i : Fin 8} (hi : (t.session i).state.accrues = true) :
    (s.session i).state.accrues = true := by
  induction h with
  | acts hacts => exact (hacts.accrues_eq i).symm.trans hi
  | trans _ _ ih ih' => exact ih (ih' hi)
  | void =>
    rw [voidSession_session] at hi
    split at hi
    · exact absurd hi Bool.false_ne_true
    · exact hi

theorem Voids.oneHoldsInlet {s t : State} (h : Voids s t) (hs : OneHoldsInlet s) : OneHoldsInlet t :=
  hs.of_fewer (fun _ => h.accrues) (by rw [h.supply_eq])

theorem endClosing_oneHoldsInlet {s : State} (hs : OneHoldsInlet s) : OneHoldsInlet (endClosing s) := by
  unfold endClosing
  split
  · exact hs
  · next hslot => exact handOver_oneHoldsInlet (closeSession_noneAccrues _ hs.1 (closingSlot_accrues hslot))

theorem sessionsMeterLost_oneHoldsInlet {s : State} (hs : OneHoldsInlet s) : OneHoldsInlet (sessionsMeterLost s) := by
  unfold sessionsMeterLost
  split
  · exact hs
  · next hslot =>
    exact handOver_oneHoldsInlet (closeSession_noneAccrues _ hs.1 (SessionState.accrues_of_isLive (liveSlot_some hslot)))

theorem Events.oneHoldsInlet {s t : State} (h : Events s t) (hs : OneHoldsInlet s) : OneHoldsInlet t := by
  induction h with
  | acts h => exact h.oneHoldsInlet hs
  | trans _ _ ih ih' => exact ih' (ih hs)
  | other hbooks hsupply => exact hs.of_fewer (fun i hi => hbooks.session_eq i ▸ hi) hsupply.state
  | endClosing s => exact endClosing_oneHoldsInlet hs
  | meterLost s => exact sessionsMeterLost_oneHoldsInlet hs

theorem sessionsUnplugged_noneAccrues {s : State} (hone : OneAccrues s) : NoneAccrues (sessionsUnplugged s) := by
  unfold sessionsUnplugged
  split
  · next hslot => exact accruingSlot_none.1 hslot
  · next hslot => exact closeSession_noneAccrues _ hone (accruingSlot_some hslot)

/-- A new supply record is handed to the sessions: a plug event lets the head go live, an unplug event closes the one at
the inlet (R100 to R102). -/
theorem handSupplyToSessions_oneHoldsInlet {s : State} (m : OfferMonitor) (hs : OneHoldsInlet s) :
    OneHoldsInlet (handSupplyToSessions s.supply.state (s.setSupply m)) := by
  unfold handSupplyToSessions
  split
  · next hsame => exact hs.of_fewer (fun _ => id) hsame.symm
  · next hchanged =>
    split
    · next hbefore =>
      refine goLive_oneHoldsInlet (s := s.setSupply m) (hs.none_of_unplugged hbefore) fun hafter => ?_
      exact hchanged (hbefore.trans hafter.symm)
    · split
      · exact (sessionsUnplugged_noneAccrues (s := s.setSupply m) hs.1).oneHoldsInlet
      · next hplugged => exact (sessionsSupply_acts _).oneHoldsInlet ⟨hs.1, fun _ _ => hplugged⟩

theorem takePeriod_oneHoldsInlet (offer : Option Nat) (cls : LevelClass) (last : LastPeriod) {s : State}
    (hs : OneHoldsInlet s) : OneHoldsInlet (takePeriod offer cls last s) := by
  refine Acts.oneHoldsInlet ?_ (handSupplyToSessions_oneHoldsInlet (s.supply.taken offer cls last) hs)
  exact (offeredChanged_acts s.supply.offered _).trans
    ((handSupplyToFaults_acts s.supply.state _).trans (postPlug_acts s.supply.state _))

theorem takeRisingEdge_oneHoldsInlet (w : Word) {s : State} (hs : OneHoldsInlet s) : OneHoldsInlet (takeRisingEdge w s) := by
  unfold takeRisingEdge
  dsimp only
  split
  · exact hs
  · exact hs
  · exact takePeriod_oneHoldsInlet _ _ _ (s := setCapture (.timing 0 none) (restartOverflow s)) hs

theorem takeFallingEdge_oneHoldsInlet (w : Word) {s : State} (hs : OneHoldsInlet s) :
    OneHoldsInlet (takeFallingEdge w s) := by
  unfold takeFallingEdge
  split <;> exact hs

theorem sessionsReset_noneAccrues {s : State} (hs : OneHoldsInlet s) : NoneAccrues (sessionsReset s) := by
  unfold sessionsReset
  split
  · next hslot => exact accruingSlot_none.1 hslot
  · next hslot => exact closeRecord_noneAccrues _ hs.1 (accruingSlot_some hslot)

theorem warmReset_noneAccrues {s : State} (hs : OneHoldsInlet s) : NoneAccrues (warmReset s) := by
  have hclosed : NoneAccrues (sessionsReset (abortDwell (resetAttention s))) :=
    sessionsReset_noneAccrues ((abortDwell_acts _).oneHoldsInlet hs)
  intro i
  rw [session_eq_of_sessions (t := warmReset s) (s := sessionsReset (abortDwell (resetAttention s))) (by simp [warmReset])]
  exact hclosed i

theorem requestStop_oneHoldsInlet (p : Port) (slot : Byte) (serial : BitVec 16) {s : State} (hs : OneHoldsInlet s) :
    OneHoldsInlet (requestStop p slot serial s).state := by
  unfold requestStop onSession
  split
  · exact hs
  · dsimp only
    split
    · next i _ hlive =>
      refine (sessionChanged_acts _ _).oneHoldsInlet (hs.of_fewer (fun j hj => ?_) rfl)
      rw [State.setSession_at] at hj
      split at hj
      · next hij => exact hij ▸ SessionState.accrues_of_isLive hlive
      · exact hj
    · exact hs

theorem fillSlot_oneHoldsInlet {s : State} (i : Fin 8) (z : Authorization) (hs : OneHoldsInlet s) :
    OneHoldsInlet (fillSlot i z s) := by
  refine hs.of_fewer (fun j hj => ?_) (by simp)
  rw [fillSlot_session] at hj
  split at hj
  · exact absurd hj Bool.false_ne_true
  · exact hj

theorem liveAtOnce_oneHoldsInlet {s : State} (hs : OneHoldsInlet s) : OneHoldsInlet (liveAtOnce s) := by
  obtain heq | ⟨hplugged, hnone, heq⟩ := liveAtOnce_cases s
  · exact heq.symm ▸ hs
  · exact heq.symm ▸ goLive_oneHoldsInlet hnone hplugged

theorem releaseSession_oneHoldsInlet {s : State} (i : Fin 8) (hs : OneHoldsInlet s) : OneHoldsInlet (releaseSession i s) := by
  refine hs.of_fewer (fun j hj => ?_) (by simp)
  rw [releaseSession_session] at hj
  split at hj
  · exact absurd hj Bool.false_ne_true
  · exact hj

theorem OneHoldsInlet.of_same {s t : State} (h : OneHoldsInlet s) (hsessions : t.sessions = s.sessions)
    (hsupply : t.supply = s.supply) : OneHoldsInlet t :=
  h.of_fewer (fun i hi => session_eq_of_sessions hsessions i ▸ hi) (by rw [hsupply])

theorem serve_oneHoldsInlet (p : Port) (r : Request) {s : State} (hs : OneHoldsInlet s) :
    OneHoldsInlet (serve p s r).state := by
  cases halone : takenAlone r with
  | false => exact (serve_acts p s halone).oneHoldsInlet hs
  | true =>
    cases r with
    | authorize charge heat chain target =>
      obtain heq | ⟨z, i, -, -, heq⟩ := requestAuthorize_state charge heat chain target s
      · exact heq.symm ▸ hs
      · exact heq.symm ▸ liveAtOnce_oneHoldsInlet (fillSlot_oneHoldsInlet i z hs)
    | cancel slot serial => exact (requestCancel_voids slot serial s).oneHoldsInlet hs
    | stop slot serial => exact requestStop_oneHoldsInlet p slot serial hs
    | release slot serial =>
      obtain heq | ⟨i, -, heq⟩ := requestRelease_state p slot serial s
      · exact heq.symm ▸ hs
      · exact heq.symm ▸ releaseSession_oneHoldsInlet i hs
    | setCalendar minute =>
      obtain heq | ⟨m, -, heq⟩ := requestSetCalendar_state minute s
      · exact heq.symm ▸ hs
      · exact heq.symm ▸ (updateBands_acts _ (s.setTariff _)).oneHoldsInlet hs
    | retireFault key =>
      show OneHoldsInlet (requestRetireFault key s).state
      unfold requestRetireFault
      split
      · exact hs
      · split
        · exact hs
        · exact (retireFault_events _ s).oneHoldsInlet hs
    | warmReset => exact (warmReset_noneAccrues hs).oneHoldsInlet
    | openAccount | closeAccount | writeBand | freeBand | sealChain | unsealChain | setLifetime | setHeating =>
      exact hs.of_same (by simp [serve]) (by simp [serve])
    | _ => exact absurd halone Bool.false_ne_true

theorem takeMinute_oneHoldsInlet {s : State} (hs : OneHoldsInlet s) : OneHoldsInlet (takeMinute s) := by
  cases hcalendar : s.tariff.calendar with
  | none => rwa [takeMinute_unset hcalendar]
  | some m => exact (takeMinute_eq hcalendar).oneHoldsInlet ((updateBands_acts _ (s.setTariff _)).oneHoldsInlet hs)

theorem Move.oneHoldsInlet {s t : State} (h : Move s t) (hs : OneHoldsInlet s) : OneHoldsInlet t := by
  have hpassed (us : Nat) : OneHoldsInlet (passTime us s) := (passTime_events us s).oneHoldsInlet hs
  cases h with
  | nothing => exact hs
  | served p r => exact serve_oneHoldsInlet p r hs
  | warmReset => exact (warmReset_noneAccrues hs).oneHoldsInlet
  | powerOn =>
    refine NoneAccrues.oneHoldsInlet fun i => ?_
    simp [powerOnState, State.reset, State.session, Session.free, SessionState.accrues, SessionState.isLive]
  | time us => exact hpassed us
  | frameSync => exact hs
  | dataWord w => exact (takeDataWord_events w s).oneHoldsInlet hs
  | overdue us => exact (takeOverdue_events _).oneHoldsInlet (hpassed us)
  | lostExpiry us => exact (takeLostExpiry_events _).oneHoldsInlet (hpassed us)
  | risingEdge us w => exact takeRisingEdge_oneHoldsInlet w (hpassed us)
  | fallingEdge us w => exact takeFallingEdge_oneHoldsInlet w (hpassed us)
  | overflow us w => exact takePeriod_oneHoldsInlet _ _ _ (s := setCapture .waiting (restartOverflow (passTime us s))) (hpassed us)
  | minute us => exact takeMinute_oneHoldsInlet (hpassed us)

theorem SameBlocks.tableSound {s t : State} (h : SameBlocks s t) (hs : TableSound s) : TableSound t :=
  (Acts.same h).tableSound hs

theorem SameBlocks.oneHoldsInlet {s t : State} (h : SameBlocks s t) (hs : OneHoldsInlet s) : OneHoldsInlet t :=
  (Acts.same h).oneHoldsInlet hs

/-- Settles O56: a step keeps the queue exact with the reasons, and the inlet to one session. -/
theorem stepsKeepSessionTableSound : Obligations.StepsKeepSessionTableSound := by
  intro s t hqueue hinlet hreasons hstep
  obtain ⟨hqueue', hagree⟩ := step_keeps SameBlocks.tableSound Move.tableSound hstep ⟨hqueue, reasonsFollow_iff.1 hreasons⟩
  exact ⟨hqueue', step_keeps SameBlocks.oneHoldsInlet Move.oneHoldsInlet hstep hinlet, reasonsFollow_iff.2 hagree⟩

end Sys2Proof.Machine
end

section
/-! SUPPORT. What the operations that make and end a session leave in its accounts and its chain, said once for each:
authorize, void, close, release (R28, R38, R41, R42, R52). -/

namespace Sys2Proof.Machine

/-! ### The accounts of a session -/

/-- Rewrites the record of an account. -/
def atAccount (a : Fin 16) (f : Account → Account) (s : State) : State := s.setAccount a (f (s.account a))

/-- Rewrites the record of a session's charge account, and that of its heat account where it has one. -/
def atBoth (c : Fin 16) (heat : Option (Fin 16)) (f g : Account → Account) (s : State) : State :=
  match heat with
  | none => atAccount c f s
  | some h => atAccount h g (atAccount c f s)

theorem atAccount_account (a b : Fin 16) (f : Account → Account) (s : State) :
    (atAccount a f s).account b = if a = b then f (s.account b) else s.account b := by
  rw [atAccount, State.setAccount_at]
  split
  · next h => rw [h]
  · rfl

/-- Only the account records are rewritten. -/
theorem atBoth_eq (c : Fin 16) (heat : Option (Fin 16)) (f g : Account → Account) (s : State) :
    atBoth c heat f g s = s.setAccounts (atBoth c heat f g s).accounts := by cases heat <;> rfl

theorem atBoth_account {c : Fin 16} {heat : Option (Fin 16)} (hdiffer : heat ≠ some c) (f g : Account → Account)
    (s : State) (a : Fin 16) : (atBoth c heat f g s).account a =
      if c = a then f (s.account a) else if heat = some a then g (s.account a) else s.account a := by
  cases heat with
  | none => simp [atBoth, atAccount_account]
  | some h =>
    have hne : h ≠ c := fun heq => hdiffer (congrArg some heq)
    simp only [atBoth, atAccount_account, Option.some.injEq]
    by_cases hha : h = a
    · subst hha
      simp [Ne.symm hne]
    · simp [hha]

/-- A release of both holds, with the session counts (R41). -/
def releasedBoth (r : Session) : State → State :=
  atBoth r.chargeAccount r.heatAccount
    (fun a => { a with held := a.held - r.chargeHold, sessionCount := a.sessionCount - 1 })
    (fun a => { a with held := a.held - r.heatHold.getD 0, sessionCount := a.sessionCount - 1 })

/-- A settlement of both accounts (R42). -/
def settledBoth (r : Session) : State → State :=
  atBoth r.chargeAccount r.heatAccount
    (fun a => { a with balance := saturateMoney (a.balance - r.coveredCost .charge), held := a.held - r.chargeHold })
    (fun a => { a with balance := saturateMoney (a.balance - r.heatCost), held := a.held - r.heatHold.getD 0 })

/-- A release of both session counts (R26). -/
def loweredBoth (r : Session) : State → State :=
  atBoth r.chargeAccount r.heatAccount
    (fun a => { a with sessionCount := a.sessionCount - 1 }) (fun a => { a with sessionCount := a.sessionCount - 1 })

theorem voidSession_eq (i : Fin 8) (s : State) : voidSession i s =
    post .sessionVoid (((unlockChain (s.session i).chain (releasedBoth (s.session i) s)).setSessions
      { s.sessions with queue := s.sessions.queue.erase i }).setSession i .free) := by
  unfold voidSession releasedBoth
  cases h : (s.session i).heatAccount <;> simp only [h] <;> rfl

theorem atBoth_session (c : Fin 16) (heat : Option (Fin 16)) (f g : Account → Account) (s : State) (i : Fin 8) :
    (atBoth c heat f g s).session i = s.session i := by rw [atBoth_eq]; rfl

theorem settledBoth_none {r : Session} (h : r.heatAccount = none) (s : State) :
    settledBoth r s = settleAccount r.chargeAccount (r.coveredCost .charge) r.chargeHold s := by
  rw [settledBoth, h]; rfl

theorem settledBoth_some {r : Session} {a : Fin 16} (h : r.heatAccount = some a) (s : State) :
    settledBoth r s = settleAccount a r.heatCost (r.heatHold.getD 0)
      (settleAccount r.chargeAccount (r.coveredCost .charge) r.chargeHold s) := by
  rw [settledBoth, h]; rfl

/-- A record with its holds emptied (R42). -/
def Session.settled (r : Session) : Session := { r with chargeHold := 0, heatHold := r.heatHold.map fun _ => 0 }

theorem settle_eq (i : Fin 8) (s : State) :
    settle i s = (settledBoth (s.session i) s).setSession i (s.session i).settled := by
  have hsame : (settledBoth (s.session i) s).session i = s.session i := atBoth_session _ _ _ _ s i
  rw [show (s.session i).settled = ((settledBoth (s.session i) s).session i).settled by rw [hsame]]
  unfold settle
  dsimp only
  split
  · next h => rw [settledBoth_none h]; rfl
  · next h => rw [settledBoth_some h]; rfl

theorem releaseSession_eq (i : Fin 8) (s : State) :
    releaseSession i s = (loweredBoth (s.session i) s).setSession i .free := by
  unfold releaseSession loweredBoth
  cases (s.session i).heatAccount <;> rfl

theorem takeHolds_eq (z : Authorization) (s : State) : takeHolds z s =
    atBoth z.charge z.heat (fun a => { a with held := a.held + a.holdStep, sessionCount := a.sessionCount + 1 })
      (fun a => { a with held := a.held + a.holdStep, sessionCount := a.sessionCount + 1 }) s := by
  unfold takeHolds
  cases z.heat <;> rfl

theorem setSession_setSession (s : State) (i : Fin 8) (r r' : Session) :
    (s.setSession i r).setSession i r' = s.setSession i r' := by
  simp [State.setSession, State.setSessions]

theorem atBoth_setSession (c : Fin 16) (heat : Option (Fin 16)) (f g : Account → Account) (s : State) (i : Fin 8)
    (r : Session) : atBoth c heat f g (s.setSession i r) = (atBoth c heat f g s).setSession i r := by cases heat <;> rfl

/-- A close is the settlement of the record as it was, its chain unlocked (R24). -/
theorem closeRecord_eq (reason : CloseReason) (i : Fin 8) (s : State) : closeRecord reason i s =
    post .sessionClosed (unlockChain (s.session i).chain
      ((settledBoth (s.session i) s).setSession i ((s.session i).closedRecord reason s))) := by
  unfold closeRecord
  dsimp only
  rw [settle_eq, State.setSession_same, settledBoth, atBoth_setSession, setSession_setSession]
  rfl

end Sys2Proof.Machine
end

section
/-! Held amounts, session counts and lock counts are those of the sessions, and the calendar is set wherever a session
exists: every step keeps it (R28, R38 to R42, R52, R54). -/

namespace Sys2Proof.Machine

/-! ### Sums over the slots -/

/-- The sum of a quantity over the eight slots. -/
def total (f : Fin 8 → Nat) : Nat := ((List.finRange 8).map f).sum

theorem countP_eq_total (p : Fin 8 → Bool) : (List.finRange 8).countP p = total fun i => (p i).toNat := by
  have h (l : List (Fin 8)) : l.countP p = (l.map fun i => (p i).toNat).sum := by
    induction l with
    | nil => rfl
    | cons i rest ih => rw [List.countP_cons, List.map_cons, List.sum_cons, ← ih]; cases p i <;> simp [Nat.add_comm]
  exact h _

theorem total_eq_sum (f : Fin 8 → Nat) : total f = ∑ i, f i := by rw [total, ← List.ofFn_eq_map, List.sum_ofFn]

theorem le_total (f : Fin 8 → Nat) (i : Fin 8) : f i ≤ total f := by
  rw [total_eq_sum]
  exact Finset.single_le_sum (f := f) (fun _ _ => Nat.zero_le _) (Finset.mem_univ i)

/-- Where two quantities differ at one slot, so do their sums, by as much. -/
theorem total_change {f g : Fin 8 → Nat} (i : Fin 8) (h : ∀ j, j ≠ i → g j = f j) :
    total g + f i = total f + g i := by
  have hrest : ∑ j ∈ Finset.univ.erase i, g j = ∑ j ∈ Finset.univ.erase i, f j :=
    Finset.sum_congr rfl fun j hj => h j (Finset.ne_of_mem_erase hj)
  rw [total_eq_sum, total_eq_sum, ← Finset.add_sum_erase _ f (Finset.mem_univ i),
    ← Finset.add_sum_erase _ g (Finset.mem_univ i), hrest]
  omega

/-! ### What a record has at stake -/

/-- Two records with the same stake in every account and chain. -/
structure SameStakes (r r' : Session) : Prop where
  held : ∀ a, r'.holdAgainst a = r.holdAgainst a
  names : ∀ a, r'.names a = r.names a
  bound : ∀ c, r'.boundTo c = r.boundTo c
  charge : r'.chargeAccount = r.chargeAccount
  heat : r'.heatAccount = r.heatAccount
  hold : r'.heatHold.isSome = r.heatHold.isSome

theorem SameStakes.refl (r : Session) : SameStakes r r := ⟨fun _ => rfl, fun _ => rfl, fun _ => rfl, rfl, rfl, rfl⟩

/-- What a state is to accounts and chains. -/
def SessionState.Stands (a b : SessionState) : Prop :=
  (b = .free ↔ a = .free) ∧ (b = .closed ↔ a = .closed) ∧
  ((b == .authorized || b.accrues) = (a == .authorized || a.accrues))

theorem SessionState.SamePhase.stands {a b : SessionState} (h : a.SamePhase b) : a.Stands b := by
  refine ⟨h.eq_iff rfl, h.eq_iff rfl, ?_⟩
  rw [h.accrues_eq, Bool.eq_iff_iff.2 (show (b == .authorized) = true ↔ (a == .authorized) = true by
    rw [beq_iff_eq, beq_iff_eq, h.eq_iff rfl])]

/-- The same accounts, holds and chain in a state that stands alike. -/
theorem SameStakes.of_eq {r r' : Session} (hstate : r.state.Stands r'.state) (hcharge : r'.chargeAccount = r.chargeAccount)
    (hheat : r'.heatAccount = r.heatAccount) (hchain : r'.chain = r.chain) (hhold : r'.chargeHold = r.chargeHold)
    (hheatHold : r'.heatHold = r.heatHold) : SameStakes r r' := by
  obtain ⟨hfree, hclosed, hbound⟩ := hstate
  refine ⟨fun a => ?_, fun a => ?_, fun c => ?_, hcharge, hheat, by rw [hheatHold]⟩
  · simp only [Session.holdAgainst, hfree, hclosed, hcharge, hheat, hhold, hheatHold]
  · have hused : (r'.state != .free) = (r.state != .free) := by
      rw [Bool.eq_iff_iff, bne_iff_ne, bne_iff_ne, not_iff_not, hfree]
    simp only [Session.names, hused, hcharge, hheat]
  · simp only [Session.boundTo, hbound, hchain]

/-- The two roles of a record's accounts (R1). -/
def Session.RolesSound (r : Session) : Prop :=
  r.heatAccount ≠ some r.chargeAccount ∧ r.heatHold.isSome = r.heatAccount.isSome

theorem SameStakes.rolesSound {r r' : Session} (h : SameStakes r r') (hr : r.RolesSound) : r'.RolesSound := by
  rw [Session.RolesSound, h.charge, h.heat, h.hold]
  exact hr

theorem EditOf.sameStakes {r r' : Session} (h : EditOf r r') : SameStakes r r' := by
  rw [h]
  exact .of_eq (SessionState.SamePhase.stands (.inl rfl)) rfl rfl rfl rfl rfl

/-! ### The books -/

/-- Accounts and chains carry exactly what the sessions have at stake. -/
def BooksExact (s : State) : Prop := LedgerExact s ∧ LocksExact s

theorem booksExact_iff {s : State} : BooksExact s ↔
    (∀ a, (s.account a).held = total (fun i => (s.session i).holdAgainst a) ∧
      (s.account a).sessionCount = total (fun i => ((s.session i).names a).toNat) ∧
      (0 < (s.account a).sessionCount → (s.account a).state ≠ .free)) ∧
    (∀ i, (s.session i).RolesSound) ∧
    ∀ c, (s.chain c).lockCount = total (fun i => ((s.session i).boundTo c).toNat) ∧
      (0 < (s.chain c).lockCount → (s.chain c).state = .sealed) := by
  simp only [BooksExact, LedgerExact, LocksExact, countP_eq_total, and_assoc]
  rfl

/-- Accounts and chains stand where every record keeps its stake. -/
theorem BooksExact.of_stakes {s t : State} (hs : BooksExact s) (hstakes : ∀ i, SameStakes (s.session i) (t.session i))
    (haccounts : ∀ a, (t.account a).held = (s.account a).held ∧ (t.account a).sessionCount = (s.account a).sessionCount ∧
      ((t.account a).state = .free → (t.account a).sessionCount = 0 ∨ (s.account a).state = .free))
    (hchains : ∀ c, (t.chain c).lockCount = (s.chain c).lockCount ∧
      ((s.chain c).state = .sealed → (s.chain c).lockCount ≠ 0 → (t.chain c).state = .sealed)) : BooksExact t := by
  rw [booksExact_iff] at hs ⊢
  obtain ⟨hledger, hroles, hlocks⟩ := hs
  refine ⟨fun a => ?_, fun i => (hstakes i).rolesSound (hroles i), fun c => ?_⟩
  · obtain ⟨hheld, hcount, hused⟩ := hledger a
    obtain ⟨hheld', hcount', hfree⟩ := haccounts a
    refine ⟨?_, ?_, fun hpos hf => ?_⟩
    · rw [hheld', hheld]; simp only [(hstakes _).held]
    · rw [hcount', hcount]; simp only [(hstakes _).names]
    · exact (hfree hf).elim (fun h => hpos.ne' h) (fun h => hused (hcount' ▸ hpos) h)
  · obtain ⟨hlock, hsealed⟩ := hlocks c
    obtain ⟨hlock', hsealed'⟩ := hchains c
    refine ⟨by rw [hlock', hlock]; simp only [(hstakes _).bound], fun hpos => ?_⟩
    exact hsealed' (hsealed (hlock' ▸ hpos)) (hlock' ▸ hpos.ne')

/-- The record of one slot changes, and accounts and chains follow by what its stake gained or lost. -/
structure Restakes (i : Fin 8) (s t : State) : Prop where
  others : ∀ j, j ≠ i → t.session j = s.session j
  roles : (t.session i).RolesSound
  held : ∀ a, (t.account a).held + (s.session i).holdAgainst a = (s.account a).held + (t.session i).holdAgainst a
  count : ∀ a, (t.account a).sessionCount + ((s.session i).names a).toNat =
    (s.account a).sessionCount + ((t.session i).names a).toNat
  used : ∀ a, 0 < (t.account a).sessionCount → (t.account a).state ≠ .free
  locks : ∀ c, (t.chain c).lockCount + ((s.session i).boundTo c).toNat =
    (s.chain c).lockCount + ((t.session i).boundTo c).toNat
  isSealed : ∀ c, 0 < (t.chain c).lockCount → (t.chain c).state = .sealed

theorem Restakes.booksExact {i : Fin 8} {s t : State} (h : Restakes i s t) (hs : BooksExact s) : BooksExact t := by
  rw [booksExact_iff] at hs ⊢
  obtain ⟨hledger, hroles, hlocks⟩ := hs
  refine ⟨fun a => ⟨?_, ?_, h.used a⟩, fun j => ?_, fun c => ⟨?_, h.isSealed c⟩⟩
  · have hsum := total_change (f := fun j => (s.session j).holdAgainst a) (g := fun j => (t.session j).holdAgainst a) i
      fun j hj => by rw [h.others j hj]
    have hmoved := h.held a
    have hheld := (hledger a).1
    omega
  · have hsum := total_change (f := fun j => ((s.session j).names a).toNat) (g := fun j => ((t.session j).names a).toNat) i
      fun j hj => by rw [h.others j hj]
    have hmoved := h.count a
    have hcount := (hledger a).2.1
    omega
  · by_cases hj : j = i
    · exact hj ▸ h.roles
    · exact h.others j hj ▸ hroles j
  · have hsum := total_change (f := fun j => ((s.session j).boundTo c).toNat) (g := fun j => ((t.session j).boundTo c).toNat) i
      fun j hj => by rw [h.others j hj]
    have hmoved := h.locks c
    have hlock := (hlocks c).1
    omega

/-! ### What exact books say -/

section
variable {s : State} (hs : BooksExact s)
include hs

theorem BooksExact.roles (i : Fin 8) : (s.session i).RolesSound := (booksExact_iff.1 hs).2.1 i

theorem BooksExact.hold_le (i : Fin 8) (a : Fin 16) : (s.session i).holdAgainst a ≤ (s.account a).held :=
  ((booksExact_iff.1 hs).1 a).1 ▸ le_total (fun i => (s.session i).holdAgainst a) i

theorem BooksExact.names_le (i : Fin 8) (a : Fin 16) : ((s.session i).names a).toNat ≤ (s.account a).sessionCount :=
  ((booksExact_iff.1 hs).1 a).2.1 ▸ le_total (fun i => ((s.session i).names a).toNat) i

theorem BooksExact.bound_le (i : Fin 8) (c : Fin 4) : ((s.session i).boundTo c).toNat ≤ (s.chain c).lockCount :=
  ((booksExact_iff.1 hs).2.2 c).1 ▸ le_total (fun i => ((s.session i).boundTo c).toNat) i

theorem BooksExact.used (a : Fin 16) (h : 0 < (s.account a).sessionCount) : (s.account a).state ≠ .free :=
  ((booksExact_iff.1 hs).1 a).2.2 h

theorem BooksExact.isSealed (c : Fin 4) (h : 0 < (s.chain c).lockCount) : (s.chain c).state = .sealed :=
  ((booksExact_iff.1 hs).2.2 c).2 h

/-- A chain that is not SEALED is not locked. -/
theorem BooksExact.unlocked {c : Fin 4} (h : (s.chain c).state ≠ .sealed) : (s.chain c).lockCount = 0 :=
  Nat.eq_zero_of_not_pos fun hpos => h (hs.isSealed c hpos)

/-- No hold is kept against an account that no session names. -/
theorem BooksExact.held_zero {a : Fin 16} (h : (s.account a).sessionCount = 0) : (s.account a).held = 0 := by
  rw [((booksExact_iff.1 hs).1 a).1, total_eq_sum, Finset.sum_eq_zero_iff]
  intro i _
  have hnone : ((s.session i).names a).toNat = 0 := Nat.le_zero.1 (h ▸ hs.names_le i a)
  have hunnamed : (s.session i).names a = false := by simpa using hnone
  unfold Session.holdAgainst
  split
  · rfl
  · next hstanding =>
    simp only [Session.names, Bool.and_eq_false_iff, bne_eq_false_iff_eq, Bool.or_eq_false_iff, beq_eq_false_iff_ne] at hunnamed
    obtain hfree | ⟨hcharge, hheat⟩ := hunnamed
    · exact absurd (.inl hfree) hstanding
    · rw [if_neg hcharge, if_neg hheat, Nat.add_zero]

theorem BooksExact.free_account {a : Fin 16} (h : (s.account a).state = .free) :
    (s.account a).held = 0 ∧ (s.account a).sessionCount = 0 := by
  have hcount : (s.account a).sessionCount = 0 := Nat.eq_zero_of_not_pos fun hpos => hs.used a hpos h
  exact ⟨hs.held_zero hcount, hcount⟩

end

/-! ### A session voided, closed, authorized, released -/

theorem unlockChain_chain (k c : Fin 4) (s : State) : (unlockChain k s).chain c =
    if k = c then { s.chain c with lockCount := (s.chain c).lockCount - 1 } else s.chain c := by
  rw [unlockChain, State.setChain_at]
  split
  · next h => rw [h]
  · rfl

theorem lockChain_chain (k c : Fin 4) (s : State) : (lockChain k s).chain c =
    if k = c then { s.chain c with lockCount := (s.chain c).lockCount + 1 } else s.chain c := by
  rw [lockChain, State.setChain_at]
  split
  · next h => rw [h]
  · rfl

theorem chain_of_tariff {s t : State} (h : t.tariff = s.tariff) (c : Fin 4) : t.chain c = s.chain c := by
  simp only [State.chain, h]

theorem atBoth_tariff (c : Fin 16) (heat : Option (Fin 16)) (f g : Account → Account) (s : State) :
    (atBoth c heat f g s).tariff = s.tariff := by rw [atBoth_eq]; rfl

theorem voidSession_account (i : Fin 8) (s : State) (a : Fin 16) :
    (voidSession i s).account a = (releasedBoth (s.session i) s).account a := by rw [voidSession_eq]; rfl

theorem voidSession_chain (i : Fin 8) (s : State) (c : Fin 4) :
    (voidSession i s).chain c = (unlockChain (s.session i).chain s).chain c := by
  have hsame : (releasedBoth (s.session i) s).chain c = s.chain c := chain_of_tariff (atBoth_tariff _ _ _ _ s) c
  rw [voidSession_eq, unlockChain_chain, ← hsame, ← unlockChain_chain]
  rfl

theorem closeRecord_account (reason : CloseReason) (i : Fin 8) (s : State) (a : Fin 16) :
    (closeRecord reason i s).account a = (settledBoth (s.session i) s).account a := by rw [closeRecord_eq]; rfl

theorem closeRecord_chain (reason : CloseReason) (i : Fin 8) (s : State) (c : Fin 4) :
    (closeRecord reason i s).chain c = (unlockChain (s.session i).chain s).chain c := by
  have hsame : (settledBoth (s.session i) s).chain c = s.chain c := chain_of_tariff (atBoth_tariff _ _ _ _ s) c
  rw [closeRecord_eq, unlockChain_chain, ← hsame, ← unlockChain_chain]
  rfl

theorem releaseSession_account (i : Fin 8) (s : State) (a : Fin 16) :
    (releaseSession i s).account a = (loweredBoth (s.session i) s).account a := by rw [releaseSession_eq]; rfl

theorem releaseSession_chain (i : Fin 8) (s : State) (c : Fin 4) : (releaseSession i s).chain c = s.chain c :=
  chain_of_tariff (by simp) c

theorem fillSlot_account (i : Fin 8) (z : Authorization) (s : State) (a : Fin 16) :
    (fillSlot i z s).account a = (takeHolds z s).account a := by
  show (takeHolds z (s.setSession i _)).account a = _
  rw [takeHolds_eq, takeHolds_eq, atBoth_setSession]
  rfl

theorem fillSlot_chain (i : Fin 8) (z : Authorization) (s : State) (c : Fin 4) :
    (fillSlot i z s).chain c = (lockChain z.chain s).chain c := by
  have hsame : (takeHolds z (s.setSession i (authorizedRecord z s))).chain c = s.chain c := by
    rw [takeHolds_eq]
    exact chain_of_tariff (atBoth_tariff _ _ _ _ _) c
  rw [lockChain_chain, ← hsame, ← lockChain_chain]
  rfl

/-! ### Their stakes -/

theorem Session.holdAgainst_of_standing {r : Session} (hfree : r.state ≠ .free) (hclosed : r.state ≠ .closed)
    (a : Fin 16) : r.holdAgainst a =
      (if r.chargeAccount = a then r.chargeHold else 0) + (if r.heatAccount = some a then r.heatHold.getD 0 else 0) :=
  if_neg (not_or.2 ⟨hfree, hclosed⟩)

theorem Session.holdAgainst_of_closed {r : Session} (h : r.state = .closed) (a : Fin 16) : r.holdAgainst a = 0 :=
  if_pos (.inr h)

theorem Session.names_of_used {r : Session} (h : r.state ≠ .free) (a : Fin 16) :
    (r.names a).toNat = if r.chargeAccount = a then 1 else if r.heatAccount = some a then 1 else 0 := by
  simp only [Session.names, bne_iff_ne.2 h, Bool.true_and]
  by_cases hcharge : r.chargeAccount = a <;> by_cases hheat : r.heatAccount = some a <;> simp [hcharge, hheat]

theorem Session.bound_of_bound {r : Session} (h : r.state = .authorized ∨ r.state.accrues = true) (c : Fin 4) :
    (r.boundTo c).toNat = if r.chain = c then 1 else 0 := by
  have hbound : (r.state == .authorized || r.state.accrues) = true := by simpa using h
  simp only [Session.boundTo, hbound, Bool.true_and]
  by_cases hc : r.chain = c <;> simp [hc]

theorem Session.bound_of_not {r : Session} (hauthorized : r.state ≠ .authorized) (haccrues : r.state.accrues = false)
    (c : Fin 4) : (r.boundTo c).toNat = 0 := by simp [Session.boundTo, hauthorized, haccrues]

theorem free_holdAgainst (a : Fin 16) : Session.free.holdAgainst a = 0 := rfl
theorem free_names (a : Fin 16) : (Session.free.names a).toNat = 0 := rfl
theorem free_bound (c : Fin 4) : (Session.free.boundTo c).toNat = 0 := rfl
theorem free_roles : Session.free.RolesSound := ⟨nofun, rfl⟩

theorem SessionState.ne_of_accrues {a b : SessionState} (h : a.accrues = true) (hb : b.accrues = false) : a ≠ b := by
  rintro rfl
  exact Bool.noConfusion (h.symm.trans hb)

/-- A chain that loses the lock of a session bound to it. -/
theorem unlock_restakes {s : State} (hs : BooksExact s) {i : Fin 8}
    (hbound : (s.session i).state = .authorized ∨ (s.session i).state.accrues = true) (c : Fin 4) :
    ((unlockChain (s.session i).chain s).chain c).lockCount + ((s.session i).boundTo c).toNat = (s.chain c).lockCount ∧
    (0 < ((unlockChain (s.session i).chain s).chain c).lockCount →
      ((unlockChain (s.session i).chain s).chain c).state = .sealed) := by
  have hle := hs.bound_le i c
  have hsealed := hs.isSealed c
  rw [Session.bound_of_bound hbound] at hle ⊢
  rw [unlockChain_chain]
  split_ifs at hle ⊢ with hc
  · exact ⟨Nat.sub_add_cancel hle, fun hpos => hsealed (Nat.lt_of_lt_of_le hpos (Nat.sub_le _ _))⟩
  · exact ⟨rfl, hsealed⟩

theorem voidSession_restakes {s : State} {i : Fin 8} (hs : BooksExact s) (hwaits : (s.session i).state = .authorized) :
    Restakes i s (voidSession i s) := by
  have hused : (s.session i).state ≠ .free := hwaits ▸ SessionState.noConfusion
  have hsession : (voidSession i s).session i = .free := by rw [voidSession_session, if_pos rfl]
  have haccount (a : Fin 16) := (voidSession_account i s a).trans (atBoth_account (hs.roles i).1 _ _ s a)
  refine ⟨fun j hj => ?_, hsession ▸ free_roles, fun a => ?_, fun a => ?_, fun a => ?_, fun c => ?_, fun c => ?_⟩
  · rw [voidSession_session, if_neg (Ne.symm hj)]
  · have hle := hs.hold_le i a
    rw [Session.holdAgainst_of_standing hused (hwaits ▸ SessionState.noConfusion)] at hle ⊢
    rw [hsession, free_holdAgainst, haccount]
    split_ifs at hle ⊢ with hcharge hheat
    · exact absurd (hheat.trans (congrArg some hcharge.symm)) (hs.roles i).1
    all_goals (dsimp only <;> omega)
  · have hle := hs.names_le i a
    rw [Session.names_of_used hused] at hle ⊢
    rw [hsession, free_names, haccount]
    split_ifs at hle ⊢
    all_goals (dsimp only <;> omega)
  · have hstands := hs.used a
    rw [haccount]
    split_ifs
    · exact fun hpos => hstands (Nat.lt_of_lt_of_le hpos (Nat.sub_le _ _))
    · exact fun hpos => hstands (Nat.lt_of_lt_of_le hpos (Nat.sub_le _ _))
    · exact hstands
  · rw [voidSession_chain, hsession, free_bound, Nat.add_zero]
    exact (unlock_restakes hs (.inl hwaits) c).1
  · rw [voidSession_chain]
    exact (unlock_restakes hs (.inl hwaits) c).2

theorem closeRecord_restakes {s : State} {i : Fin 8} (reason : CloseReason) (hs : BooksExact s)
    (haccrues : (s.session i).state.accrues = true) : Restakes i s (closeRecord reason i s) := by
  have hused : (s.session i).state ≠ .free := SessionState.ne_of_accrues haccrues rfl
  have hsession : (closeRecord reason i s).session i = (s.session i).closedRecord reason s := by
    rw [closeRecord_session, if_pos rfl]
  have hroles := hs.roles i
  have haccount (a : Fin 16) := (closeRecord_account reason i s a).trans (atBoth_account hroles.1 _ _ s a)
  refine ⟨fun j hj => ?_, ?_, fun a => ?_, fun a => ?_, fun a => ?_, fun c => ?_, fun c => ?_⟩
  · rw [closeRecord_session, if_neg (Ne.symm hj)]
  · rw [hsession]
    exact ⟨hroles.1, (Option.isSome_map ..).trans hroles.2⟩
  · have hle := hs.hold_le i a
    rw [Session.holdAgainst_of_standing hused (SessionState.ne_of_accrues haccrues rfl)] at hle ⊢
    rw [hsession, Session.holdAgainst_of_closed rfl, haccount]
    split_ifs at hle ⊢ with hcharge hheat
    · exact absurd (hheat.trans (congrArg some hcharge.symm)) hroles.1
    all_goals (dsimp only <;> omega)
  · have hnames : (((s.session i).closedRecord reason s).names a).toNat = ((s.session i).names a).toNat := by
      rw [Session.names_of_used hused, Session.names_of_used (r := (s.session i).closedRecord reason s) SessionState.noConfusion]
      rfl
    rw [hsession, hnames, haccount]
    split_ifs <;> rfl
  · have hstands := hs.used a
    rw [haccount]
    split_ifs <;> exact hstands
  · rw [closeRecord_chain, hsession, Session.bound_of_not (r := (s.session i).closedRecord reason s) SessionState.noConfusion rfl]
    exact (unlock_restakes hs (.inr haccrues) c).1
  · rw [closeRecord_chain]
    exact (unlock_restakes hs (.inr haccrues) c).2

theorem releaseSession_restakes {s : State} {i : Fin 8} (hs : BooksExact s) (hclosed : (s.session i).state = .closed) :
    Restakes i s (releaseSession i s) := by
  have hused : (s.session i).state ≠ .free := hclosed ▸ SessionState.noConfusion
  have hsession : (releaseSession i s).session i = .free := by rw [releaseSession_session, if_pos rfl]
  have haccount (a : Fin 16) := (releaseSession_account i s a).trans (atBoth_account (hs.roles i).1 _ _ s a)
  refine ⟨fun j hj => ?_, hsession ▸ free_roles, fun a => ?_, fun a => ?_, fun a => ?_, fun c => ?_, fun c => ?_⟩
  · rw [releaseSession_session, if_neg (Ne.symm hj)]
  · rw [hsession, free_holdAgainst, Session.holdAgainst_of_closed hclosed, haccount]
    split_ifs <;> rfl
  · have hle := hs.names_le i a
    rw [Session.names_of_used hused] at hle ⊢
    rw [hsession, free_names, haccount]
    split_ifs at hle ⊢
    all_goals (dsimp only <;> omega)
  · have hstands := hs.used a
    rw [haccount]
    split_ifs
    · exact fun hpos => hstands (Nat.lt_of_lt_of_le hpos (Nat.sub_le _ _))
    · exact fun hpos => hstands (Nat.lt_of_lt_of_le hpos (Nat.sub_le _ _))
    · exact hstands
  · rw [releaseSession_chain, hsession, free_bound, Session.bound_of_not (hclosed ▸ SessionState.noConfusion) (hclosed ▸ rfl)]
  · rw [releaseSession_chain]
    exact hs.isSealed c

/-- The two accounts of a request's fields differ (R6). -/
theorem authorization?_differ {charge : Byte} {heat : Option Byte} {chain : Byte} {target : Option (BitVec 32)}
    {z : Authorization} (h : authorization? charge heat chain target = some z) : z.heat ≠ some z.charge := by
  unfold authorization? at h
  split at h
  · split at h
    · simp at h
    · next hne => obtain rfl := Option.some.inj h; exact hne
  · simp at h

theorem authorizedRecord_holdAgainst (z : Authorization) (s : State) (a : Fin 16) :
    (authorizedRecord z s).holdAgainst a = (if z.charge = a then (s.account z.charge).holdStep else 0) +
      (if z.heat = some a then (z.heat.map fun h => (s.account h).holdStep).getD 0 else 0) :=
  Session.holdAgainst_of_standing (r := authorizedRecord z s) SessionState.noConfusion SessionState.noConfusion a

theorem authorizedRecord_names (z : Authorization) (s : State) (a : Fin 16) :
    ((authorizedRecord z s).names a).toNat = if z.charge = a then 1 else if z.heat = some a then 1 else 0 :=
  Session.names_of_used (r := authorizedRecord z s) SessionState.noConfusion a

theorem authorizedRecord_bound (z : Authorization) (s : State) (c : Fin 4) :
    ((authorizedRecord z s).boundTo c).toNat = if z.chain = c then 1 else 0 :=
  Session.bound_of_bound (r := authorizedRecord z s) (.inl rfl) c

theorem fillSlot_restakes {s : State} {i : Fin 8} {z : Authorization} (hs : BooksExact s)
    (hdiffer : z.heat ≠ some z.charge) (hchecks : authorizeChecks z s = .ok i) : Restakes i s (fillSlot i z s) := by
  obtain ⟨-, hsealed, hcharge, hheat, hslot, -⟩ := authorizeChecks_ok hchecks
  have hfree := freeSlot_some hslot
  have hsession : (fillSlot i z s).session i = authorizedRecord z s := by rw [fillSlot_session, if_pos rfl]
  have haccount (a : Fin 16) := (fillSlot_account i z s a).trans
    ((congrArg (State.account · a) (takeHolds_eq z s)).trans (atBoth_account hdiffer _ _ s a))
  refine ⟨fun j hj => ?_, ?_, fun a => ?_, fun a => ?_, fun a => ?_, fun c => ?_, fun c => ?_⟩
  · rw [fillSlot_session, if_neg (Ne.symm hj)]
  · rw [hsession]
    exact ⟨hdiffer, Option.isSome_map ..⟩
  · rw [hsession, authorizedRecord_holdAgainst, show (s.session i).holdAgainst a = 0 from if_pos (.inl hfree), haccount]
    split_ifs with hc hh hh
    · exact absurd (hh.trans (congrArg some hc.symm)) hdiffer
    · simp [hc]
    · simp [hh]
    · rfl
  · rw [hsession, authorizedRecord_names, show ((s.session i).names a).toNat = 0 by simp [Session.names, hfree], haccount]
    split_ifs <;> rfl
  · have hstands := hs.used a
    rw [haccount]
    split_ifs with hc hh
    · exact fun _ => by subst hc; simp [hcharge]
    · exact fun _ => by simp [hheat a hh]
    · exact hstands
  · rw [fillSlot_chain, hsession, authorizedRecord_bound,
      Session.bound_of_not (hfree ▸ SessionState.noConfusion) (hfree ▸ rfl), lockChain_chain]
    split_ifs <;> rfl
  · rw [fillSlot_chain, lockChain_chain]
    split_ifs with hc
    · exact fun _ => hc ▸ hsealed
    · exact hs.isSealed c

end Sys2Proof.Machine
end

section
/-! Every step keeps the books exact and the calendar sound (R3, R28, R52, R54): the moves, the requests that make and
end records, the minute event. -/

namespace Sys2Proof.Machine

/-! ### The shared operations -/

theorem setSession_sameStakes {s : State} {i : Fin 8} {r : Session} (h : SameStakes (s.session i) r) (j : Fin 8) :
    SameStakes (s.session j) ((s.setSession i r).session j) := by
  rw [State.setSession_at]
  split
  · next hij => exact hij ▸ h
  · exact .refl _

/-- Accounts and chains stand while one record keeps its stake. -/
theorem BooksExact.setSession {s : State} {i : Fin 8} {r : Session} (hs : BooksExact s)
    (h : SameStakes (s.session i) r) : BooksExact (s.setSession i r) :=
  hs.of_stakes (setSession_sameStakes h) (fun _ => ⟨rfl, rfl, .inr⟩) (fun _ => ⟨rfl, fun h _ => h⟩)

/-- A write to an account that keeps held amount and session count, and frees it only without sessions. -/
theorem BooksExact.setAccount {s : State} {a : Fin 16} {r : Account} (hs : BooksExact s)
    (hheld : r.held = (s.account a).held) (hcount : r.sessionCount = (s.account a).sessionCount)
    (hfree : r.state = .free → r.sessionCount = 0 ∨ (s.account a).state = .free) : BooksExact (s.setAccount a r) := by
  refine hs.of_stakes (fun i => .refl _) (fun b => ?_) (fun _ => ⟨rfl, fun h _ => h⟩)
  rw [State.setAccount_at]
  split
  · next hab => subst hab; exact ⟨hheld, hcount, hfree⟩
  · exact ⟨rfl, rfl, .inr⟩

/-- A write to a chain that keeps its lock count and leaves a locked one SEALED. -/
theorem BooksExact.setChain {s : State} {c : Fin 4} {r : Chain} (hs : BooksExact s)
    (hlocks : r.lockCount = (s.chain c).lockCount)
    (hsealed : (s.chain c).lockCount ≠ 0 → r.state = .sealed) : BooksExact (s.setChain c r) := by
  refine hs.of_stakes (fun i => .refl _) (fun _ => ⟨rfl, rfl, .inr⟩) (fun b => ?_)
  rw [State.setChain_at]
  split
  · next hcb => subst hcb; exact ⟨hlocks, fun _ => hsealed⟩
  · exact ⟨rfl, fun h _ => h⟩

/-- Sessions, accounts and chains are the same. -/
theorem BooksExact.of_same {s t : State} (hs : BooksExact s) (hsessions : t.sessions = s.sessions)
    (haccounts : t.accounts = s.accounts) (hchains : t.tariff.chains = s.tariff.chains) : BooksExact t := by
  simpa only [BooksExact, LedgerExact, LocksExact, State.session, State.account, State.chain, hsessions, haccounts,
    hchains] using hs

/-- A record with its heat hold raised keeps its roles. -/
theorem Session.raiseHold_roles {r : Session} (role : HoldRole) (grant : Nat) (h : r.RolesSound) :
    (r.raiseHold role grant).RolesSound := by
  cases role with
  | charge => exact h
  | heat => exact ⟨h.1, (Option.isSome_map ..).trans h.2⟩

/-- A raised hold raises the stake in its account alone. -/
theorem Session.raiseHold_holdAgainst {r : Session} {role : HoldRole} {a : Fin 16} (grant : Nat)
    (hroles : r.RolesSound) (haccrues : r.state.accrues = true) (haccount : r.accountOf role = some a) (b : Fin 16) :
    (r.raiseHold role grant).holdAgainst b = r.holdAgainst b + if a = b then grant else 0 := by
  have hfree : r.state ≠ .free := SessionState.ne_of_accrues haccrues rfl
  have hclosed : r.state ≠ .closed := SessionState.ne_of_accrues haccrues rfl
  rw [Session.holdAgainst_of_standing hfree hclosed]
  cases role with
  | charge =>
    obtain rfl := Option.some.inj haccount
    have hraised : (r.raiseHold .charge grant).holdAgainst b = (if r.chargeAccount = b then r.chargeHold + grant else 0) +
        (if r.heatAccount = some b then r.heatHold.getD 0 else 0) :=
      Session.holdAgainst_of_standing (r := r.raiseHold .charge grant) hfree hclosed b
    rw [hraised]
    split_ifs <;> omega
  | heat =>
    have hheat : r.heatAccount = some a := haccount
    obtain ⟨hold, hhold⟩ := Option.isSome_iff_exists.1 (hroles.2.trans (by rw [hheat]; rfl))
    have hraised : (r.raiseHold .heat grant).holdAgainst b = (if r.chargeAccount = b then r.chargeHold else 0) +
        (if r.heatAccount = some b then (r.heatHold.map (· + grant)).getD 0 else 0) :=
      Session.holdAgainst_of_standing (r := r.raiseHold .heat grant) hfree hclosed b
    rw [hraised, hheat, hhold]
    simp only [Option.map_some, Option.getD_some, Option.some.injEq]
    split_ifs <;> omega

theorem Session.raiseHold_sameRoles (r : Session) (role : HoldRole) (grant : Nat) :
    (r.raiseHold role grant).chargeAccount = r.chargeAccount ∧ (r.raiseHold role grant).heatAccount = r.heatAccount ∧
    (r.raiseHold role grant).chain = r.chain := by cases role <;> exact ⟨rfl, rfl, rfl⟩

theorem topUp_booksExact {s : State} {i : Fin 8} {role : HoldRole} {a : Fin 16} (grant : Nat) (hs : BooksExact s)
    (haccrues : (s.session i).state.accrues = true) (haccount : (s.session i).accountOf role = some a) :
    BooksExact ((s.setAccount a { s.account a with held := (s.account a).held + grant }).setSession i
      ((s.session i).raiseHold role grant)) := by
  obtain ⟨hcharge, hheat, hchain⟩ := Session.raiseHold_sameRoles (s.session i) role grant
  have hstate := Session.raiseHold_state (s.session i) role grant
  refine Restakes.booksExact (i := i) ⟨fun j hj => ?_, ?_, fun b => ?_, fun b => ?_, fun b => ?_, fun c => ?_, hs.isSealed⟩ hs
  · rw [State.setSession_other _ _ _ _ (Ne.symm hj), State.setAccount_session]
  · rw [State.setSession_same]
    exact Session.raiseHold_roles role grant (hs.roles i)
  · rw [State.setSession_same, Session.raiseHold_holdAgainst grant (hs.roles i) haccrues haccount]
    show ((s.setAccount a _).account b).held + _ = _
    rw [State.setAccount_at]
    split_ifs with hab
    · subst hab; dsimp only; omega
    · rfl
  · rw [State.setSession_same, show ((s.session i).raiseHold role grant).names b = (s.session i).names b by
      simp only [Session.names, hcharge, hheat, hstate]]
    show ((s.setAccount a _).account b).sessionCount + _ = _
    rw [State.setAccount_at]
    split_ifs with hab
    · subst hab; rfl
    · rfl
  · have hused := hs.used b
    show 0 < ((s.setAccount a _).account b).sessionCount → ((s.setAccount a _).account b).state ≠ .free
    rw [State.setAccount_at]
    split_ifs with hab
    · subst hab; exact hused
    · exact hused
  · rw [State.setSession_same, show ((s.session i).raiseHold role grant).boundTo c = (s.session i).boundTo c by
      simp only [Session.boundTo, hchain, hstate]]
    rfl

theorem Acts.booksExact {s t : State} (h : Acts s t) (hs : BooksExact s) : BooksExact t := by
  obtain ⟨h, -⟩ := h
  induction h with
  | same hsame => obtain ⟨_, _, _, _, _, _, _, rfl⟩ := hsame; exact hs
  | trans _ _ ih ih' => exact ih' (ih hs)
  | planner | heating | isolation | localizer => exact hs
  | reasons p => exact hs.setSession (.of_eq (Session.withReasons_phase _ p).stands rfl rfl rfl rfl rfl)
  | complete hstate =>
    refine hs.setSession (.of_eq (SessionState.SamePhase.stands (.inr ⟨?_, rfl⟩)) rfl rfl rfl rfl rfl)
    obtain h | h := hstate <;> rw [h] <;> rfl
  | retarget t hlive =>
    refine hs.setSession (.of_eq (SessionState.SamePhase.stands (.inr ⟨hlive, ?_⟩)) rfl rfl rfl rfl rfl)
    exact Session.judgedState_isLive _
  | edits hedit =>
    exact hs.of_stakes (fun i => (hedit i).sameStakes) (fun _ => ⟨rfl, rfl, .inr⟩) (fun _ => ⟨rfl, fun h _ => h⟩)
  | accrued => exact hs.setSession (.of_eq (SessionState.SamePhase.stands (.inl rfl)) rfl rfl rfl rfl rfl)
  | frozen s i => exact hs.setSession (.of_eq (SessionState.SamePhase.stands (.inl rfl)) rfl rfl rfl rfl rfl)
  | topUp grant haccrues haccount => exact topUp_booksExact grant hs haccrues haccount
  | account hheld hcount hfree => exact hs.setAccount hheld hcount fun h => .inr (hfree.1 h)

theorem Session.gone_sameStakes {r : Session} (s : State) (hwaits : r.state = .authorized) : SameStakes r (r.gone s) := by
  have hlive := Session.gone_isLive s r
  refine .of_eq ⟨?_, ?_, ?_⟩ rfl rfl rfl rfl rfl
  · exact iff_of_false (SessionState.ne_of_accrues (SessionState.accrues_of_isLive hlive) rfl) (hwaits ▸ SessionState.noConfusion)
  · exact iff_of_false (SessionState.ne_of_accrues (SessionState.accrues_of_isLive hlive) rfl) (hwaits ▸ SessionState.noConfusion)
  · rw [SessionState.accrues_of_isLive hlive, Bool.or_true, hwaits]
    rfl

theorem goLive_booksExact {s : State} (hqueue : QueueExact s) (hs : BooksExact s) : BooksExact (goLive s) := by
  cases hhead : s.sessions.queue with
  | nil => rwa [goLive_empty hhead]
  | cons i rest =>
    have hwaits : (s.session i).state = .authorized := (hqueue.2 i).1 (hhead ▸ List.mem_cons_self)
    have haccount (a : Fin 16) : (goLive s).account a = s.account a := by simp [State.account]
    have hchain (c : Fin 4) : (goLive s).chain c = s.chain c := chain_of_tariff (by simp) c
    refine hs.of_stakes (fun j => ?_) (fun a => ?_) fun c => ?_
    · rw [goLive_session hhead]
      split
      · next hij => exact hij ▸ Session.gone_sameStakes s hwaits
      · exact .refl _
    · rw [haccount]; exact ⟨rfl, rfl, .inr⟩
    · rw [hchain]; exact ⟨rfl, fun h _ => h⟩

theorem stop_sameStakes {r : Session} (p : Port) (hlive : r.state.isLive = true) : SameStakes r { r with
    state := .closing, reasons := .empty, closeReason := some (stopReason p) } := by
  have haccrues := SessionState.accrues_of_isLive hlive
  refine .of_eq ⟨?_, ?_, ?_⟩ rfl rfl rfl rfl rfl
  · exact iff_of_false SessionState.noConfusion (SessionState.ne_of_accrues haccrues rfl)
  · exact iff_of_false SessionState.noConfusion (SessionState.ne_of_accrues haccrues rfl)
  · rw [haccrues, Bool.or_true]
    rfl

/-! ### The calendar -/

/-- Two states with the same calendar, lifetime and serial counter, and with the minute timer running alike. -/
def SameClock (s t : State) : Prop :=
  t.tariff.calendar = s.tariff.calendar ∧ t.tariff.minuteTimer.isSome = s.tariff.minuteTimer.isSome ∧
  t.tariff.lifetime = s.tariff.lifetime ∧ t.sessions.nextSerial = s.sessions.nextSerial

theorem CalendarSound.of_clock {s t : State} (hs : CalendarSound s) (h : SameClock s t)
    (hfree : ∀ i, (s.session i).state = .free → (t.session i).state = .free) : CalendarSound t := by
  obtain ⟨htimer, hunset, hrange, hlifetime, hserial, hserial'⟩ := hs
  obtain ⟨hcalendar, hruns, hlife, hnext⟩ := h
  refine ⟨?_, fun hnone i => hfree i (hunset (hcalendar ▸ hnone) i), hcalendar ▸ hrange, hlife ▸ hlifetime, ?_⟩
  · rw [hcalendar, htimer, ← Option.not_isSome_iff_eq_none, ← Option.not_isSome_iff_eq_none, hruns]
  · rw [hnext]; exact ⟨hserial, hserial'⟩

theorem SameClock.of_eq {s t : State} (htariff : t.tariff = s.tariff)
    (hserial : t.sessions.nextSerial = s.sessions.nextSerial) : SameClock s t := by
  rw [SameClock, htariff]
  exact ⟨rfl, rfl, rfl, hserial⟩

theorem Acts.tariff_eq {s t : State} (h : Acts s t) : t.tariff = s.tariff := by
  obtain ⟨h, -⟩ := h
  induction h with
  | same hsame => obtain ⟨_, _, _, _, _, _, _, rfl⟩ := hsame; rfl
  | trans _ _ ih ih' => exact ih'.trans ih
  | _ => rfl

theorem Acts.calendarSound {s t : State} (h : Acts s t) (hs : CalendarSound s) : CalendarSound t :=
  hs.of_clock (.of_eq h.tariff_eq h.queue_eq.2) fun i => ((h.phase i).eq_iff rfl).2

theorem goLive_nextSerial (s : State) : (goLive s).sessions.nextSerial = s.sessions.nextSerial := by
  unfold goLive
  split <;> rfl

theorem goLive_calendarSound {s : State} (hqueue : QueueExact s) (hs : CalendarSound s) : CalendarSound (goLive s) := by
  refine hs.of_clock (.of_eq (by simp) (goLive_nextSerial s)) fun j hfree => ?_
  cases hhead : s.sessions.queue with
  | nil => rwa [goLive_empty hhead]
  | cons i rest =>
    have hwaits : (s.session i).state = .authorized := (hqueue.2 i).1 (hhead ▸ List.mem_cons_self)
    rw [goLive_session hhead, if_neg]
    · exact hfree
    · rintro rfl
      exact SessionState.noConfusion (hwaits.symm.trans hfree)

theorem closeRecord_clock (reason : CloseReason) (i : Fin 8) (s : State) : SameClock s (closeRecord reason i s) := by
  rw [closeRecord_eq, settledBoth, atBoth_eq]
  exact ⟨rfl, rfl, rfl, rfl⟩

theorem voidSession_clock (i : Fin 8) (s : State) : SameClock s (voidSession i s) := by
  rw [voidSession_eq, releasedBoth, atBoth_eq]
  exact ⟨rfl, rfl, rfl, rfl⟩

/-! ### Queue, books and calendar together -/

/-- What a step keeps of sessions, accounts and tariff. -/
def DeskSound (s : State) : Prop := QueueExact s ∧ BooksExact s ∧ CalendarSound s

theorem Acts.deskSound {s t : State} (h : Acts s t) (hs : DeskSound s) : DeskSound t :=
  ⟨h.queueExact hs.1, h.booksExact hs.2.1, h.calendarSound hs.2.2⟩

theorem goLive_deskSound {s : State} (hs : DeskSound s) : DeskSound (goLive s) :=
  ⟨goLive_queueExact hs.1, goLive_booksExact hs.1 hs.2.1, goLive_calendarSound hs.1 hs.2.2⟩

theorem Handles.deskSound {s t : State} (h : Handles s t) (hs : DeskSound s) : DeskSound t := by
  induction h with
  | acts hacts => exact hacts.deskSound hs
  | trans _ _ ih ih' => exact ih' (ih hs)
  | goLive s => exact goLive_deskSound hs
  | @stop s i p hlive =>
    obtain ⟨hqueue, hbooks, hcalendar⟩ := hs
    refine ⟨(Handles.stop p hlive).queueExact hqueue, hbooks.setSession (stop_sameStakes p hlive),
      hcalendar.of_clock (.of_eq rfl rfl) fun j hfree => ?_⟩
    rw [State.setSession_other _ _ _ _ (show i ≠ j by
      rintro rfl; exact SessionState.ne_of_accrues (SessionState.accrues_of_isLive hlive) rfl hfree)]
    exact hfree
  | @close s i reason haccrues =>
    obtain ⟨hqueue, hbooks, hcalendar⟩ := hs
    refine ⟨(Handles.close reason haccrues).queueExact hqueue, (closeRecord_restakes reason hbooks haccrues).booksExact hbooks,
      hcalendar.of_clock (closeRecord_clock reason i s) fun j hfree => ?_⟩
    rw [closeRecord_session, if_neg (show i ≠ j by
      rintro rfl; exact SessionState.ne_of_accrues haccrues rfl hfree)]
    exact hfree

theorem Voids.deskSound {s t : State} (h : Voids s t) (hs : DeskSound s) : DeskSound t := by
  induction h with
  | acts hacts => exact hacts.deskSound hs
  | trans _ _ ih ih' => exact ih' (ih hs)
  | @void s i hwaits =>
    obtain ⟨hqueue, hbooks, hcalendar⟩ := hs
    refine ⟨(Voids.void hwaits).queueExact hqueue, (voidSession_restakes hbooks hwaits).booksExact hbooks,
      hcalendar.of_clock (voidSession_clock i s) fun j hfree => ?_⟩
    rw [voidSession_session]
    split
    · rfl
    · exact hfree

theorem SameBooks.deskSound {s t : State} (h : SameBooks s t) (hs : DeskSound s) : DeskSound t := by
  obtain ⟨hsessions, haccounts, timer, htimer, htariff⟩ := h
  obtain ⟨hqueue, hbooks, hcalendar⟩ := hs
  refine ⟨hqueue.of_same (by rw [hsessions]) fun j => by rw [session_eq_of_sessions hsessions],
    hbooks.of_same hsessions haccounts (by rw [htariff]), hcalendar.of_clock ⟨?_, ?_, ?_, ?_⟩ fun j hfree => ?_⟩
  · rw [htariff]
  · rw [htariff]; exact htimer
  · rw [htariff]
  · rw [hsessions]
  · rwa [session_eq_of_sessions hsessions]

theorem Deals.deskSound {s t : State} (h : Deals s t) (hs : DeskSound s) : DeskSound t := by
  induction h with
  | handles h => exact h.deskSound hs
  | trans _ _ ih ih' => exact ih' (ih hs)
  | books h => exact h.deskSound hs

/-! ### Requests -/

theorem nextSerial_range (n : Nat) (h : n ≤ 65535) : 1 ≤ nextSerial n ∧ nextSerial n ≤ 65535 := by
  unfold nextSerial
  split <;> omega

theorem fillSlot_clock (i : Fin 8) (z : Authorization) (s : State) :
    (fillSlot i z s).tariff.calendar = s.tariff.calendar ∧ (fillSlot i z s).tariff.minuteTimer = s.tariff.minuteTimer ∧
    (fillSlot i z s).tariff.lifetime = s.tariff.lifetime ∧
    (fillSlot i z s).sessions.nextSerial = nextSerial s.sessions.nextSerial := by
  unfold fillSlot
  dsimp only
  rw [takeHolds_eq, atBoth_eq]
  exact ⟨rfl, rfl, rfl, rfl⟩

theorem fillSlot_deskSound {s : State} {i : Fin 8} {z : Authorization} (hdiffer : z.heat ≠ some z.charge)
    (hchecks : authorizeChecks z s = .ok i) (hs : DeskSound s) : DeskSound (fillSlot i z s) := by
  obtain ⟨hqueue, hbooks, htimer, -, hrange, hlifetime, hserial⟩ := hs
  obtain ⟨hset, -, -, -, hslot, -⟩ := authorizeChecks_ok hchecks
  obtain ⟨hcalendar, hclock, hlife, hnext⟩ := fillSlot_clock i z s
  refine ⟨fillSlot_queueExact z (freeSlot_some hslot) hqueue, (fillSlot_restakes hbooks hdiffer hchecks).booksExact hbooks, ?_⟩
  rw [CalendarSound, hcalendar, hclock, hlife, hnext]
  exact ⟨htimer, fun h => absurd h hset, hrange, hlifetime, nextSerial_range _ hserial.2⟩

theorem requestAuthorize_deskSound (charge : Byte) (heat : Option Byte) (chain : Byte) (target : Option (BitVec 32))
    {s : State} (hs : DeskSound s) : DeskSound (requestAuthorize charge heat chain target s).state := by
  obtain heq | ⟨z, i, hfields, hchecks, heq⟩ := requestAuthorize_state charge heat chain target s
  · exact heq.symm ▸ hs
  · rw [heq]
    exact (liveAtOnce_handles _).deskSound (fillSlot_deskSound (authorization?_differ hfields) hchecks hs)

theorem releaseSession_clock (i : Fin 8) (s : State) : SameClock s (releaseSession i s) := by
  rw [releaseSession_eq, loweredBoth, atBoth_eq]
  exact ⟨rfl, rfl, rfl, rfl⟩

theorem requestRelease_deskSound (p : Port) (slot : Byte) (serial : BitVec 16) {s : State} (hs : DeskSound s) :
    DeskSound (requestRelease p slot serial s).state := by
  obtain heq | ⟨i, hclosed, heq⟩ := requestRelease_state p slot serial s
  · exact heq.symm ▸ hs
  · obtain ⟨hqueue, hbooks, hcalendar⟩ := hs
    rw [heq]
    refine ⟨releaseSession_queueExact hclosed hqueue, (releaseSession_restakes hbooks hclosed).booksExact hbooks,
      hcalendar.of_clock (releaseSession_clock i s) fun j hfree => ?_⟩
    rw [releaseSession_session]
    split
    · rfl
    · exact hfree

/-- A write to accounts or chains alone leaves queue and calendar. -/
theorem DeskSound.of_books {s t : State} (hs : DeskSound s) (hsessions : t.sessions = s.sessions)
    (hclock : t.tariff.calendar = s.tariff.calendar ∧ t.tariff.minuteTimer = s.tariff.minuteTimer ∧
      t.tariff.lifetime = s.tariff.lifetime) (hbooks : BooksExact t) : DeskSound t := by
  obtain ⟨hcalendar, htimer, hlifetime⟩ := hclock
  refine ⟨hs.1.of_same (by rw [hsessions]) fun j => by rw [session_eq_of_sessions hsessions], hbooks,
    hs.2.2.of_clock ⟨hcalendar, by rw [htimer], hlifetime, by rw [hsessions]⟩ fun j hfree => ?_⟩
  rwa [session_eq_of_sessions hsessions]

/-- The record that an OPEN_ACCOUNT gives holds nothing for no session (R31). -/
theorem openedAccount?_some {id : BitVec 32} {kind : Byte} {balance limit holdStep : BitVec 40} {r : Account}
    (h : openedAccount? id kind balance limit holdStep = some r) :
    r.state = .opened ∧ r.held = 0 ∧ r.sessionCount = 0 := by
  unfold openedAccount? at h
  split at h
  · simp at h
  · split at h
    · split at h
      · simp at h
      · obtain rfl := Option.some.inj h; exact ⟨rfl, rfl, rfl⟩
    · simp at h

theorem requestOpenAccount_deskSound (id : BitVec 32) (kind : Byte) (balance limit holdStep : BitVec 40) {s : State}
    (hs : DeskSound s) : DeskSound (requestOpenAccount id kind balance limit holdStep s).state := by
  unfold requestOpenAccount
  split
  · exact hs
  · next r hr =>
    obtain ⟨hopened, hheld, hcount⟩ := openedAccount?_some hr
    split
    · exact hs
    · split
      · exact hs
      · next a hslot =>
        have hfree : (s.account a).state = .free := by simpa using List.find?_some hslot
        obtain ⟨hheld', hcount'⟩ := hs.2.1.free_account hfree
        exact hs.of_books rfl ⟨rfl, rfl, rfl⟩
          (hs.2.1.setAccount (hheld.trans hheld'.symm) (hcount.trans hcount'.symm) fun _ => .inl hcount)

theorem requestCloseAccount_deskSound (index : Byte) (id : BitVec 32) {s : State} (hs : DeskSound s) :
    DeskSound (requestCloseAccount index id s).state := by
  unfold requestCloseAccount onAccount
  split
  · exact hs
  · next a _ =>
    dsimp only
    split
    · next hcount =>
      exact hs.of_books rfl ⟨rfl, rfl, rfl⟩
        (hs.2.1.setAccount (hs.2.1.held_zero hcount).symm hcount.symm fun _ => .inl rfl)
    · exact hs

theorem setBand_booksExact {s : State} (b : Fin 32) (r : Band) (hs : BooksExact s) : BooksExact (s.setBand b r) := hs

/-- A chain that is not SEALED may be rewritten, as long as it stays without lock. -/
theorem setChain_deskSound {s : State} {c : Fin 4} {r : Chain} (hs : DeskSound s)
    (hopen : (s.chain c).state ≠ .sealed ∨ (s.chain c).lockCount = 0) (hlocks : r.lockCount = 0) :
    DeskSound (s.setChain c r) := by
  have hzero : (s.chain c).lockCount = 0 := hopen.elim hs.2.1.unlocked id
  exact hs.of_books rfl ⟨rfl, rfl, rfl⟩ (hs.2.1.setChain (hlocks.trans hzero.symm) fun h => absurd hzero h)

theorem setBand_deskSound {s : State} (b : Fin 32) (r : Band) (hs : DeskSound s) : DeskSound (s.setBand b r) :=
  hs.of_books rfl ⟨rfl, rfl, rfl⟩ (setBand_booksExact b r hs.2.1)

theorem requestWriteBand_deskSound (band chain : Byte) (start chargeRate heatRate occupancyRate : BitVec 16)
    (cap : Option (BitVec 32)) (next : Byte) {s : State} (hs : DeskSound s) :
    DeskSound (requestWriteBand band chain start chargeRate heatRate occupancyRate cap next s).state := by
  unfold requestWriteBand
  split
  · split
    · exact hs
    · next hopen =>
      split
      · exact hs
      · exact setChain_deskSound (setBand_deskSound _ _ hs) (.inl hopen) (hs.2.1.unlocked hopen)
  · exact hs

theorem chainAfterFree_lockCount (c : Chain) (b : Fin 32) (rest : List (Fin 32)) :
    (chainAfterFree c b rest).lockCount = c.lockCount := by
  unfold chainAfterFree
  split <;> rfl

theorem requestFreeBand_deskSound (band : Byte) {s : State} (hs : DeskSound s) :
    DeskSound (requestFreeBand band s).state := by
  unfold requestFreeBand
  split
  · exact hs
  · split
    · exact hs
    · split
      · exact hs
      · next hopen =>
        exact setChain_deskSound (setBand_deskSound _ _ hs) (.inl hopen)
          ((chainAfterFree_lockCount _ _ _).trans (hs.2.1.unlocked hopen))

theorem requestSealChain_deskSound (chain : Byte) (id : BitVec 32) {s : State} (hs : DeskSound s) :
    DeskSound (requestSealChain chain id s).state := by
  unfold requestSealChain
  split
  · split
    · exact hs
    · next hopened =>
      split
      · exact hs
      · refine setChain_deskSound hs (.inl ?_) rfl
        rw [not_not.1 hopened]
        exact ChainState.noConfusion
  · exact hs

theorem requestUnsealChain_deskSound (chain : Byte) (id : BitVec 32) {s : State} (hs : DeskSound s) :
    DeskSound (requestUnsealChain chain id s).state := by
  unfold requestUnsealChain
  split
  · split
    · exact hs
    · split
      · exact hs
      · split
        · exact hs
        · next hunlocked => exact setChain_deskSound hs (.inr (not_not.1 hunlocked)) (not_not.1 hunlocked)
  · exact hs

/-- A new calendar minute with the timer running, the sessions as they were. -/
theorem setClock_deskSound {s : State} {m us : Nat} (hm : m < 10080) (hs : DeskSound s) :
    DeskSound (s.setTariff { s.tariff with calendar := some m, minuteTimer := some us }) := by
  obtain ⟨hqueue, hbooks, -, -, -, hlifetime, hserial⟩ := hs
  refine ⟨hqueue, hbooks, iff_of_false (Option.some_ne_none m) (Option.some_ne_none us), ?_, ?_, hlifetime, hserial⟩
  · exact fun h => absurd h (Option.some_ne_none m)
  · intro v hv
    exact Option.some.inj hv ▸ hm

theorem requestSetCalendar_deskSound (minute : BitVec 16) {s : State} (hs : DeskSound s) :
    DeskSound (requestSetCalendar minute s).state := by
  obtain heq | ⟨m, hm, heq⟩ := requestSetCalendar_state minute s
  · exact heq.symm ▸ hs
  · rw [heq]
    exact (updateBands_acts _ _).deskSound (setClock_deskSound (Nat.lt_succ_of_le hm) hs)

theorem requestSetLifetime_deskSound (minutes : BitVec 16) {s : State} (hs : DeskSound s) :
    DeskSound (requestSetLifetime minutes s).state := by
  unfold requestSetLifetime
  split
  · exact hs
  · next m hm =>
    obtain ⟨rfl, -, hle⟩ := within?_some hm
    obtain ⟨hqueue, hbooks, htimer, hunset, hrange, -, hserial⟩ := hs
    exact ⟨hqueue, hbooks, htimer, hunset, hrange, hle, hserial⟩

theorem serve_deskSound (p : Port) (r : Request) {s : State} (hs : DeskSound s) : DeskSound (serve p s r).state := by
  cases hbooks : keepsBooks r with
  | false => exact (serve_deals p s hbooks).deskSound hs
  | true =>
    cases r with
    | authorize charge heat chain target => exact requestAuthorize_deskSound charge heat chain target hs
    | cancel slot serial => exact (requestCancel_voids slot serial s).deskSound hs
    | release slot serial => exact requestRelease_deskSound p slot serial hs
    | openAccount id kind balance limit holdStep => exact requestOpenAccount_deskSound id kind balance limit holdStep hs
    | closeAccount index id => exact requestCloseAccount_deskSound index id hs
    | writeBand band chain start chargeRate heatRate occupancyRate cap next =>
      exact requestWriteBand_deskSound band chain start chargeRate heatRate occupancyRate cap next hs
    | freeBand band => exact requestFreeBand_deskSound band hs
    | sealChain chain id => exact requestSealChain_deskSound chain id hs
    | unsealChain chain id => exact requestUnsealChain_deskSound chain id hs
    | setCalendar minute => exact requestSetCalendar_deskSound minute hs
    | setLifetime minutes => exact requestSetLifetime_deskSound minutes hs
    | _ => exact absurd hbooks Bool.false_ne_true

/-! ### A whole step -/

theorem nextMinute_lt (m : Nat) : nextMinute m < 10080 := by
  unfold nextMinute
  rw [show Config.weekMinutes = 10080 from rfl]
  split <;> omega

theorem takeMinute_deskSound {s : State} (hs : DeskSound s) : DeskSound (takeMinute s) := by
  cases hcalendar : s.tariff.calendar with
  | none => rwa [takeMinute_unset hcalendar]
  | some m =>
    refine (takeMinute_eq hcalendar).deskSound ((Acts.same (sameBlocks_dropChoice _)).deskSound ?_)
    exact (updateBands_acts _ _).deskSound (setClock_deskSound (nextMinute_lt m) hs)

theorem powerOn_deskSound (s : State) : DeskSound (powerOnState s) := by
  have hsession (i : Fin 8) : (powerOnState s).session i = .free := by simp [powerOnState, State.reset, State.session]
  have haccount (a : Fin 16) : (powerOnState s).account a = .free := by simp [powerOnState, State.reset, State.account]
  have hchain (c : Fin 4) : (powerOnState s).chain c = .empty := by simp [powerOnState, State.reset, State.chain]
  refine ⟨(powerOn_tableSound s).1, booksExact_iff.2 ⟨fun a => ?_, fun i => hsession i ▸ free_roles, fun c => ?_⟩,
    iff_of_true rfl rfl, fun _ i => by rw [hsession]; rfl, nofun, ?_, Nat.le_refl 1, ?_⟩
  · simp only [hsession, haccount, free_holdAgainst, free_names]
    exact ⟨rfl, rfl, fun h => absurd h (Nat.lt_irrefl 0)⟩
  · simp only [hsession, hchain, free_bound]
    exact ⟨rfl, fun h => absurd h (Nat.lt_irrefl 0)⟩
  · exact (by decide : 120 ≤ 1440)
  · exact (by decide : 1 ≤ 65535)

theorem Move.deskSound {s t : State} (h : Move s t) (hs : DeskSound s) : DeskSound t := by
  obtain hdeals | rfl | ⟨us, rfl⟩ | ⟨p, r, -, rfl⟩ := h.books_cases
  · exact hdeals.deskSound hs
  · exact powerOn_deskSound s
  · exact takeMinute_deskSound ((passTime_deals us s).deskSound hs)
  · exact serve_deskSound p r hs

/-- Settles O57: a step keeps held amounts, session counts, lock counts and calendar. -/
theorem stepsKeepLedgerAndLocksExact : Obligations.StepsKeepLedgerAndLocksExact := by
  intro s t hqueue hledger hlocks hcalendar hstep
  obtain ⟨-, ⟨hledger', hlocks'⟩, hcalendar'⟩ := step_keeps (P := DeskSound) (fun h => (Acts.same h).deskSound)
    Move.deskSound hstep ⟨hqueue, ⟨hledger, hlocks⟩, hcalendar⟩
  exact ⟨hledger', hlocks', hcalendar'⟩

end Sys2Proof.Machine
end

section
/-! The localizer record is sound and exactly the zone under test carries the mark: every step keeps it (R138, R143,
R159). -/

namespace Sys2Proof.Machine

/-- A state in which record, settings and heating are the same keeps the record sound. -/
theorem LocalizerSound.of_same {s t : State} (h : LocalizerSound s) (hrecord : t.localizer = s.localizer)
    (hisolation : t.isolation = s.isolation) (hheating : t.heating = s.heating) : LocalizerSound t :=
  (LocalKept.of_eq hrecord (by rw [hisolation]) hheating).localizerSound h

theorem Handles.localizerSound {s t : State} (h : Handles s t) (hs : LocalizerSound s) : LocalizerSound t := by
  induction h with
  | acts hacts => exact hacts.sound hs
  | trans _ _ ih ih' => exact ih' (ih hs)
  | goLive | close => exact hs.of_same (by simp) (by simp) (by simp)
  | stop => exact hs

theorem Voids.localizerSound {s t : State} (h : Voids s t) (hs : LocalizerSound s) : LocalizerSound t := by
  induction h with
  | acts hacts => exact hacts.sound hs
  | trans _ _ ih ih' => exact ih' (ih hs)
  | void => exact hs.of_same (by simp) (by simp) (by simp)

theorem Deals.localizerSound {s t : State} (h : Deals s t) (hs : LocalizerSound s) : LocalizerSound t := by
  induction h with
  | handles h => exact h.localizerSound hs
  | trans _ _ ih ih' => exact ih' (ih hs)
  | books _ hlocal => exact hlocal hs

theorem takeMinute_localizerSound {s : State} (hs : LocalizerSound s) : LocalizerSound (takeMinute s) := by
  cases hcalendar : s.tariff.calendar with
  | none => rwa [takeMinute_unset hcalendar]
  | some m => exact (takeMinute_eq hcalendar).localizerSound (hs.of_same (by simp) (by simp) (by simp))

/-- The requests that keep the books do not reach the Localizer, the monitor's settings or the zones. -/
theorem serve_localizerSound (p : Port) (r : Request) {s : State} (hs : LocalizerSound s) :
    LocalizerSound (serve p s r).state := by
  cases hbooks : keepsBooks r with
  | false => exact (serve_deals p s hbooks).localizerSound hs
  | true =>
    cases r with
    | authorize | cancel | release | openAccount | closeAccount | writeBand | freeBand | sealChain | unsealChain
    | setCalendar | setLifetime => exact hs.of_same (by simp [serve]) (by simp [serve]) (by simp [serve])
    | _ => exact absurd hbooks Bool.false_ne_true

theorem powerOn_localizerSound (s : State) : LocalizerSound (powerOnState s) := by
  refine localizerSound_of_idle rfl rfl rfl rfl rfl rfl ?_ fun z => ?_
  · exact (by decide : 8 ≤ 25 ∧ 25 ≤ 64 ∧ 8 ≤ 25 ∧ 25 ≤ 64)
  · simp [powerOnState, State.reset, State.zone, HeatController.powerOn, Zone.powerOn]

theorem Move.localizerSound {s t : State} (h : Move s t) (hs : LocalizerSound s) : LocalizerSound t := by
  obtain hdeals | rfl | ⟨us, rfl⟩ | ⟨p, r, -, rfl⟩ := h.books_cases
  · exact hdeals.localizerSound hs
  · exact powerOn_localizerSound s
  · exact takeMinute_localizerSound (s := passTime us s) hs
  · exact serve_localizerSound p r hs

/-- Settles O58: a step keeps the localizer record sound. -/
theorem stepsKeepLocalizerSound : Obligations.StepsKeepLocalizerSound := fun _ _ hs hstep =>
  step_keeps (fun h => (Acts.same h).sound) Move.localizerSound hstep hs

end Sys2Proof.Machine
end

section
/-! The records of the Offer Monitor, the meter link and the ports are sound: every step keeps them (R81, R92, R171 to
R174, R180). -/

namespace Sys2Proof.Machine

/-! ### The meter link (R81) -/

/-- The counts, frame and lost timer that belong to each link state. -/
def LinkCounts (m : MeterLink) : Prop :=
  match m.state with
  | .searching => m.heldCount = 0 ∧ m.goodCount = 0 ∧ m.frame = none ∧ m.lost = none
  | .synced => m.heldCount = 0 ∧ m.goodCount = 0 ∧ m.frame.isSome = true ∧ m.lost = none
  | .holding => 1 ≤ m.heldCount ∧ m.heldCount ≤ 4 ∧ m.goodCount = 0 ∧ m.frame.isSome = true ∧ m.lost = none
  | .lost => m.heldCount = 5 ∧ m.goodCount = 0 ∧ m.frame.isSome = true
  | .recovering => m.heldCount = 0 ∧ m.goodCount ≤ 2 ∧ m.frame.isSome = true

/-- The ranges of the assembly and of the two timers. -/
def LinkRanges (m : MeterLink) : Prop :=
  (∀ ws ∈ m.assembly, ws.length ≤ 14) ∧ m.overdue ≤ Config.overdueAfterFrame ∧ ∀ us ∈ m.lost, us ≤ Config.lostPeriod

theorem meterSound_iff {s : State} : MeterSound s ↔ LinkCounts s.meter ∧ LinkRanges s.meter := Iff.rfl

theorem MeterSound.of_meter {s t : State} (hs : MeterSound s) (h : t.meter = s.meter) : MeterSound t := by
  rw [meterSound_iff, h]
  exact hs

theorem MeterSound.ranges {s : State} (hs : MeterSound s) : LinkRanges s.meter := (meterSound_iff.1 hs).2

/-- An accepted frame brings the counts of its new state, and the entry to SYNCED stops the lost timer (R85, R87). -/
theorem LinkCounts.accepted {m : MeterLink} (f : MeterFrame) (h : LinkCounts m) :
    (entersSynced m = true → LinkCounts { m.accepted f with lost := none }) ∧
    (entersSynced m = false → LinkCounts (m.accepted f)) := by
  obtain ⟨state, held, good, frame, age, assembly, overdue, lost⟩ := m
  cases state with
  | searching => exact ⟨fun h => Bool.noConfusion h, fun _ => ⟨rfl, Nat.le_succ 1, rfl⟩⟩
  | synced => exact ⟨fun h => Bool.noConfusion h, fun _ => ⟨rfl, rfl, rfl, h.2.2.2⟩⟩
  | holding => exact ⟨fun _ => ⟨rfl, rfl, rfl, rfl⟩, fun h => Bool.noConfusion h⟩
  | lost => exact ⟨fun h => Bool.noConfusion h, fun _ => ⟨rfl, Nat.le_succ 1, rfl⟩⟩
  | recovering =>
    by_cases hgood : good < 2
    · simp [entersSynced, linkAfterFrame, MeterLink.accepted, hgood, LinkCounts]
    · simp [entersSynced, linkAfterFrame, MeterLink.accepted, hgood, LinkCounts]

theorem takeAccepted_meter (f : MeterFrame) (a : Arrival) (entered : Bool) (s : State) (x : Taker) :
    (takeAccepted f a entered s x).meter = s.meter := by simp

theorem acceptFrame_meter (f : MeterFrame) (s : State) : (acceptFrame f s).meter =
    if entersSynced s.meter then { s.meter.accepted f with lost := none } else s.meter.accepted f := by
  have hfold (u : State) (order : List Taker) (a : Arrival) (entered : Bool) :
      (order.foldl (takeAccepted f a entered) (dropChoice u)).meter = u.meter := foldl_reads State.meter _ (takeAccepted_meter f a entered) _ _
  refine (hfold _ _ _ _).trans ?_
  split
  · simp [enterSynced]
  · rfl

theorem acceptFrame_meterSound {s : State} (f : MeterFrame) (hs : MeterSound s) : MeterSound (acceptFrame f s) := by
  obtain ⟨hcounts, hassembly, -, hlost⟩ := meterSound_iff.1 hs
  obtain ⟨hentered, hstayed⟩ := hcounts.accepted f
  rw [meterSound_iff, acceptFrame_meter]
  split
  · next h => exact ⟨hentered h, hassembly, Nat.le_refl _, nofun⟩
  · next h => exact ⟨hstayed (Bool.eq_false_iff.2 h), hassembly, Nat.le_refl _, hlost⟩

/-- A write to the assembly alone. -/
theorem MeterSound.assembly {s : State} (hs : MeterSound s) {v : Option (List Word)} (hv : ∀ ws ∈ v, ws.length ≤ 14) :
    MeterSound (s.setMeter { s.meter with assembly := v }) := by
  obtain ⟨hcounts, -, htimers⟩ := meterSound_iff.1 hs
  exact ⟨hcounts, hv, htimers⟩

theorem takeDataWord_meterSound {s : State} (w : Word) (hs : MeterSound s) : MeterSound (takeDataWord w s) := by
  unfold takeDataWord
  split
  · exact hs
  · next ws _ =>
    split
    · next hshort =>
      refine hs.assembly fun v hv => ?_
      obtain rfl := Option.some.inj hv
      rw [List.length_append, List.length_singleton]
      exact hshort
    · dsimp only
      split
      · exact hs.assembly nofun
      · exact acceptFrame_meterSound _ (hs.assembly nofun)

/-- The overdue timer rearmed, other fields as they are. -/
theorem rearmOverdue_meterSound {s : State} (hs : MeterSound s) : MeterSound (rearmOverdue s) := by
  obtain ⟨hcounts, hassembly, -, hlost⟩ := meterSound_iff.1 hs
  exact ⟨hcounts, hassembly, (by decide : Config.overdueAfterExpiry ≤ Config.overdueAfterFrame), hlost⟩

theorem heldEvent_meter (s : State) : (heldEvent s).meter = s.meter := by simp [heldEvent, foldl_reads State.meter]

theorem enterLost_meter (s : State) : (enterLost s).meter =
    { s.meter with state := .lost, heldCount := 5, lost := some Config.lostPeriod } := by simp [enterLost]

theorem takeOverdue_meterSound {s : State} (hs : MeterSound s) : MeterSound (takeOverdue s) := by
  obtain ⟨hcounts, hranges⟩ := meterSound_iff.1 (rearmOverdue_meterSound hs)
  unfold takeOverdue
  dsimp only
  generalize rearmOverdue s = r at hcounts hranges
  have hlostEvent (u : State) (hu : MeterSound u) : MeterSound (lostEvent u) := hu.of_meter (by simp [lostEvent])
  have hheldEvent (u : State) (hu : MeterSound u) : MeterSound (heldEvent u) := hu.of_meter (heldEvent_meter u)
  split
  · next hstate =>
    rw [LinkCounts, hstate] at hcounts
    exact hheldEvent _ ⟨⟨Nat.le_refl 1, (by decide : 1 ≤ 4), hcounts.2⟩, hranges⟩
  · next hstate =>
    rw [LinkCounts, hstate] at hcounts
    split
    · next hshort =>
      refine hheldEvent _ ⟨?_, hranges⟩
      show LinkCounts { r.meter with heldCount := r.meter.heldCount + 1 }
      rw [LinkCounts, hstate]
      exact ⟨Nat.le_add_left 1 _, hshort, hcounts.2.2⟩
    · refine hlostEvent _ (meterSound_iff.2 ?_)
      rw [enterLost_meter]
      obtain ⟨hassembly, hoverdue, -⟩ := hranges
      exact ⟨⟨rfl, hcounts.2.2.1, hcounts.2.2.2.1⟩, hassembly, hoverdue, fun us hus => Option.some.inj hus ▸ Nat.le_refl _⟩
  · exact hlostEvent _ ⟨hcounts, hranges⟩
  · exact hlostEvent _ ⟨hcounts, hranges⟩
  · next hstate =>
    rw [LinkCounts, hstate] at hcounts
    refine hlostEvent _ ⟨?_, hranges⟩
    show LinkCounts { r.meter with goodCount := 0 }
    rw [LinkCounts, hstate]
    exact ⟨hcounts.1, Nat.zero_le 2, hcounts.2.2⟩

/-- The lost timer stopped, wherever it may run. -/
theorem LinkCounts.unlost {m : MeterLink} (h : LinkCounts m) : LinkCounts { m with lost := none } := by
  obtain ⟨state, held, good, frame, age, assembly, overdue, lost⟩ := m
  cases state with
  | searching => exact ⟨h.1, h.2.1, h.2.2.1, rfl⟩
  | synced => exact ⟨h.1, h.2.1, h.2.2.1, rfl⟩
  | holding => exact ⟨h.1, h.2.1, h.2.2.1, h.2.2.2.1, rfl⟩
  | lost => exact h
  | recovering => exact h

theorem takeLostExpiry_meterSound {s : State} (hs : MeterSound s) : MeterSound (takeLostExpiry s) := by
  obtain ⟨hcounts, hassembly, hoverdue, -⟩ := meterSound_iff.1 hs
  unfold takeLostExpiry
  split
  · exact hs
  · refine MeterSound.of_meter (s := s.setMeter { s.meter with lost := none }) ?_ (by simp)
    exact ⟨hcounts.unlost, hassembly, hoverdue, nofun⟩

theorem LinkCounts.passed {m : MeterLink} (us age overdue : Nat) (h : LinkCounts m) :
    LinkCounts { m with overdue := overdue, lost := m.lost.map (· - us), frameAge := age } := by
  obtain ⟨state, held, good, frame, age, assembly, overdue, lost⟩ := m
  cases state with
  | searching => exact ⟨h.1, h.2.1, h.2.2.1, by rw [h.2.2.2]; rfl⟩
  | synced => exact ⟨h.1, h.2.1, h.2.2.1, by rw [h.2.2.2]; rfl⟩
  | holding => exact ⟨h.1, h.2.1, h.2.2.1, h.2.2.2.1, by rw [h.2.2.2.2]; rfl⟩
  | lost => exact h
  | recovering => exact h

theorem passTime_meterSound {s : State} (us : Nat) (hs : MeterSound s) : MeterSound (passTime us s) := by
  obtain ⟨hcounts, hassembly, hoverdue, hlost⟩ := meterSound_iff.1 hs
  refine ⟨hcounts.passed us _ _, hassembly, (Nat.sub_le _ _).trans hoverdue, fun v hv => ?_⟩
  obtain ⟨w, hw, rfl⟩ := Option.map_eq_some_iff.1 hv
  exact (Nat.sub_le _ _).trans (hlost w hw)

theorem fresh_meterSound {s : State} (h : s.meter = State.reset.meter) : MeterSound s := by
  rw [meterSound_iff, h]
  exact ⟨⟨rfl, rfl, rfl, rfl⟩, nofun, Nat.le_refl _, nofun⟩

theorem warmReset_meter (s : State) : (warmReset s).meter = State.reset.meter := by simp [warmReset, resetMeter]

theorem serve_meter (p : Port) (r : Request) (s : State) (h : r ≠ .warmReset) : (serve p s r).state.meter = s.meter := by
  cases r with
  | warmReset => exact absurd rfl h
  | _ => simp [serve]

theorem Move.meterSound {s t : State} (h : Move s t) (hs : MeterSound s) : MeterSound t := by
  cases h with
  | nothing => exact hs
  | served p r =>
    by_cases hreset : r = .warmReset
    · subst hreset; exact fresh_meterSound (warmReset_meter s)
    · exact hs.of_meter (serve_meter p r s hreset)
  | warmReset => exact fresh_meterSound (warmReset_meter s)
  | powerOn => exact fresh_meterSound rfl
  | time us => exact passTime_meterSound us hs
  | frameSync => exact hs.assembly fun ws hws => Option.some.inj hws ▸ Nat.zero_le 14
  | dataWord w => exact takeDataWord_meterSound w hs
  | overdue us => exact takeOverdue_meterSound (passTime_meterSound us hs)
  | lostExpiry us => exact takeLostExpiry_meterSound (passTime_meterSound us hs)
  | risingEdge us w => exact (passTime_meterSound us hs).of_meter (by simp)
  | fallingEdge us w => exact (passTime_meterSound us hs).of_meter (by simp)
  | overflow us w => exact (passTime_meterSound us hs).of_meter (by simp)
  | minute us => exact (passTime_meterSound us hs).of_meter (by simp)

end Sys2Proof.Machine
end

section
/-! The Offer Monitor's record is sound: every step keeps it (R92, R95, R96, R98, R99, R105). -/

namespace Sys2Proof.Machine

/-! ### The record (R92) -/

/-- What the record of the Offer Monitor keeps beside its state: class candidate, no-offer count, run and offers. -/
structure AdoptionSound (m : OfferMonitor) : Prop where
  candidate : m.candidate = none ↔ m.classCount = 0
  classCount : m.classCount ≤ 3
  differs : m.candidate ≠ some m.level
  noOffer : m.noOffer ≤ 3
  absent : m.noOffer = 3 → m.offered = none
  short : m.run.length ≤ 3
  run : ∀ v ∈ m.run, v ≤ 800
  offered : ∀ v ∈ m.offered, v ≤ 800

/-- The record is sound: its state follows level and offer, and the Request Line is on only in PLUGGED and OFFERING. -/
structure MonitorSound (m : OfferMonitor) : Prop extends AdoptionSound m where
  state : m.state = supplyOf m.level m.offered
  line : m.requestLine = true → m.state = .plugged ∨ m.state = .offering

theorem supplySound_iff {s : State} : SupplySound s ↔ MonitorSound s.supply := by
  constructor
  · rintro ⟨hstate, hcandidate, hcount, hdiffers, hnone, habsent, hshort, hrun, hoffered, hline⟩
    exact ⟨⟨hcandidate, hcount, hdiffers, hnone, habsent, hshort, hrun, hoffered⟩, hstate, hline⟩
  · rintro ⟨⟨hcandidate, hcount, hdiffers, hnone, habsent, hshort, hrun, hoffered⟩, hstate, hline⟩
    exact ⟨hstate, hcandidate, hcount, hdiffers, hnone, habsent, hshort, hrun, hoffered, hline⟩

/-! ### Adoption (R96, R98) -/

/-- A trimmed run keeps values of the run it was, at most three (R96). -/
theorem trimRun_sound (run : List Nat) : (trimRun run).length ≤ 3 ∧ ∀ v ∈ trimRun run, v ∈ run := by
  induction run with
  | nil => exact ⟨Nat.zero_le 3, nofun⟩
  | cons v rest ih =>
    unfold trimRun
    split
    · exact ⟨ih.1, fun w hw => List.mem_cons_of_mem _ (ih.2 w hw)⟩
    · next hfits => exact ⟨Nat.le_of_not_lt fun hlong => hfits (.inl hlong), fun w hw => hw⟩

theorem AdoptionSound.adoptOffer {m : OfferMonitor} {offer : Option Nat} (h : AdoptionSound m)
    (hoffer : ∀ v ∈ offer, v ≤ 800) : AdoptionSound (m.adoptOffer offer) := by
  cases offer with
  | none =>
    refine { h with noOffer := Nat.min_le_right _ _, absent := fun hcount => if_pos hcount, short := Nat.zero_le 3
                    run := nofun, offered := fun v hv => ?_ }
    simp only [OfferMonitor.adoptOffer] at hv
    split at hv
    · simp at hv
    · exact h.offered v hv
  | some v =>
    have hv := hoffer v rfl
    have htrimmed := trimRun_sound (m.run ++ [v])
    refine { h with noOffer := Nat.zero_le 3, absent := nofun, short := htrimmed.1, run := fun w hw => ?_
                    offered := fun w hw => ?_ }
    · obtain hold | hnew := List.mem_append.1 (htrimmed.2 w hw)
      · exact h.run w hold
      · exact List.mem_singleton.1 hnew ▸ hv
    · simp only [OfferMonitor.adoptOffer] at hw
      split at hw
      · exact Option.some.inj hw ▸ hv
      · exact h.offered w hw

theorem AdoptionSound.adoptClass {m : OfferMonitor} (cls : LevelClass) (h : AdoptionSound m) :
    AdoptionSound (m.adoptClass cls) := by
  unfold OfferMonitor.adoptClass
  split
  · exact { h with candidate := iff_of_true rfl rfl, classCount := Nat.zero_le 3, differs := nofun }
  · next hlevel =>
    split
    · next hcandidate =>
      split
      · exact { h with candidate := iff_of_true rfl rfl, classCount := Nat.zero_le 3, differs := nofun }
      · next hshort =>
        exact { h with
          candidate := iff_of_false (hcandidate ▸ Option.some_ne_none cls) (Nat.succ_ne_zero _)
          classCount := Nat.le_of_lt_succ (Nat.lt_of_not_le hshort) }
    · exact { h with
        candidate := iff_of_false (Option.some_ne_none cls) Nat.one_ne_zero
        classCount := (by decide : 1 ≤ 3)
        differs := fun heq => hlevel (Option.some.inj heq) }

/-- The adoptions leave state and Request Line. -/
theorem adopted_eq (offer : Option Nat) (cls : LevelClass) (m : OfferMonitor) :
    ((m.adoptOffer offer).adoptClass cls).requestLine = m.requestLine := by
  have hoffer : (m.adoptOffer offer).requestLine = m.requestLine := by cases offer <;> rfl
  rw [← hoffer]
  unfold OfferMonitor.adoptClass
  split
  · rfl
  · split
    · split <;> rfl
    · rfl

/-- The monitor's own part of a change of state keeps its record sound: the line is off where it must be (R101, R105). -/
theorem settled_sound {before : SupplyState} {m : OfferMonitor} (h : AdoptionSound m)
    (hstate : m.state = supplyOf m.level m.offered)
    (hline : m.requestLine = true → before = .plugged ∨ before = .offering) : MonitorSound (m.settled before) := by
  have hopened (hunplugged : m.state = .unplugged) : m.level = .opened := by
    rw [hstate] at hunplugged
    cases hlevel : m.level <;> cases hoffered : m.offered <;> simp [supplyOf, hlevel, hoffered] at hunplugged ⊢
  unfold OfferMonitor.settled
  split
  · next hunplug =>
    refine { h with
      noOffer := Nat.zero_le 3, absent := fun _ => rfl, short := Nat.zero_le 3, run := nofun, offered := nofun
      state := ?_, line := nofun }
    show m.state = supplyOf m.level none
    rw [hunplug.2, hopened hunplug.2]
    rfl
  · next hplugged =>
    split
    · exact { h with state := hstate, line := nofun }
    · next hsound =>
      refine { h with state := hstate, line := fun hon => ?_ }
      have hbefore := hline hon
      have hup : m.state ≠ .unplugged := fun hu => hplugged ⟨by obtain hb | hb := hbefore <;> rw [hb] <;> exact SupplyState.noConfusion, hu⟩
      have hfine : m.state ≠ .faulted := fun hu => hsound ⟨by obtain hb | hb := hbefore <;> rw [hb] <;> exact SupplyState.noConfusion, hu⟩
      cases hs : m.state with
      | unplugged => exact absurd hs hup
      | faulted => exact absurd hs hfine
      | plugged => exact .inl rfl
      | offering => exact .inr rfl

theorem taken_sound {m : OfferMonitor} {offer : Option Nat} (cls : LevelClass) (last : LastPeriod) (h : MonitorSound m)
    (hoffer : ∀ v ∈ offer, v ≤ 800) : MonitorSound (m.taken offer cls last) := by
  have hlast : AdoptionSound { m with last := some last } := { h.toAdoptionSound with }
  have hadopted := (hlast.adoptOffer hoffer).adoptClass cls
  refine settled_sound { hadopted with } rfl fun hon => h.line ?_
  exact (adopted_eq offer cls { m with last := some last }).symm.trans hon

/-- An offer that a period carries is of at most 80.0 A (R95). -/
theorem judgePeriod_offer (length high : Nat) : ∀ v ∈ (judgePeriod length high).offered, v ≤ 800 := by
  intro v hv
  unfold judgePeriod at hv
  split at hv
  · simp [Judgement.offered] at hv
  · split at hv
    · simp [Judgement.offered] at hv
    · next hduty =>
      obtain rfl := Option.some.inj hv
      omega

/-! ### The events -/

theorem SupplySound.of_supply {s t : State} (hs : SupplySound s) (h : t.supply = s.supply) : SupplySound t := by
  rw [supplySound_iff, h, ← supplySound_iff]
  exact hs

theorem SupplyKept.supplySound {s t : State} (h : SupplyKept s t) (hs : SupplySound s) : SupplySound t := by
  obtain ⟨_, _, line, hsupply, hline⟩ := h
  have hm := supplySound_iff.1 hs
  rw [supplySound_iff, hsupply]
  exact { hm with line := fun hon => (hline hon).elim hm.line id }

theorem Events.supplySound {s t : State} (h : Events s t) (hs : SupplySound s) : SupplySound t := by
  induction h with
  | acts h => exact hs.of_supply h.supply_eq
  | trans _ _ ih ih' => exact ih' (ih hs)
  | other _ hsupply => exact hsupply.supplySound hs
  | endClosing s => exact hs.of_supply (by simp)
  | meterLost s => exact hs.of_supply (by simp)

theorem takePeriod_supply (offer : Option Nat) (cls : LevelClass) (last : LastPeriod) (s : State) :
    (takePeriod offer cls last s).supply = s.supply.taken offer cls last := by simp [takePeriod]

theorem takePeriod_supplySound {offer : Option Nat} (cls : LevelClass) (last : LastPeriod) {s : State}
    (hs : SupplySound s) (hoffer : ∀ v ∈ offer, v ≤ 800) : SupplySound (takePeriod offer cls last s) := by
  rw [supplySound_iff, takePeriod_supply]
  exact taken_sound cls last (supplySound_iff.1 hs) hoffer

/-- Capture and overflow timer are not part of what is sound. -/
theorem restarted_kept (c : Capture) (s : State) : SupplyKept s (setCapture c (restartOverflow s)) := ⟨_, _, _, rfl, .inl⟩

theorem takeRisingEdge_supplySound (w : Word) {s : State} (hs : SupplySound s) : SupplySound (takeRisingEdge w s) := by
  unfold takeRisingEdge
  dsimp only
  have hnext := (restarted_kept (.timing 0 none) s).supplySound hs
  split
  · exact hnext
  · exact hnext
  · exact takePeriod_supplySound _ _ hnext (judgePeriod_offer _ _)

theorem takeFallingEdge_supplySound (w : Word) {s : State} (hs : SupplySound s) : SupplySound (takeFallingEdge w s) := by
  unfold takeFallingEdge
  split
  · exact SupplyKept.supplySound ⟨_, _, _, rfl, .inl⟩ hs
  · exact (restarted_kept _ s).supplySound hs

theorem fresh_supplySound {s : State} (h : s.supply = State.reset.supply) : SupplySound s := by
  rw [supplySound_iff, h]
  exact ⟨⟨iff_of_true rfl rfl, Nat.zero_le 3, nofun, Nat.zero_le 3, nofun, Nat.zero_le 3, nofun, nofun⟩, rfl, nofun⟩

theorem warmReset_supply (s : State) : (warmReset s).supply = State.reset.supply := by
  have hreset (u : State) : (resetSupply u).supply = State.reset.supply := by
    unfold resetSupply
    dsimp only
    split <;> simp
  simp [warmReset, hreset]

theorem serve_supplySound (p : Port) (r : Request) {s : State} (hs : SupplySound s) :
    SupplySound (serve p s r).state := by
  cases r with
  | warmReset => exact fresh_supplySound (warmReset_supply s)
  | _ => exact hs.of_supply (by simp [serve])

theorem Move.supplySound {s t : State} (h : Move s t) (hs : SupplySound s) : SupplySound t := by
  have hpassed (us : Nat) : SupplySound (passTime us s) := (passTime_events us s).supplySound hs
  cases h with
  | nothing => exact hs
  | served p r => exact serve_supplySound p r hs
  | warmReset => exact fresh_supplySound (warmReset_supply s)
  | powerOn => exact fresh_supplySound rfl
  | time us => exact hpassed us
  | frameSync => exact hs
  | dataWord w => exact (takeDataWord_events w s).supplySound hs
  | overdue us => exact (takeOverdue_events _).supplySound (hpassed us)
  | lostExpiry us => exact (takeLostExpiry_events _).supplySound (hpassed us)
  | risingEdge us w => exact takeRisingEdge_supplySound w (hpassed us)
  | fallingEdge us w => exact takeFallingEdge_supplySound w (hpassed us)
  | overflow us w => exact takePeriod_supplySound _ _ ((restarted_kept .waiting _).supplySound (hpassed us)) nofun
  | minute us => exact (hpassed us).of_supply (by simp)

end Sys2Proof.Machine
end

section
/-! The ports' records are sound: every step keeps them (R171 to R174, R180). -/

namespace Sys2Proof.Machine

/-! ### The records -/

/-- The record of the Control Port: an overrun mark only beside a held response (R171, R172). -/
def ControlSound (c : ControlPort) : Prop := c.buffer = none → c.overrun = false

/-- The frame in assembly is short of its length, and none assembles while the port ignores bytes (R173). -/
def AssemblySound (b : BillingPort) : Prop :=
  ∀ ws ∈ b.assembly, ws ≠ [] ∧ b.ignoring = false ∧
    (2 ≤ ws.length → (ws.getD 1 0).toNat ≤ 60 ∧ ws.length < 3 + (ws.getD 1 0).toNat)

/-- At most four frames wait, behind a transmission alone, and an overrun mark is still to go out (R174). -/
def SendingSound (b : BillingPort) : Prop :=
  b.waiting.length ≤ 4 ∧ (b.sending = none → b.waiting = []) ∧
  (b.overrun = true → b.waiting ≠ [] ∨ ∃ sent ∈ b.sending, (sent.headD 0).getLsbD 7 = true)

/-- The Billing Port before its start and after a reset. -/
def BillingPort.fresh : BillingPort := ⟨none, false, [], none, false⟩

theorem portsSound_iff {s : State} : PortsSound s ↔ ControlSound s.control ∧ SendingSound s.billing ∧
    AssemblySound s.billing ∧ (s.portsStarted = false → s.control.buffer = none ∧ s.billing = .fresh) := by
  simp only [PortsSound, ControlSound, SendingSound, AssemblySound, BillingPort.fresh, and_assoc]

theorem fresh_sending : SendingSound .fresh := ⟨Nat.zero_le 4, fun _ => rfl, nofun⟩
theorem fresh_assembly : AssemblySound .fresh := nofun

/-- The ports' records and the start mark are the same. -/
theorem PortsSound.of_same {s t : State} (hs : PortsSound s) (hstarted : t.portsStarted = s.portsStarted)
    (hcontrol : t.control = s.control) (hbilling : t.billing = s.billing) : PortsSound t := by
  rw [portsSound_iff, hstarted, hcontrol, hbilling, ← portsSound_iff]
  exact hs

/-- Both ports are empty (R179, R180). -/
theorem portsSound_of_fresh {s : State} (hbuffer : s.control.buffer = none) (hoverrun : s.control.overrun = false)
    (hbilling : s.billing = .fresh) : PortsSound s := by
  rw [portsSound_iff, hbilling]
  exact ⟨fun _ => hoverrun, fresh_sending, fresh_assembly, fun _ => ⟨hbuffer, rfl⟩⟩

/-! ### Requests answered -/

theorem warmReset_ports (s : State) : (warmReset s).control.buffer = none ∧ (warmReset s).control.overrun = false ∧
    (warmReset s).billing = .fresh := ⟨rfl, rfl, rfl⟩

theorem serve_ports (p : Port) (s : State) {r : Request} (h : r ≠ .warmReset) :
    (serve p s r).state.portsStarted = s.portsStarted ∧ (serve p s r).state.control = s.control ∧
    (serve p s r).state.billing = s.billing := by
  cases r with
  | warmReset => exact absurd rfl h
  | _ => simp [serve]

theorem serve_started (p : Port) (r : Request) (s : State) : (serve p s r).state.portsStarted = s.portsStarted := by
  by_cases h : r = .warmReset
  · subst h; exact (warmReset_frame s).1
  · exact (serve_ports p s h).1

/-- An answered request leaves the ports' records sound, the start mark as it was. -/
theorem answer_portsSound (p : Port) (r : Request) {s : State} (hs : PortsSound s) :
    PortsSound (answer p r s).state ∧ (answer p r s).state.portsStarted = s.portsStarted := by
  unfold answer
  split
  · refine ⟨?_, serve_started p r s⟩
    by_cases h : r = .warmReset
    · subst h
      obtain ⟨hbuffer, hoverrun, hbilling⟩ := warmReset_ports s
      exact portsSound_of_fresh hbuffer hoverrun hbilling
    · obtain ⟨hstarted, hcontrol, hbilling⟩ := serve_ports p s h
      exact hs.of_same hstarted hcontrol hbilling
  · exact ⟨hs, rfl⟩

/-! ### The Control Port -/

theorem shiftFillers_portsSound (n : Nat) {s : State} (hs : PortsSound s) : PortsSound (shiftFillers n s) := hs

theorem placeResponse_portsSound (r : Response) {s : State} (hs : PortsSound s) (hstarted : s.portsStarted = true) :
    PortsSound (placeResponse r s) := by
  rw [portsSound_iff] at hs ⊢
  obtain ⟨-, hsending, hassembly, -⟩ := hs
  exact ⟨fun h => absurd h (Option.some_ne_none r), hsending, hassembly, fun h => absurd (hstarted.symm.trans h) Bool.noConfusion⟩

theorem markOverrun_portsSound {s : State} (hs : PortsSound s) (hheld : s.control.buffer.isSome = true) :
    PortsSound (markOverrun s) := by
  rw [portsSound_iff] at hs ⊢
  obtain ⟨-, hsending, hassembly, hunstarted⟩ := hs
  refine ⟨fun h => ?_, hsending, hassembly, hunstarted⟩
  rw [show s.control.buffer = none from h] at hheld
  exact absurd hheld Bool.false_ne_true

theorem fetchTransaction_portsSound (n : Nat) {s : State} (hs : PortsSound s) : PortsSound (fetchTransaction n s) := by
  unfold fetchTransaction
  split
  · exact hs
  · split
    · exact hs
    · rw [portsSound_iff] at hs ⊢
      obtain ⟨hcontrol, hsending, hassembly, hunstarted⟩ := hs
      dsimp only
      split
      · exact ⟨fun _ => rfl, hsending, hassembly, fun h => ⟨rfl, (hunstarted h).2⟩⟩
      · exact ⟨hcontrol, hsending, hassembly, hunstarted⟩

theorem not_unstarted {s : State} (h : ¬ s.portsStarted = false) : s.portsStarted = true := by simpa using h

/-- The response to a request is placed on a started port. -/
theorem respond_portsSound (r : Request) {s : State} (hs : PortsSound s) (hstarted : s.portsStarted = true) :
    PortsSound (placeResponse (responseTo .cp r s) (answer .cp r s).state) := by
  obtain ⟨hsound, hsame⟩ := answer_portsSound .cp r hs
  exact placeResponse_portsSound _ hsound (hsame.trans hstarted)

theorem controlFrame_portsSound (bytes : List Byte) {s : State} (hs : PortsSound s) (hstarted : s.portsStarted = true) :
    PortsSound (controlFrame bytes s) := by
  unfold controlFrame
  split
  · exact placeResponse_portsSound _ hs hstarted
  · exact respond_portsSound _ hs hstarted

theorem requestTransaction_portsSound (bytes : List Byte) {s : State} (hs : PortsSound s) :
    PortsSound (requestTransaction bytes s) := by
  unfold requestTransaction
  split
  · exact hs
  · split
    · exact fetchTransaction_portsSound _ hs
    · split
      · exact hs
      · next hstarted =>
        split
        · next hheld => exact shiftFillers_portsSound _ (markOverrun_portsSound hs hheld)
        · exact shiftFillers_portsSound _ (controlFrame_portsSound _ hs (not_unstarted hstarted))

theorem controlRequest_portsSound (r : Request) {s : State} (hs : PortsSound s) : PortsSound (controlRequest r s) := by
  unfold controlRequest
  split
  · exact hs
  · next hstarted =>
    split
    · next hheld => exact shiftFillers_portsSound _ (markOverrun_portsSound hs hheld)
    · exact shiftFillers_portsSound _ (respond_portsSound r hs (not_unstarted hstarted))

/-! ### The Billing Port: transmissions (R174) -/

theorem statusByte_mark (overrun : Bool) (code : ResultCode) : (statusByte overrun code).getLsbD 7 = overrun := by
  cases overrun <;> cases code <;> decide

/-- A response carries the overrun mark it goes out with. -/
theorem Response.frame_mark (overrun : Bool) (r : Response) : ((r.frame overrun).headD 0).getLsbD 7 = overrun :=
  statusByte_mark overrun r.result

/-- The records of started ports but for what is going out: frames may wait behind nothing. -/
structure Sendable (s : State) : Prop where
  control : ControlSound s.control
  waiting : s.billing.waiting.length ≤ 4
  assembly : AssemblySound s.billing
  started : s.portsStarted = true

theorem PortsSound.sendable {s : State} (hs : PortsSound s) (hstarted : s.portsStarted = true) : Sendable s := by
  obtain ⟨hcontrol, ⟨hwaiting, -, -⟩, hassembly, -⟩ := portsSound_iff.1 hs
  exact ⟨hcontrol, hwaiting, hassembly, hstarted⟩

theorem Sendable.of_same {s t : State} (h : Sendable s) (hstarted : t.portsStarted = s.portsStarted)
    (hcontrol : t.control = s.control) (hbilling : t.billing = s.billing) : Sendable t :=
  ⟨hcontrol ▸ h.control, hbilling ▸ h.waiting, hbilling ▸ h.assembly, hstarted.trans h.started⟩

theorem transmit_portsSound (r : Response) {s : State} (h : Sendable s) : PortsSound (transmit r s) := by
  rw [portsSound_iff]
  refine ⟨h.control, ⟨h.waiting, fun hnone => absurd hnone (Option.some_ne_none _), fun hmark => .inr ⟨_, rfl, ?_⟩⟩,
    h.assembly, fun hoff => absurd (h.started.symm.trans hoff) Bool.noConfusion⟩
  exact (Response.frame_mark _ r).trans hmark

theorem answer_sendable (p : Port) (r : Request) {s : State} (h : Sendable s) : Sendable (answer p r s).state := by
  unfold answer
  split
  · by_cases hreset : r = .warmReset
    · subst hreset
      obtain ⟨-, hoverrun, hbilling⟩ := warmReset_ports s
      have hempty : (warmReset s).billing = .fresh := hbilling
      refine ⟨fun _ => hoverrun, ?_, ?_, (serve_started p .warmReset s).trans h.started⟩
      · exact (congrArg (fun b : BillingPort => b.waiting.length) hempty).le.trans (Nat.zero_le 4)
      · exact hempty ▸ fresh_assembly
    · obtain ⟨hstarted, hcontrol, hbilling⟩ := serve_ports p s hreset
      exact h.of_same hstarted hcontrol hbilling
  · exact h

theorem takeItem_portsSound (i : BillingItem) {s : State} (h : Sendable s) : PortsSound (takeItem i s) := by
  unfold takeItem
  split
  · exact transmit_portsSound _ h
  · split
    · exact transmit_portsSound _ h
    · exact transmit_portsSound _ (answer_sendable .bp _ h)

theorem completeItem_portsSound (i : BillingItem) {s : State} (hs : PortsSound s) (hstarted : s.portsStarted = true) :
    PortsSound (completeItem i s) := by
  unfold completeItem
  split
  · exact takeItem_portsSound i (hs.sendable hstarted)
  · next sent hsent =>
    rw [portsSound_iff] at hs ⊢
    obtain ⟨hcontrol, ⟨hwaiting, hidle, hmark⟩, hassembly, -⟩ := hs
    split
    · next hroom =>
      refine ⟨hcontrol, ⟨?_, fun h => absurd (hsent.symm.trans h) (Option.some_ne_none sent), fun _ => .inl ?_⟩, hassembly,
        fun h => absurd (hstarted.symm.trans h) Bool.noConfusion⟩
      · show (s.billing.waiting ++ [i]).length ≤ 4
        rw [List.length_append]
        exact hroom
      · exact List.append_ne_nil_of_right_ne_nil _ (List.cons_ne_nil _ _)
    · next hfull =>
      refine ⟨hcontrol, ⟨hwaiting, hidle, fun _ => .inl fun hnil => hfull ?_⟩, hassembly,
        fun h => absurd (hstarted.symm.trans h) Bool.noConfusion⟩
      rw [show s.billing.waiting = [] from hnil]
      exact (by decide : 0 < 4)

/-! ### The Billing Port: assembly (R173) -/

/-- A write to assembly and ignoring of a started port. -/
theorem PortsSound.assembled {s : State} (hs : PortsSound s) (hstarted : s.portsStarted = true) {v : Option (List Byte)}
    {ignoring : Bool} (hv : AssemblySound { s.billing with assembly := v, ignoring := ignoring }) :
    PortsSound (s.setBilling { s.billing with assembly := v, ignoring := ignoring }) := by
  rw [portsSound_iff] at hs ⊢
  obtain ⟨hcontrol, hsending, -, -⟩ := hs
  exact ⟨hcontrol, hsending, hv, fun h => absurd (hstarted.symm.trans h) Bool.noConfusion⟩

theorem discardFrame_portsSound (ws : List Byte) {s : State} (hs : PortsSound s) (hstarted : s.portsStarted = true) :
    PortsSound (discardFrame ws s) := completeItem_portsSound _ (hs.assembled hstarted nofun) hstarted

theorem addByte_portsSound {ws : List Byte} {s : State} (hs : PortsSound s) (hstarted : s.portsStarted = true)
    (hready : s.billing.ignoring = false) (hws : ws ≠ [])
    (hlength : 3 ≤ ws.length → (ws.getD 1 0).toNat ≤ 60) : PortsSound (addByte ws s) := by
  unfold addByte
  dsimp only
  split
  · exact discardFrame_portsSound ws hs hstarted
  · next hfits =>
    split
    · exact completeItem_portsSound _ (hs.assembled hstarted nofun) hstarted
    · next hshort =>
      refine hs.assembled hstarted fun v hv => ?_
      obtain rfl := Option.some.inj hv
      refine ⟨hws, hready, fun htwo => ⟨?_, ?_⟩⟩
      · by_cases hlen : ws.length = 2
        · exact Nat.le_of_not_lt fun hlong => hfits ⟨hlen, hlong⟩
        · exact hlength (by omega)
      · exact Nat.lt_of_not_le fun hlong => hshort ⟨htwo, hlong⟩

/-- The length byte stands as further bytes come. -/
theorem getD_one_append {ws : List Byte} (b : Byte) (h : 2 ≤ ws.length) : (ws ++ [b]).getD 1 0 = ws.getD 1 0 := by
  rw [List.getD_eq_getElem?_getD, List.getD_eq_getElem?_getD, List.getElem?_append_left (by omega)]

theorem takeByte_portsSound {s : State} (b : Byte) (hs : PortsSound s) : PortsSound (takeByte s b) := by
  unfold takeByte
  split
  · exact hs
  · next hready =>
    obtain ⟨hstarted, hlistening⟩ := not_or.1 hready
    refine addByte_portsSound hs (not_unstarted hstarted) (Bool.eq_false_iff.2 hlistening) (by simp) fun hlong => ?_
    cases hassembly : s.billing.assembly with
    | none => simp [hassembly] at hlong
    | some ws =>
      have htwo : 2 ≤ ws.length := by simp [hassembly] at hlong; omega
      obtain ⟨-, -, hassemblies, -⟩ := portsSound_iff.1 hs
      obtain ⟨-, -, hbounds⟩ := hassemblies ws hassembly
      exact (congrArg BitVec.toNat (getD_one_append b htwo)).le.trans (hbounds htwo).1

theorem foldl_takeByte_portsSound (bytes : List Byte) {s : State} (hs : PortsSound s) :
    PortsSound (bytes.foldl takeByte s) := foldl_keeps (fun _ b h => takeByte_portsSound b h) bytes hs

theorem takeFramingError_portsSound {s : State} (hs : PortsSound s) : PortsSound (takeFramingError s) := by
  unfold takeFramingError
  split
  · exact hs
  · split
    · next hstarted => exact discardFrame_portsSound _ hs hstarted
    · exact hs

theorem takeGap_portsSound {s : State} (hs : PortsSound s) : PortsSound (takeGap s) := by
  rw [portsSound_iff] at hs ⊢
  obtain ⟨hcontrol, hsending, -, hunstarted⟩ := hs
  refine ⟨hcontrol, hsending, nofun, fun h => ⟨(hunstarted h).1, ?_⟩⟩
  show ({ s.billing with assembly := none, ignoring := false } : BillingPort) = .fresh
  rw [(hunstarted h).2]
  rfl

/-- A port that is sending has started. -/
theorem PortsSound.started_of_sending {s : State} (hs : PortsSound s) {sent : List Byte}
    (hsent : s.billing.sending = some sent) : s.portsStarted = true := by
  obtain ⟨-, -, -, hunstarted⟩ := portsSound_iff.1 hs
  refine Bool.eq_true_of_not_eq_false fun h => ?_
  rw [(hunstarted h).2] at hsent
  exact absurd hsent (by nofun)

theorem endTransmission_portsSound {s : State} (hs : PortsSound s) : PortsSound (endTransmission s) := by
  unfold endTransmission
  split
  · exact hs
  · next sent hsent =>
    have hstarted := hs.started_of_sending hsent
    obtain ⟨hcontrol, ⟨hwaiting, -, hmark⟩, hassembly, -⟩ := portsSound_iff.1 hs
    dsimp only
    split
    · next hempty =>
      have hnil : s.billing.waiting = [] := hempty
      rw [portsSound_iff]
      refine ⟨hcontrol, ⟨hwaiting, fun _ => hnil, fun hstill => ?_⟩, hassembly,
        fun h => absurd (hstarted.symm.trans h) Bool.noConfusion⟩
      obtain ⟨hover, hunmarked⟩ := Bool.and_eq_true_iff.1
        (show (s.billing.overrun && !(sent.headD 0).getLsbD 7) = true from hstill)
      rcases hmark hover with hsome | ⟨other, hother, hcarries⟩
      · exact absurd hnil hsome
      · obtain rfl := Option.some.inj (hsent.symm.trans hother)
        rw [hcarries] at hunmarked
        exact absurd hunmarked (by decide)
    · next i rest hrest =>
      have hcons : s.billing.waiting = i :: rest := hrest
      rw [hcons] at hwaiting
      exact takeItem_portsSound i ⟨hcontrol, (Nat.le_succ _).trans hwaiting, hassembly, hstarted⟩

/-! ### Commands and steps -/

theorem billingFrame_portsSound (r : Request) {s : State} (hs : PortsSound s) : PortsSound (billingFrame r s) := by
  unfold billingFrame
  split
  · next hready => exact transmit_portsSound _ (answer_sendable .bp r (hs.sendable hready.1))
  · exact foldl_takeByte_portsSound _ hs

theorem takeRequest_portsSound (p : Port) (r : Request) {s : State} (hs : PortsSound s) :
    PortsSound (takeRequest p r s) := by
  cases p with
  | cp => exact controlRequest_portsSound r hs
  | bp => exact billingFrame_portsSound r hs

theorem completeStart_portsSound {s : State} (hs : PortsSound s) : PortsSound (completeStart s) := by
  unfold completeStart
  split
  · exact hs
  · exact portsSound_of_fresh rfl rfl rfl

theorem exec_portsSound {c : Instr} {s t : State} (h : exec c s = .next t) (hs : PortsSound s) : PortsSound t := by
  cases c <;> obtain rfl := Host.Outcome.next.inj h
  case powerOn => exact portsSound_of_fresh rfl rfl rfl
  case portStartComplete => exact completeStart_portsSound hs
  case resetAssertion =>
    obtain ⟨hbuffer, hoverrun, hbilling⟩ := warmReset_ports s
    exact portsSound_of_fresh hbuffer hoverrun hbilling
  case frameSync | dataWord | overdueExpiry | lostTimerExpiry | risingEdge | fallingEdge | captureOverflow | minuteEvent =>
    exact hs.of_same (by simp) (by simp) (by simp)
  case cpRequestTransaction bytes => exact requestTransaction_portsSound bytes hs
  case cpFetchTransaction n => exact fetchTransaction_portsSound n hs
  case bpByteReceived b => exact takeByte_portsSound b hs
  case bpFramingError => exact takeFramingError_portsSound hs
  case bpGapTimeout => exact takeGap_portsSound hs
  case bpTransmissionEnd => exact endTransmission_portsSound hs
  all_goals exact takeRequest_portsSound _ _ hs

theorem step_portsSound {s t : State} (h : step s = .next t) (hs : PortsSound s) : PortsSound t := by
  unfold step idle at h
  split at h
  · split at h
    · obtain rfl := Host.Outcome.next.inj h
      exact hs.of_same (by simp) (by simp) (by simp)
    · exact exec_portsSound h hs
    · exact exec_portsSound h hs
  · exact exec_portsSound h hs

/-- Settles O59: a step keeps the records of the Offer Monitor, the links and the ports sound. -/
theorem stepsKeepInterfacesSound : Obligations.StepsKeepInterfacesSound := by
  intro s t hsupply hmeter hports hstep
  refine ⟨step_keeps (fun hsame hs => ?_) Move.supplySound hstep hsupply,
    step_keeps (fun hsame hs => ?_) Move.meterSound hstep hmeter, step_portsSound hstep hports⟩
  · obtain ⟨_, _, _, _, _, _, _, rfl⟩ := hsame
    exact hs.of_supply rfl
  · obtain ⟨_, _, _, _, _, _, _, rfl⟩ := hsame
    exact hs.of_meter rfl

end Sys2Proof.Machine
end

section
/-! Power-on, the start of the ports and the permission table: the statements about the state after power-on, about
ports before their start, and about who may ask for what (R176, R179, R180). -/

namespace Sys2Proof.Machine

/-- Settles O1: the front command is executed on the state without it. -/
theorem stepTakesTheFrontCommand : Obligations.StepTakesTheFrontCommand := fun _ _ _ => rfl

/-! ### Power-on (R180) -/

/-- The state of power-on is what a POWER_ON leaves. -/
theorem powerOnState_reset : powerOnState State.reset = State.reset := rfl

@[simp] theorem reset_session (i : Fin 8) : State.reset.session i = .free := by simp [State.reset, State.session]
@[simp] theorem reset_account (a : Fin 16) : State.reset.account a = .free := by simp [State.reset, State.account]
@[simp] theorem reset_band (b : Fin 32) : State.reset.band b = .free := by
  simp [State.reset, State.band]
@[simp] theorem reset_chain (c : Fin 4) : State.reset.chain c = .empty := by simp [State.reset, State.chain]
@[simp] theorem reset_zone (z : Fin 6) : State.reset.zone z = .powerOn := by
  simp [State.reset, State.zone, HeatController.powerOn]
@[simp] theorem reset_fault (k : Fin 12) : State.reset.fault k = .powerOn := by
  simp [State.reset, State.fault, IsolationMonitor.powerOn]

theorem reset_energyBalanced : EnergyBalanced State.reset := fun i => by rw [reset_session]; rfl

theorem reset_noneAccrues : NoneAccrues State.reset := fun i => by rw [reset_session]; rfl

/-- Every invariant holds after power-on, because POWER_ON keeps or makes it. -/
theorem reset_invariants : PlannerSafe State.reset ∧ EnergyBalanced State.reset ∧ PlanSound State.reset ∧
    QueueExact State.reset ∧ OneHoldsInlet State.reset ∧ ReasonsFollow State.reset ∧ LedgerExact State.reset ∧
    LocksExact State.reset ∧ CalendarSound State.reset ∧ LocalizerSound State.reset ∧ SupplySound State.reset ∧
    MeterSound State.reset ∧ PortsSound State.reset := by
  obtain ⟨hqueue, ⟨hledger, hlocks⟩, hcalendar⟩ := powerOnState_reset ▸ powerOn_deskSound State.reset
  have hreasons : ReasonsFollow State.reset := fun i => by rw [reset_session]; rfl
  exact ⟨powerOnState_reset ▸ powerOnState_plannerSafe State.reset, reset_energyBalanced,
    powerOnState_reset ▸ powerOnState_planSound State.reset, hqueue, reset_noneAccrues.oneHoldsInlet, hreasons, hledger,
    hlocks, hcalendar, powerOnState_reset ▸ powerOn_localizerSound State.reset, fresh_supplySound rfl,
    fresh_meterSound rfl, portsSound_of_fresh rfl rfl rfl⟩

/-- Settles O60: the invariants as above, the records by their power-on values. -/
theorem resetMeetsTheInvariants : Obligations.ResetMeetsTheInvariants := by
  refine ⟨reset_invariants, reset_session, reset_account, reset_band, reset_chain, rfl, rfl, rfl, rfl, rfl, rfl, rfl,
    rfl, reset_zone, rfl, rfl, rfl, rfl, reset_fault, rfl, rfl, rfl, rfl⟩

/-! ### The ports before their start (R180) -/

section
variable {s : State}

theorem requestTransaction_unstarted (hoff : s.portsStarted = false) {bytes : List Byte} (hbytes : bytes ≠ []) :
    requestTransaction bytes s = shiftFillers bytes.length s := by
  cases bytes with
  | nil => exact absurd rfl hbytes
  | cons first rest => simp [requestTransaction, fetchTransaction, hoff]

theorem fetchTransaction_unstarted (hoff : s.portsStarted = false) {n : Nat} (hn : 1 ≤ n) :
    fetchTransaction n s = shiftFillers n s := by
  rw [fetchTransaction, if_neg (by omega), if_pos hoff]

theorem takeByte_unstarted (hoff : s.portsStarted = false) (b : Byte) : takeByte s b = s := if_pos (.inl hoff)

theorem takeFramingError_unstarted (hoff : s.portsStarted = false) : takeFramingError s = s := by
  unfold takeFramingError
  split
  · rfl
  · rw [hoff]; rfl

theorem lineActive_unstarted (hoff : s.portsStarted = false) (p : Port) : lineActive p s = false := by
  rw [lineActive, hoff, Bool.false_and]

end

/-- Settles O52: power-on by its definition, and the unstarted ports by the lemmas above. -/
theorem powerOnAndPortStart : Obligations.PowerOnAndPortStart := by
  refine ⟨fun s => rfl, fun s hoff => ⟨?_, fun bytes hbytes => ?_, fun n hn => ?_, fun b => ?_, ?_,
    lineActive_unstarted hoff _, lineActive_unstarted hoff _⟩, fun s hstarted => ?_⟩
  · simp [exec, execPortStartComplete, completeStart, hoff, State.setAttention, State.setControl, State.setBilling,
      State.setStarted]
  · exact congrArg Host.Outcome.next (requestTransaction_unstarted hoff hbytes)
  · exact congrArg Host.Outcome.next (fetchTransaction_unstarted hoff hn)
  · exact congrArg Host.Outcome.next (takeByte_unstarted hoff b)
  · exact congrArg Host.Outcome.next (takeFramingError_unstarted hoff)
  · exact congrArg Host.Outcome.next (if_pos hstarted)

/-! ### The permission table (R176) -/

/-- A port executes a request that it does not permit as DENIED, without effect. -/
theorem executes_denied {p : Port} {r : Request} {s : State} (hready : Ready p s) (hdenied : permitted p r = false) :
    Executes p r .denied [] s s := by
  have hanswer : answer p r s = refuse s .denied := if_neg (hdenied.trans_ne Bool.false_ne_true)
  have hexecutes := executes_answer hready r
  rw [hanswer] at hexecutes
  exact hexecutes

/-- The codes of the requests that a port refuses. -/
def refusedCodes : Port → List Nat
  | .cp => [1, 16, 17, 18, 19, 20, 21, 22, 32, 33, 34, 35]
  | .bp => [7, 8, 9, 10, 39, 40, 48, 49, 50, 51, 52, 80, 81, 84, 85, 120]

/-- The table and the codes say the same of each request. -/
theorem permitted_eq (p : Port) (r : Request) : permitted p r = !(refusedCodes p).contains r.code.toNat := by
  cases p <;> cases r <;> rfl

theorem permitted_eq_false_iff (p : Port) (r : Request) : permitted p r = false ↔ r.code.toNat ∈ refusedCodes p := by
  rw [permitted_eq, Bool.not_eq_false', List.contains_iff_mem]

/-- Settles O5: the table by its arms, the refusal by the reply of a port that does not permit a request. -/
theorem permissionTable : Obligations.PermissionTable :=
  ⟨permitted_eq_false_iff .cp, permitted_eq_false_iff .bp, fun _ _ _ hdenied hready => executes_denied hready hdenied⟩

end Sys2Proof.Machine
end

section
/-! Request frames (section 11.1): the frame of a request spells it, and what a frame that spells a request is. -/

namespace Sys2Proof.Machine

/-! ### The check byte -/

theorem byteSum_append (bs cs : List Byte) : byteSum (bs ++ cs) = cs.foldl (· + ·) (byteSum bs) := by
  rw [byteSum, List.foldl_append, ← byteSum]

/-- The check byte makes the sum 0. -/
theorem byteSum_withCheck (bs : List Byte) : byteSum (withCheck bs) = 0 := by
  rw [withCheck, byteSum_append]
  exact BitVec.add_right_neg (byteSum bs)

/-! ### Fields read where they were written -/

theorem join16 (w : BitVec 16) : w.extractLsb' 8 8 ++ w.extractLsb' 0 8 = w :=
  (BitVec.extractLsb'_append_extractLsb'_eq_extractLsb' rfl).trans (BitVec.extractLsb'_eq_self)

theorem join32 (w : BitVec 32) :
    (w.extractLsb' 24 8 ++ w.extractLsb' 16 8) ++ (w.extractLsb' 8 8 ++ w.extractLsb' 0 8) = w := by
  have hhigh : w.extractLsb' 24 8 ++ w.extractLsb' 16 8 = w.extractLsb' 16 16 :=
    BitVec.extractLsb'_append_extractLsb'_eq_extractLsb' rfl
  have hlow : w.extractLsb' 8 8 ++ w.extractLsb' 0 8 = w.extractLsb' 0 16 :=
    BitVec.extractLsb'_append_extractLsb'_eq_extractLsb' rfl
  rw [hhigh, hlow]
  exact (BitVec.extractLsb'_append_extractLsb'_eq_extractLsb' rfl).trans BitVec.extractLsb'_eq_self

theorem join40 (w : BitVec 40) : ((w.extractLsb' 32 8 ++ w.extractLsb' 24 8) ++
    (w.extractLsb' 16 8 ++ w.extractLsb' 8 8)) ++ w.extractLsb' 0 8 = w := by
  have hhigh : w.extractLsb' 32 8 ++ w.extractLsb' 24 8 = w.extractLsb' 24 16 :=
    BitVec.extractLsb'_append_extractLsb'_eq_extractLsb' rfl
  have hlow : w.extractLsb' 16 8 ++ w.extractLsb' 8 8 = w.extractLsb' 8 16 :=
    BitVec.extractLsb'_append_extractLsb'_eq_extractLsb' rfl
  have hupper : w.extractLsb' 24 16 ++ w.extractLsb' 8 16 = w.extractLsb' 8 32 :=
    BitVec.extractLsb'_append_extractLsb'_eq_extractLsb' rfl
  rw [hhigh, hlow, hupper]
  exact (BitVec.extractLsb'_append_extractLsb'_eq_extractLsb' rfl).trans BitVec.extractLsb'_eq_self

theorem presence_first (first second : Bool) : (presence first second).getLsbD 0 = first := by
  cases first <;> cases second <;> decide

theorem presence_second (first second : Bool) : (presence first second).getLsbD 1 = second := by
  cases first <;> cases second <;> decide

/-- An optional field is read as it was written. -/
theorem optional_getD {α : Type} (v : Option α) (d : α) : optional v.isSome (v.getD d) = v := by cases v <;> rfl

/-! ### The entries of an admission table -/

/-- The six bytes of an entry. -/
def entryParams (e : AdmissionOperand) : List Byte := bytes16 e.threshold ++ bytes32 e.limit

/-- The bytes of entry `k` stand after those of the entries before it. -/
theorem flatMap_entryParams_getD {j : Nat} (hj : j < 6) (l : List AdmissionOperand) (k : Nat) (hk : k < l.length) :
    (l.flatMap entryParams).getD (6 * k + j) 0 = (entryParams l[k]).getD j 0 := by
  induction l generalizing k with
  | nil => exact absurd hk (Nat.not_lt_zero k)
  | cons e rest ih =>
    have hlength : (entryParams e).length = 6 := rfl
    rw [List.flatMap_cons]
    cases k with
    | zero => rw [Nat.mul_zero, Nat.zero_add, List.getD_append _ _ _ _ (hlength ▸ hj), List.getElem_cons_zero]
    | succ k =>
      rw [List.getD_append_right _ _ _ _ (by omega), show 6 * (k + 1) + j - (entryParams e).length = 6 * k + j by omega]
      exact ih k (Nat.lt_of_succ_lt_succ hk)

theorem readEntry_params (count : Byte) (entries : Vector AdmissionOperand 8) (k : Fin 8) :
    readEntry (count :: entries.toList.flatMap entryParams) k.val = entries[k] := by
  have hread (j : Nat) (hj : j < 6) : read8 (count :: entries.toList.flatMap entryParams) (6 * k.val + j + 1) =
      (entryParams entries[k]).getD j 0 := by
    have hk : k.val < entries.toList.length := by rw [Vector.length_toList]; exact k.isLt
    rw [read8, List.getD_cons_succ, flatMap_entryParams_getD hj _ k.val hk]
    rfl
  have hthreshold : read16 (count :: entries.toList.flatMap entryParams) (1 + 6 * k.val) = entries[k].threshold := by
    rw [read16, show 1 + 6 * k.val = 6 * k.val + 0 + 1 by omega, hread 0 (by omega), hread 1 (by omega)]
    exact join16 _
  have hlimit : read32 (count :: entries.toList.flatMap entryParams) (3 + 6 * k.val) = entries[k].limit := by
    rw [read32, read16, read16, show 3 + 6 * k.val = 6 * k.val + 2 + 1 by omega, hread 2 (by omega), hread 3 (by omega),
      hread 4 (by omega), hread 5 (by omega)]
    exact join32 _
  rw [readEntry, hthreshold, hlimit]

theorem flatMap_entryParams_length (l : List AdmissionOperand) : (l.flatMap entryParams).length = 6 * l.length := by
  induction l with
  | nil => rfl
  | cons e rest ih =>
    have hlength : (entryParams e).length = 6 := rfl
    rw [List.flatMap_cons, List.length_append, ih, List.length_cons, hlength]
    omega

/-! ### A request's parameters -/

/-- Each request takes the number of parameters its code gives. -/
theorem paramLength_code (r : Request) : paramLength r.code = some r.params.length := by
  cases r with
  | setAdmission count entries =>
    have hlength : (entries.toList.flatMap entryParams).length = 48 := by
      rw [flatMap_entryParams_length, Vector.length_toList]
    exact congrArg (fun n => some (n + 1)) hlength.symm
  | _ => rfl

theorem params_length_le (r : Request) : r.params.length ≤ 60 := by
  cases r with
  | setAdmission count entries =>
    have hlength : (entries.toList.flatMap entryParams).length = 48 := by
      rw [flatMap_entryParams_length, Vector.length_toList]
    exact (congrArg (· + 1) hlength).le.trans (by decide)
  | _ => exact of_decide_eq_true rfl

theorem readRequest_authorize (charge : Byte) (heat : Option Byte) (chain : Byte) (target : Option (BitVec 32)) :
    readRequest 1 (Request.authorize charge heat chain target).params = some (.authorize charge heat chain target) := by
  have hheat : optional ((presence heat.isSome target.isSome).getLsbD 0) (heat.getD 0) = heat := by
    rw [presence_first, optional_getD]
  have htarget : optional ((presence heat.isSome target.isSome).getLsbD 1) (target.getD 0) = target := by
    rw [presence_second, optional_getD]
  refine congrArg₂ (fun h t => some (Request.authorize charge h chain t)) hheat ?_
  exact (congrArg (optional _) (join32 _)).trans htarget

theorem readRequest_openAccount (id : BitVec 32) (kind : Byte) (balance limit holdStep : BitVec 40) :
    readRequest 16 (Request.openAccount id kind balance limit holdStep).params =
      some (.openAccount id kind balance limit holdStep) := by
  generalize hps : (Request.openAccount id kind balance limit holdStep).params = ps
  have hid : read32 ps 0 = id := hps ▸ join32 id
  have hkind : read8 ps 4 = kind := hps ▸ rfl
  have hbalance : read40 ps 5 = balance := hps ▸ join40 balance
  have hlimit : read40 ps 10 = limit := hps ▸ join40 limit
  have hstep : read40 ps 15 = holdStep := hps ▸ join40 holdStep
  have hread : readRequest 16 ps =
    some (.openAccount (read32 ps 0) (read8 ps 4) (read40 ps 5) (read40 ps 10) (read40 ps 15)) := rfl
  rw [hread, hid, hkind, hbalance, hlimit, hstep]

theorem readRequest_writeBand (band chain next : Byte) (start chargeRate heatRate occupancyRate : BitVec 16)
    (cap : Option (BitVec 32)) :
    readRequest 32 (Request.writeBand band chain start chargeRate heatRate occupancyRate cap next).params =
      some (.writeBand band chain start chargeRate heatRate occupancyRate cap next) := by
  generalize hps : (Request.writeBand band chain start chargeRate heatRate occupancyRate cap next).params = ps
  have hmask : read8 ps 0 = presence cap.isSome false := hps ▸ rfl
  have hband : read8 ps 1 = band := hps ▸ rfl
  have hchain : read8 ps 2 = chain := hps ▸ rfl
  have hstart : read16 ps 3 = start := hps ▸ join16 start
  have hcharge : read16 ps 5 = chargeRate := hps ▸ join16 chargeRate
  have hheat : read16 ps 7 = heatRate := hps ▸ join16 heatRate
  have hoccupancy : read16 ps 9 = occupancyRate := hps ▸ join16 occupancyRate
  have hcap : read32 ps 11 = cap.getD 0 := hps ▸ join32 _
  have hnext : read8 ps 15 = next := hps ▸ rfl
  have hread : readRequest 32 ps = some (.writeBand (read8 ps 1) (read8 ps 2) (read16 ps 3) (read16 ps 5) (read16 ps 7)
      (read16 ps 9) (optional ((read8 ps 0).getLsbD 0) (read32 ps 11)) (read8 ps 15)) := rfl
  rw [hread, hmask, hband, hchain, hstart, hcharge, hheat, hoccupancy, hcap, hnext, presence_first, optional_getD]

/-- The parameters of a request are read as the request. -/
theorem readRequest_params (r : Request) : readRequest r.code r.params = some r := by
  cases r with
  | authorize charge heat chain target =>
    exact readRequest_authorize charge heat chain target
  | cancel slot serial => exact congrArg (fun w => some (Request.cancel slot w)) (join16 serial)
  | stop slot serial => exact congrArg (fun w => some (Request.stop slot w)) (join16 serial)
  | collect slot serial => exact congrArg (fun w => some (Request.collect slot w)) (join16 serial)
  | release slot serial => exact congrArg (fun w => some (Request.release slot w)) (join16 serial)
  | pause slot serial => exact congrArg (fun w => some (Request.pause slot w)) (join16 serial)
  | resume slot serial => exact congrArg (fun w => some (Request.resume slot w)) (join16 serial)
  | markComplete slot serial => exact congrArg (fun w => some (Request.markComplete slot w)) (join16 serial)
  | setTarget slot serial target =>
    exact congrArg₂ (fun w t => some (Request.setTarget slot w t)) (join16 serial) (join32 target)
  | openAccount id kind balance limit holdStep =>
    exact readRequest_openAccount id kind balance limit holdStep
  | adjust index id amount => exact congrArg₂ (fun w v => some (Request.adjust index w v)) (join32 id) (join40 amount)
  | setLimit index id limit => exact congrArg₂ (fun w v => some (Request.setLimit index w v)) (join32 id) (join40 limit)
  | setStep index id step => exact congrArg₂ (fun w v => some (Request.setStep index w v)) (join32 id) (join40 step)
  | block index id => exact congrArg (fun w => some (Request.block index w)) (join32 id)
  | unblock index id => exact congrArg (fun w => some (Request.unblock index w)) (join32 id)
  | closeAccount index id => exact congrArg (fun w => some (Request.closeAccount index w)) (join32 id)
  | writeBand band chain start chargeRate heatRate occupancyRate cap next =>
    exact readRequest_writeBand band chain next start chargeRate heatRate occupancyRate cap
  | sealChain chain id => exact congrArg (fun w => some (Request.sealChain chain w)) (join32 id)
  | unsealChain chain id => exact congrArg (fun w => some (Request.unsealChain chain w)) (join32 id)
  | setCalendar minute => exact congrArg (fun w => some (Request.setCalendar w)) (join16 minute)
  | setLifetime minutes => exact congrArg (fun w => some (Request.setLifetime w)) (join16 minutes)
  | setZone zone mode target rated =>
    exact congrArg₂ (fun t w => some (Request.setZone zone mode t w)) (join16 target) (join32 rated)
  | setAdmission count entries =>
    refine congrArg (fun v => some (Request.setAdmission count v)) (Vector.ext fun k hk => ?_)
    rw [Vector.getElem_ofFn]
    exact readEntry_params count entries ⟨k, hk⟩
  | setHeating share budget preheat =>
    exact congrArg₂ (fun w t => some (Request.setHeating share w t)) (join32 budget) (join16 preheat)
  | testFaults mask filter => exact congrArg (fun w => some (Request.testFaults w filter)) (join16 mask)
  | setAttention mask => exact congrArg (fun w => some (Request.setAttention w)) (join16 mask)
  | clearAttention mask => exact congrArg (fun w => some (Request.clearAttention w)) (join16 mask)
  | _ => rfl

/-! ### A request's frame -/

theorem parseRequest_params (r : Request) : parseRequest r.code r.params = some r := by
  rw [parseRequest, if_pos (paramLength_code r), readRequest_params]

theorem lengthByte_toNat (r : Request) : (BitVec.ofNat 8 r.params.length).toNat = r.params.length := by
  rw [BitVec.toNat_ofNat]
  exact Nat.mod_eq_of_lt ((params_length_le r).trans_lt (by decide))

/-- Code, length, parameters and check byte. -/
theorem frame_eq (r : Request) : ∃ check,
    r.frame = r.code :: BitVec.ofNat 8 r.params.length :: (r.params ++ [check]) := ⟨_, rfl⟩

/-- The frame of a request spells the request. -/
theorem parseFrame_frame (r : Request) : parseFrame r.frame = some r := by
  obtain ⟨check, hframe⟩ := frame_eq r
  have hsum : byteSum r.frame = 0 := byteSum_withCheck _
  rw [hframe] at hsum ⊢
  rw [parseFrame, if_pos ⟨by rw [lengthByte_toNat, List.length_append]; rfl, hsum⟩, List.dropLast_concat,
    parseRequest_params]

/-- Settles O2: code, length and parameters are read as they were written, and the check byte makes the sum 0. -/
theorem requestFramesRoundTrip : Obligations.RequestFramesRoundTrip := fun r =>
  ⟨parseFrame_frame r, byteSum_withCheck _, frame_length r, params_length_le r⟩

/-! ### What spells a request -/

/-- Known codes are the ones whose parameters are read. -/
theorem readRequest_isSome (code : Byte) (ps : List Byte) : (readRequest code ps).isSome = (paramLength code).isSome := by
  unfold paramLength
  split
  all_goals next hcode => simp only [readRequest, hcode, Option.isSome_some, Option.isSome_none]

theorem readRequest_code {code : Byte} {ps : List Byte} {r : Request} (h : readRequest code ps = some r) :
    r.code = code := by
  unfold readRequest at h
  split at h
  all_goals cases h
  all_goals next hcode => exact BitVec.eq_of_toNat_eq hcode.symm

theorem parseRequest_isSome_iff {code : Byte} {ps : List Byte} :
    (parseRequest code ps).isSome = true ↔ paramLength code = some ps.length := by
  unfold parseRequest
  split
  · next hlength => rw [readRequest_isSome, hlength]; exact iff_of_true rfl rfl
  · next hlength => exact iff_of_false Bool.false_ne_true hlength

/-- Bytes spell a request where their count, their sum, their code and their length are right (R170, R171). -/
theorem parseFrame_isSome_iff (bytes : List Byte) : (parseFrame bytes).isSome = true ↔
    3 ≤ bytes.length ∧ bytes.length = (bytes.getD 1 0).toNat + 3 ∧ byteSum bytes = 0 ∧
    paramLength (bytes.getD 0 0) = some (bytes.getD 1 0).toNat := by
  match bytes with
  | [] => exact iff_of_false Bool.false_ne_true fun h => absurd h.1 (by decide)
  | [_] => exact iff_of_false Bool.false_ne_true fun h => absurd h.1 (Nat.not_succ_le_self 2 ∘ (·.trans (by simp)))
  | code :: len :: rest =>
    have hcode : (code :: len :: rest).getD 0 0 = code := rfl
    have hlen : (code :: len :: rest).getD 1 0 = len := rfl
    rw [hcode, hlen, parseFrame, List.length_cons, List.length_cons]
    split
    · next hgood =>
      obtain ⟨hcount, hsum⟩ := hgood
      rw [parseRequest_isSome_iff, List.length_dropLast, hcount, Nat.add_sub_cancel]
      exact ⟨fun h => ⟨by omega, by omega, hsum, h⟩, fun h => h.2.2.2⟩
    · next hbad =>
      refine iff_of_false Bool.false_ne_true fun ⟨_, hcount, hsum, _⟩ => hbad ⟨by omega, hsum⟩

/-- A frame that spells a request is as long as the request's own. -/
theorem parseFrame_length {bytes : List Byte} {r : Request} (h : parseFrame bytes = some r) :
    bytes.length = r.frame.length := by
  obtain ⟨-, hcount, -, hlength⟩ := (parseFrame_isSome_iff bytes).1 (by rw [h]; rfl)
  have hcode : r.code = bytes.getD 0 0 := by
    match bytes with
    | code :: len :: rest =>
      rw [parseFrame] at h
      split at h
      · rw [parseRequest] at h
        split at h
        · exact readRequest_code h
        · cases h
      · cases h
  rw [← hcode, paramLength_code] at hlength
  rw [frame_length, hcount, Option.some.inj hlength]

end Sys2Proof.Machine
end

section
/-! The ports' statements: request commands and their frames, transactions on the Control Port, assembly, list and
transmission on the Billing Port, and the layouts of responses and records (R171 to R174, section 11.4). -/

namespace Sys2Proof.Machine

/-! ### The Control Port (R171, R172) -/

theorem code_ne_zero (r : Request) : r.code ≠ 0 := by cases r <;> exact of_decide_eq_true rfl

section
variable {s : State} {bytes : List Byte}

/-- A transaction that begins with another byte than the fetch code is a request transaction. -/
theorem requestTransaction_of_head (hbytes : bytes ≠ []) (hhead : bytes.head? ≠ some 0) :
    requestTransaction bytes s =
      if s.portsStarted = false then shiftFillers bytes.length s
      else if s.control.buffer.isSome then shiftFillers bytes.length (markOverrun s)
      else shiftFillers bytes.length (controlFrame bytes s) := by
  cases bytes with
  | nil => exact absurd rfl hbytes
  | cons first rest =>
    have hfirst : first ≠ 0 := fun h => hhead (congrArg some h)
    rw [requestTransaction, if_neg hfirst]

theorem requestTransaction_held (hbytes : bytes ≠ []) (hhead : bytes.head? ≠ some 0) (hstarted : s.portsStarted = true)
    (hheld : s.control.buffer.isSome = true) :
    requestTransaction bytes s = shiftFillers bytes.length (markOverrun s) := by
  rw [requestTransaction_of_head hbytes hhead, if_neg (by simp [hstarted]), if_pos hheld]

theorem requestTransaction_empty (hbytes : bytes ≠ []) (hhead : bytes.head? ≠ some 0) (hstarted : s.portsStarted = true)
    (hempty : s.control.buffer = none) :
    requestTransaction bytes s = shiftFillers bytes.length (controlFrame bytes s) := by
  rw [requestTransaction_of_head hbytes hhead, if_neg (by simp [hstarted]), if_neg (by simp [hempty])]

theorem controlFrame_malformed (hbad : parseFrame bytes = none) :
    controlFrame bytes s = placeResponse (malformedResponse (bytes.headD 0)) s := by
  rw [controlFrame, hbad]

theorem controlFrame_request {r : Request} (hgood : parseFrame bytes = some r) :
    controlFrame bytes s = placeResponse (responseTo .cp r s) (answer .cp r s).state := by
  rw [controlFrame, hgood]

/-- The transaction of bytes that spell a request is the request's arrival. -/
theorem requestTransaction_spells {r : Request} (hhead : bytes.head? ≠ some 0) (hgood : parseFrame bytes = some r) :
    requestTransaction bytes s = controlRequest r s := by
  have hbytes : bytes ≠ [] := by rintro rfl; cases hgood
  rw [requestTransaction_of_head hbytes hhead, controlRequest, controlFrame_request hgood, parseFrame_length hgood]

end

theorem frame_head (r : Request) : r.frame.head? ≠ some 0 := fun h => code_ne_zero r (Option.some.inj h)

theorem requestTransaction_frame (r : Request) (s : State) : requestTransaction r.frame s = controlRequest r s :=
  requestTransaction_spells (frame_head r) (parseFrame_frame r)

section
variable {s : State} {n : Nat}

theorem fetchTransaction_started (hn : 1 ≤ n) (hstarted : s.portsStarted = true) : fetchTransaction n s =
    s.setControl (if fetchCompletes n s.control
      then { s.control with shifted := fetchedBytes n s.control, buffer := none, overrun := false }
      else { s.control with shifted := fetchedBytes n s.control }) := by
  rw [fetchTransaction, if_neg (by omega), if_neg (by simp [hstarted])]

/-- The bytes beyond the ones clocked out are not seen. -/
theorem take_append_replicate {l : List Byte} {k m : Nat} (b : Byte) (hk : n ≤ l.length + k) (hm : n ≤ l.length + m) :
    (l ++ List.replicate k b).take n = (l ++ List.replicate m b).take n := by
  rw [List.take_append, List.take_append, List.take_replicate, List.take_replicate,
    Nat.min_eq_left (by omega), Nat.min_eq_left (by omega)]

theorem fetchedBytes_empty (hempty : s.control.buffer = none) :
    fetchedBytes n s.control = ([0xFF, 0xFE] ++ List.replicate n (0xFF : Byte)).take n := by
  rw [fetchedBytes, hempty]
  exact take_append_replicate _ (by simp; omega) (by simp)

theorem fetchedBytes_held {r : Response} (hheld : s.control.buffer = some r) : fetchedBytes n s.control =
    ([0xFF] ++ r.frame s.control.overrun ++ List.replicate n (0xFF : Byte)).take n := by
  rw [fetchedBytes, hheld]
  exact take_append_replicate _ (by simp; omega) (by simp)

theorem fetchCompletes_held {r : Response} (hheld : s.control.buffer = some r) :
    fetchCompletes n s.control = decide ((r.frame s.control.overrun).length + 1 ≤ n) := by
  rw [fetchCompletes, hheld]
  exact decide_eq_decide.2 Nat.lt_iff_add_one_le

theorem fetchTransaction_empty (hn : 1 ≤ n) (hstarted : s.portsStarted = true) (hempty : s.control.buffer = none) :
    fetchTransaction n s = { s with
      control := { s.control with shifted := ([0xFF, 0xFE] ++ List.replicate n (0xFF : Byte)).take n } } := by
  have hnever : fetchCompletes n s.control = false := by rw [fetchCompletes, hempty]
  rw [fetchTransaction_started hn hstarted, hnever, fetchedBytes_empty hempty]
  rfl

theorem fetchTransaction_held {r : Response} (hn : 1 ≤ n) (hstarted : s.portsStarted = true)
    (hheld : s.control.buffer = some r) : fetchTransaction n s = { s with control :=
      { shifted := ([0xFF] ++ r.frame s.control.overrun ++ List.replicate n (0xFF : Byte)).take n
        buffer := if (r.frame s.control.overrun).length + 1 ≤ n then none else some r
        overrun := if (r.frame s.control.overrun).length + 1 ≤ n then false else s.control.overrun } } := by
  rw [fetchTransaction_started hn hstarted, fetchCompletes_held hheld, fetchedBytes_held hheld]
  by_cases hall : (r.frame s.control.overrun).length + 1 ≤ n
  · simp only [decide_eq_true hall, if_pos hall]
    rfl
  · simp only [decide_eq_false hall, if_neg hall, Bool.false_eq_true, if_false, ← hheld]
    rfl

end

/-- Settles O6: the request transaction by what the buffer holds and what the bytes spell, the fetch by the buffer. -/
theorem controlPortTransactions : Obligations.ControlPortTransactions := by
  refine ⟨fun s => rfl, fun bytes s hbytes hhead hstarted => ⟨fun hheld => ?_, fun hempty hbad => ?_,
    fun r _ hgood => ?_⟩, parseFrame_isSome_iff, fun n s hn hstarted => ⟨fun hempty => ?_, fun r hheld => ?_⟩⟩
  · exact congrArg Host.Outcome.next (requestTransaction_held hbytes hhead hstarted hheld)
  · refine congrArg Host.Outcome.next ((requestTransaction_empty hbytes hhead hstarted hempty).trans ?_)
    rw [controlFrame_malformed hbad]
    rfl
  · rw [exec_command]
    exact congrArg Host.Outcome.next (requestTransaction_spells hhead hgood)
  · exact congrArg Host.Outcome.next (fetchTransaction_empty hn hstarted hempty)
  · exact congrArg Host.Outcome.next (fetchTransaction_held hn hstarted hheld)

/-! ### The Billing Port: assembly (R173) -/

section
variable {s : State} {b : Byte} {ws : List Byte}

theorem takeByte_ignoring (hignoring : s.billing.ignoring = true) : takeByte s b = s := if_pos (.inr hignoring)

theorem takeByte_listening (hstarted : s.portsStarted = true) (hlistening : s.billing.ignoring = false)
    (hws : s.billing.assembly.getD [] ++ [b] = ws) : takeByte s b = addByte ws s := by
  rw [takeByte, if_neg (by simp [hstarted, hlistening]), hws]

/-- The length byte of a frame is its second. -/
theorem lengthByte_of_second {pre : List Byte} (hws : pre ++ [b] = ws) (hlength : ws.length = 2) : ws.getD 1 0 = b := by
  match pre, hws with
  | [first], hws => rw [← hws]; rfl
  | [], hws => subst hws; simp at hlength
  | _ :: _ :: _, hws => subst hws; simp at hlength

/-- A byte that neither completes the frame nor makes its length too great is added to it. -/
theorem addByte_short (hshort : ws.length ≤ 1 ∨ (ws.length = 2 ∧ (ws.getD 1 0).toNat ≤ 60) ∨
    (3 ≤ ws.length ∧ ws.length < (ws.getD 1 0).toNat + 3)) :
    addByte ws s = { s with billing := { s.billing with assembly := some ws } } := by
  rw [addByte, if_neg (by omega), if_neg (by omega)]
  rfl

theorem addByte_long (hlength : ws.length = 2) (hlong : 60 < (ws.getD 1 0).toNat) : addByte ws s = discardFrame ws s :=
  if_pos ⟨hlength, hlong⟩

theorem addByte_complete (hlength : 3 ≤ ws.length) (hcomplete : (ws.getD 1 0).toNat + 3 ≤ ws.length) : addByte ws s =
    completeItem (.frame ws) { s with billing := { s.billing with assembly := none } } := by
  rw [addByte, if_neg (by omega), if_pos (by omega)]
  rfl

end

/-- Settles O7: a byte by what the port has of the frame, a framing error by whether a frame assembles. -/
theorem billingPortAssembly : Obligations.BillingPortAssembly := by
  refine ⟨fun b s _ hignoring => congrArg Host.Outcome.next (takeByte_ignoring hignoring),
    fun b ws s hstarted hlistening hws => ?_, fun s hstarted => ⟨fun hidle => ?_, fun ws hassembling => ?_⟩, fun s => rfl⟩
  · have htake : exec (.bpByteReceived b) s = .next (addByte ws s) :=
      congrArg Host.Outcome.next (takeByte_listening hstarted hlistening hws)
    rw [htake]
    refine ⟨fun hshort => congrArg Host.Outcome.next (addByte_short ?_), fun hlength hlong => ?_,
      fun hlength hcomplete => congrArg Host.Outcome.next (addByte_complete hlength hcomplete)⟩
    · exact hshort.imp_right (Or.imp_left fun h => ⟨h.1, by rw [lengthByte_of_second hws h.1]; exact h.2⟩)
    · exact congrArg Host.Outcome.next (addByte_long hlength (by rwa [lengthByte_of_second hws hlength]))
  · exact congrArg Host.Outcome.next (by rw [takeFramingError, hidle])
  · refine congrArg Host.Outcome.next ?_
    rw [takeFramingError, hassembling]
    exact if_pos hstarted

/-! ### The Billing Port: list and transmission (R174) -/

section
variable {s : State} (i : BillingItem)

theorem completeItem_idle (hidle : s.billing.sending = none) : completeItem i s = takeItem i s := by
  rw [completeItem, hidle]

theorem completeItem_sending (hsending : s.billing.sending ≠ none) : completeItem i s =
    if s.billing.waiting.length < 4 then s.setBilling { s.billing with waiting := s.billing.waiting ++ [i] }
    else s.setBilling { s.billing with overrun := true } := by
  cases hsent : s.billing.sending with
  | none => exact absurd hsent hsending
  | some sent => rw [completeItem, hsent]

theorem takeItem_bad {bytes : List Byte} (hbad : parseFrame bytes = none) :
    takeItem (.frame bytes) s = takeItem (.malformed (bytes.headD 0)) s := by
  simp only [takeItem, hbad]

theorem takeItem_request {bytes : List Byte} {r : Request} (hgood : parseFrame bytes = some r) :
    takeItem (.frame bytes) s = billingRequest r s := by
  simp only [takeItem, hgood]

theorem endTransmission_idle (hidle : s.billing.sending = none) : endTransmission s = s := by
  rw [endTransmission, hidle]

theorem endTransmission_empty {sent : List Byte} (hsent : s.billing.sending = some sent)
    (hempty : s.billing.waiting = []) : endTransmission s = s.setBilling (s.billing.sentResponse sent) := by
  have hstill : (s.setBilling (s.billing.sentResponse sent)).billing.waiting = [] := hempty
  simp only [endTransmission, hsent, hstill]

theorem endTransmission_next {sent : List Byte} {rest : List BillingItem} (hsent : s.billing.sending = some sent)
    (hwaiting : s.billing.waiting = i :: rest) : endTransmission s =
      takeItem i (s.setBilling { s.billing.sentResponse sent with waiting := rest }) := by
  have hstill : (s.setBilling (s.billing.sentResponse sent)).billing.waiting = i :: rest := hwaiting
  simp only [endTransmission, hsent, hstill]
  rfl

end

/-- Settles O8: an item by what goes out, its taking by what it spells, the end of a transmission by what waits. -/
theorem billingPortListAndTransmission : Obligations.BillingPortListAndTransmission := by
  refine ⟨fun i s => ⟨completeItem_idle i, fun hsending hroom => ?_, fun hsending hfull => ?_⟩, fun echo s => rfl,
    fun bytes s => ⟨takeItem_bad, fun r hgood => ⟨_, rfl, takeItem_request hgood⟩⟩,
    fun s hidle => congrArg Host.Outcome.next (endTransmission_idle hidle),
    fun s sent hsent => ⟨fun hempty => congrArg Host.Outcome.next (endTransmission_empty hsent hempty),
      fun i rest hwaiting => congrArg Host.Outcome.next (endTransmission_next i hsent hwaiting)⟩⟩
  · exact (completeItem_sending i hsending).trans (if_pos hroom)
  · exact (completeItem_sending i hsending).trans (if_neg hfull.not_gt)

/-! ### A request's bytes on the Billing Port (log 19) -/

/-- The length byte stands in every beginning of a frame that reaches it. -/
theorem take_lengthByte (r : Request) {k : Nat} (hk : 2 ≤ k) : ((r.frame.take k).getD 1 0).toNat = r.params.length := by
  have hsecond : (r.frame.take k).getD 1 0 = BitVec.ofNat 8 r.params.length := by
    obtain ⟨check, hframe⟩ := frame_eq r
    obtain ⟨m, rfl⟩ := Nat.exists_eq_add_of_le' hk
    rw [hframe]
    rfl
  rw [hsecond, lengthByte_toNat]

theorem frame_take_length (r : Request) {k : Nat} (hk : k < r.frame.length) : (r.frame.take k).length = k := by
  rw [List.length_take, Nat.min_eq_left hk.le]

/-- A beginning of a frame is short of its end. -/
theorem take_short (r : Request) {k : Nat} (hk : k < r.frame.length) : (r.frame.take k).length ≤ 1 ∨
    ((r.frame.take k).length = 2 ∧ ((r.frame.take k).getD 1 0).toNat ≤ 60) ∨
    (3 ≤ (r.frame.take k).length ∧ (r.frame.take k).length < ((r.frame.take k).getD 1 0).toNat + 3) := by
  rw [frame_take_length r hk]
  rw [frame_length] at hk
  rcases Nat.lt_or_ge k 2 with hone | htwo
  · exact .inl (Nat.le_of_lt_succ hone)
  · have hbound := params_length_le r
    rw [take_lengthByte r htwo]
    omega

section
variable {s : State} (r : Request)

/-- While the bytes of a frame come in, the frame assembles. -/
theorem foldl_takeByte_take (hready : Ready .bp s) {k : Nat} (hk : k < r.frame.length) : ∃ assembly,
    (r.frame.take k).foldl takeByte s = { s with billing := { s.billing with assembly := assembly } } ∧
    assembly.getD [] = r.frame.take k := by
  obtain ⟨hstarted, hlistening, hidle, -⟩ := hready
  induction k with
  | zero => exact ⟨s.billing.assembly, rfl, by rw [hidle]; rfl⟩
  | succ k ih =>
    obtain ⟨assembly, hfold, hbytes⟩ := ih (Nat.lt_of_succ_lt hk)
    have hnext : r.frame.take (k + 1) = r.frame.take k ++ [r.frame[k]] := (List.take_concat_get' _ _ _).symm
    refine ⟨some (r.frame.take (k + 1)), ?_, rfl⟩
    have htake : takeByte { s with billing := { s.billing with assembly := assembly } } r.frame[k] =
        addByte (r.frame.take (k + 1)) { s with billing := { s.billing with assembly := assembly } } :=
      takeByte_listening hstarted hlistening (hnext ▸ congrArg (· ++ [r.frame[k]]) hbytes)
    have hfoldNext : (r.frame.take (k + 1)).foldl takeByte s = takeByte ((r.frame.take k).foldl takeByte s) r.frame[k] := by
      rw [hnext, List.foldl_append]
      rfl
    rw [hfoldNext, hfold, htake, addByte_short (take_short r hk)]

/-- The last byte of a frame completes it: the request is taken. -/
theorem foldl_takeByte_frame (hready : Ready .bp s) : r.frame.foldl takeByte s = billingRequest r s := by
  have hlength := frame_length r
  have hlast : r.frame.length - 1 < r.frame.length := by omega
  obtain ⟨assembly, hfold, hbytes⟩ := foldl_takeByte_take r hready hlast
  obtain ⟨hstarted, hlistening, hidle, hsilent⟩ := hready
  have hwhole : r.frame = r.frame.take (r.frame.length - 1) ++ [r.frame[r.frame.length - 1]] := by
    rw [List.take_concat_get', Nat.sub_add_cancel (by omega), List.take_length]
  have htake : takeByte { s with billing := { s.billing with assembly := assembly } } r.frame[r.frame.length - 1] =
      addByte r.frame { s with billing := { s.billing with assembly := assembly } } :=
    takeByte_listening hstarted hlistening (hbytes ▸ hwhole.symm)
  have hfoldAll : r.frame.foldl takeByte s =
      takeByte ((r.frame.take (r.frame.length - 1)).foldl takeByte s) r.frame[r.frame.length - 1] := by
    conv_lhs => rw [hwhole]
    rw [List.foldl_append]
    rfl
  have hempty : { s with billing := { s.billing with assembly := none } } = s := by rw [← hidle]
  have hcomplete : (r.frame.getD 1 0).toNat + 3 ≤ r.frame.length := by
    rw [hlength]
    exact (congrArg (· + 3) (lengthByte_toNat r)).le
  rw [hfoldAll, hfold, htake, addByte_complete (by omega) hcomplete]
  refine (congrArg (completeItem (.frame r.frame)) hempty).trans ?_
  rw [completeItem_idle _ hsilent, takeItem_request (parseFrame_frame r)]

/-- A request on the Billing Port is the arrival of its frame's bytes. -/
theorem billingFrame_eq (s : State) : billingFrame r s = r.frame.foldl takeByte s := by
  unfold billingFrame
  split
  · next hready => exact (foldl_takeByte_frame r hready).symm
  · rfl

end

/-- Settles O3: the frame spells the request, and its bytes arrive as one transaction or one by one. -/
theorem requestCommandIsItsFrame : Obligations.RequestCommandIsItsFrame := by
  intro r s
  refine ⟨?_, ?_, fun b => rfl⟩
  · rw [exec_command]
    exact congrArg Host.Outcome.next (requestTransaction_frame r s).symm
  · rw [exec_command]
    exact congrArg Host.Outcome.next (billingFrame_eq r s)

/-! ### Layouts (section 11.4) -/

/-- The fields of a concatenation with the places at which they begin. -/
def placed : Nat → List (List Byte) → List (Nat × List Byte)
  | _, [] => []
  | n, field :: rest => (n, field) :: placed (n + field.length) rest

theorem le_of_mem_placed {n : Nat} {fields : List (List Byte)} {f : Nat × List Byte} (h : f ∈ placed n fields) :
    n ≤ f.1 := by
  induction fields generalizing n with
  | nil => cases h
  | cons field rest ih =>
    rcases List.mem_cons.1 h with rfl | hrest
    · exact Nat.le_refl n
    · exact (Nat.le_add_right _ _).trans (ih hrest)

/-- Each field stands at its place. -/
theorem flatten_at_place {n : Nat} {fields : List (List Byte)} {f : Nat × List Byte} (h : f ∈ placed n fields) :
    (fields.flatten.drop (f.1 - n)).take f.2.length = f.2 := by
  induction fields generalizing n with
  | nil => cases h
  | cons field rest ih =>
    rw [List.flatten_cons]
    rcases List.mem_cons.1 h with rfl | hrest
    · rw [Nat.sub_self, List.drop_zero, List.take_left]
    · have hbeyond := le_of_mem_placed hrest
      rw [List.drop_append, List.drop_of_length_le (by omega), List.nil_append, ← Nat.sub_add_eq]
      exact ih hrest

/-- A list of fields that is the layout of bytes names what stands in them. -/
theorem field_at_place {bytes : List Byte} {fields : List (Nat × List Byte)} (hplaces : fields = placed 0 (fields.map (·.2)))
    (hbytes : bytes = (fields.map (·.2)).flatten) : ∀ f ∈ fields, (bytes.drop f.1).take f.2.length = f.2 := by
  intro f hf
  rw [hplaces] at hf
  rw [hbytes]
  exact flatten_at_place hf

@[simp] theorem field_length (n : Nat) (v : Int) : (field n v).length = n := by
  induction n generalizing v with
  | zero => rfl
  | succ n ih => rw [field, List.length_append, ih, List.length_singleton]

@[simp] theorem byte_length (v : Nat) : (byte v).length = 1 := field_length 1 v
@[simp] theorem half_length (v : Int) : (half v).length = 2 := field_length 2 v
@[simp] theorem quad_length (v : Nat) : (quad v).length = 4 := field_length 4 v
@[simp] theorem money_length (v : Int) : (money v).length = 5 := field_length 5 v

@[simp] theorem energyBytes_length (e : Energy) : e.bytes.length = 8 := by simp [Energy.bytes]

theorem sessionBytes_length (slot : Fin 8) (r : Session) : (sessionBytes slot r).length = 77 := by
  unfold sessionBytes
  simp only [List.length_append, byte_length, half_length, quad_length, money_length, energyBytes_length]

theorem faultBytes_length (k : Fin 12) (f : FaultRecord) : (faultBytes k f).length = 14 := by simp [faultBytes]

/-- The status byte below its mark is the result code. -/
theorem statusByte_code (overrun : Bool) (code : ResultCode) :
    ((statusByte overrun code).setWidth 7).toNat = code.code := by
  cases overrun <;> cases code <;> decide

/-- Settles O9: status byte and check byte as above; the fields of a record are placed one behind the other. -/
theorem responseFramesAndRecordLayouts : Obligations.ResponseFramesAndRecordLayouts := by
  refine ⟨fun overrun r => ⟨_, rfl, byteSum_withCheck _, statusByte_mark overrun r.result,
    statusByte_code overrun r.result⟩, fun slot r => ⟨sessionBytes_length slot r, ?_⟩,
    fun k f => ⟨faultBytes_length k f, ?_⟩⟩
  · refine field_at_place rfl ?_
    unfold sessionBytes Energy.bytes
    simp only [List.map_cons, List.map_nil, List.flatten_cons, List.flatten_nil, List.append_assoc, List.append_nil]
  · refine field_at_place rfl ?_
    unfold faultBytes
    simp only [List.map_cons, List.map_nil, List.flatten_cons, List.flatten_nil, List.append_assoc,
      List.append_nil]

end Sys2Proof.Machine
end

section
/-! A request that is not answered OK changes nothing, and carries data only for BAD_CHAIN (R170). -/

namespace Sys2Proof.Machine

/-- A reply that is OK, or leaves the state as it was, with data for BAD_CHAIN alone. -/
def Reply.Careful (s : State) (r : Reply) : Prop := r.result ≠ .ok → r.state = s ∧ (r.result ≠ .badChain → r.data = [])

@[simp] theorem accept_careful (s t : State) (data : List Byte) : (accept t data).Careful s := fun h => absurd rfl h

@[simp] theorem refuse_careful (s : State) (code : ResultCode) : (refuse s code).Careful s := fun _ => ⟨rfl, fun _ => rfl⟩

@[simp] theorem badChain_careful (s : State) (data : List Byte) : Reply.Careful s ⟨s, .badChain, data⟩ :=
  fun _ => ⟨rfl, fun h => absurd rfl h⟩

theorem onSession_careful {slot : Byte} {serial : BitVec 16} {s : State} {rule : Fin 8 → Reply}
    (h : ∀ i, (rule i).Careful s) : (onSession slot serial s rule).Careful s := by
  unfold onSession
  split
  · exact refuse_careful s _
  · exact h _

theorem onAccount_careful {index : Byte} {id : BitVec 32} {s : State} {rule : Fin 16 → Reply}
    (h : ∀ a, (rule a).Careful s) : (onAccount index id s rule).Careful s := by
  unfold onAccount
  split
  · exact refuse_careful s _
  · exact h _

section
variable (s : State)

theorem requestAuthorize_careful (charge : Byte) (heat : Option Byte) (chain : Byte) (target : Option (BitVec 32)) :
    (requestAuthorize charge heat chain target s).Careful s := by
  unfold requestAuthorize
  split
  · simp
  · split <;> simp

theorem requestRelease_careful (p : Port) (slot : Byte) (serial : BitVec 16) :
    (requestRelease p slot serial s).Careful s := by
  refine onSession_careful fun i => ?_
  split
  · split
    · simp
    · split <;> simp
  · simp

theorem requestMarkComplete_careful (slot : Byte) (serial : BitVec 16) :
    (requestMarkComplete slot serial s).Careful s := by
  refine onSession_careful fun i => ?_
  split <;> simp

theorem requestSetTarget_careful (slot : Byte) (serial : BitVec 16) (target : BitVec 32) :
    (requestSetTarget slot serial target s).Careful s := by
  unfold requestSetTarget
  split
  · simp
  · refine onSession_careful fun i => ?_
    split
    · simp
    · split <;> simp

theorem requestOpenAccount_careful (id : BitVec 32) (kind : Byte) (balance limit holdStep : BitVec 40) :
    (requestOpenAccount id kind balance limit holdStep s).Careful s := by
  unfold requestOpenAccount
  split
  · simp
  · split
    · simp
    · split <;> simp

theorem requestSetLimit_careful (index : Byte) (id : BitVec 32) (limit : BitVec 40) :
    (requestSetLimit index id limit s).Careful s := by
  refine onAccount_careful fun a => ?_
  split
  · simp
  · split <;> simp

theorem requestWriteBand_careful (band chain : Byte) (start chargeRate heatRate occupancyRate : BitVec 16)
    (cap : Option (BitVec 32)) (next : Byte) :
    (requestWriteBand band chain start chargeRate heatRate occupancyRate cap next s).Careful s := by
  unfold requestWriteBand
  split
  · split
    · simp
    · split <;> simp
  · simp

theorem requestFreeBand_careful (band : Byte) : (requestFreeBand band s).Careful s := by
  unfold requestFreeBand
  split
  · simp
  · split
    · simp
    · split <;> simp

theorem requestSealChain_careful (chain : Byte) (id : BitVec 32) : (requestSealChain chain id s).Careful s := by
  unfold requestSealChain
  split
  · split
    · simp
    · split <;> simp
  · simp

theorem requestUnsealChain_careful (chain : Byte) (id : BitVec 32) : (requestUnsealChain chain id s).Careful s := by
  unfold requestUnsealChain
  split
  · split
    · simp
    · split
      · simp
      · split <;> simp
  · simp

theorem requestSetZone_careful (zone mode : Byte) (target : BitVec 16) (rated : BitVec 32) :
    (requestSetZone zone mode target rated s).Careful s := by
  unfold requestSetZone
  split
  · split <;> simp
  · simp

theorem requestDriveZone_careful (zone drive : Byte) : (requestDriveZone zone drive s).Careful s := by
  unfold requestDriveZone
  split
  · split
    · simp
    · split <;> simp
  · simp

theorem requestRestoreZone_careful (zone : Byte) : (requestRestoreZone zone s).Careful s := by
  unfold requestRestoreZone
  split
  · simp
  · split <;> simp

theorem requestRetireFault_careful (key : Byte) : (requestRetireFault key s).Careful s := by
  unfold requestRetireFault
  split
  · simp
  · split <;> simp

theorem requestTestFaults_careful (m : BitVec 16) (filter : Byte) : (requestTestFaults m filter s).Careful s := by
  unfold requestTestFaults
  split
  · exact refuse_careful s _
  · split
    · exact refuse_careful s _
    · exact accept_careful s _ _

theorem requestLocalize_careful (key : Byte) : (requestLocalize key s).Careful s := by
  unfold requestLocalize
  split
  · exact refuse_careful s _
  · split
    · exact refuse_careful s _
    · split
      · exact refuse_careful s _
      · split
        · exact accept_careful s _ _
        · exact refuse_careful s _

theorem serve_careful (p : Port) (r : Request) : (serve p s r).Careful s := by
  cases r with
  | authorize charge heat chain target => exact requestAuthorize_careful s charge heat chain target
  | cancel | stop | collect | pause | resume => exact onSession_careful fun i => by split <;> simp
  | release slot serial => exact requestRelease_careful s p slot serial
  | markComplete slot serial => exact requestMarkComplete_careful s slot serial
  | setTarget slot serial target => exact requestSetTarget_careful s slot serial target
  | openAccount id kind balance limit holdStep => exact requestOpenAccount_careful s id kind balance limit holdStep
  | adjust | block => exact onAccount_careful fun a => accept_careful s _ _
  | setLimit index id limit => exact requestSetLimit_careful s index id limit
  | setStep | unblock | closeAccount => exact onAccount_careful fun a => by split <;> simp
  | writeBand band chain start chargeRate heatRate occupancyRate cap next =>
    exact requestWriteBand_careful s band chain start chargeRate heatRate occupancyRate cap next
  | freeBand band => exact requestFreeBand_careful s band
  | sealChain chain id => exact requestSealChain_careful s chain id
  | unsealChain chain id => exact requestUnsealChain_careful s chain id
  | setZone zone mode target rated => exact requestSetZone_careful s zone mode target rated
  | driveZone zone drive => exact requestDriveZone_careful s zone drive
  | restoreZone zone => exact requestRestoreZone_careful s zone
  | setHeating share budget preheat => dsimp only [serve, requestSetHeating]; split <;> simp
  | retireFault key => exact requestRetireFault_careful s key
  | testFaults m filter => exact requestTestFaults_careful s m filter
  | localize key => exact requestLocalize_careful s key
  | lookCalendar | lookPlan | cancelLocalize | lookSupply | lookMeter | readAttention | warmReset =>
    exact accept_careful s _ _
  | lookSession | lookAccount | lookBand | lookChain | setCalendar | setLifetime | setAdmission | lookZone
  | setIsolation | lookFault | setAttention | clearAttention =>
    dsimp only [serve, requestLookSession, requestLookAccount, requestLookBand, requestLookChain, requestSetCalendar,
      requestSetLifetime, requestSetAdmission, requestLookZone, requestSetIsolation, requestLookFault,
      requestSetAttention, requestClearAttention]
    split
    · exact refuse_careful s _
    · exact accept_careful s _ _

theorem answer_careful (p : Port) (r : Request) : (answer p r s).Careful s := by
  unfold answer
  split
  · exact serve_careful s p r
  · exact refuse_careful s _

end

/-- Settles O4: the reply of the permitted request's owner is what a ready port executes, and every reply is careful. -/
theorem readyPortAnswersEveryRequest : Obligations.ReadyPortAnswersEveryRequest := fun p r s hready =>
  ⟨executes_answer hready r, fun hpermitted => if_pos hpermitted, answer_careful s p r⟩

end Sys2Proof.Machine
end

section
/-! The lookups (R5, R30, R53, R59, R90, R106, R126, R141): each answers the fields as they stand and changes nothing. -/

namespace Sys2Proof.Machine

/-! ### Replies at a ready port -/

section
variable {p : Port} {r : Request} {s t : State} {data : List Byte} {code : ResultCode}

theorem executes_accept (hready : Ready p s) (hpermitted : permitted p r = true) (hreply : serve p s r = accept t data) :
    Executes p r .ok data s t := executes_of_serve hready hpermitted hreply

theorem executes_refuse (hready : Ready p s) (hpermitted : permitted p r = true) (hreply : serve p s r = refuse s code) :
    Executes p r code [] s s := executes_of_serve hready hpermitted hreply

end

theorem index?_eq_none {n : Nat} {b : Byte} (hbad : n ≤ b.toNat) : index? n b = none := dif_neg hbad.not_gt

@[simp] theorem index?_session (i : Fin 8) : index? 8 (index i.val) = some i := index?_index (by decide) i
@[simp] theorem index?_account (a : Fin 16) : index? 16 (index a.val) = some a := index?_index (by decide) a
@[simp] theorem index?_band (b : Fin 32) : index? 32 (index b.val) = some b := index?_index (by decide) b
@[simp] theorem index?_chain (c : Fin 4) : index? 4 (index c.val) = some c := index?_index (by decide) c
@[simp] theorem index?_zone (z : Fin 6) : index? 6 (index z.val) = some z := index?_index (by decide) z

/-! ### Fields of a flag and lists of positions -/

theorem mask_singleton (b : Bool) : mask [b] = if b then 1 else 0 := by cases b <;> rfl

theorem bit_eq (b : Bool) : bit b = if b then 1 else 0 := rfl

theorem bit_beq {α : Type} [BEq α] [LawfulBEq α] [DecidableEq α] (x y : α) : bit (x == y) = if x = y then 1 else 0 := by
  simp only [bit, beq_iff_eq]

theorem getD_map_const {α : Type} (o : Option α) (v : Nat) : (o.map fun _ => v).getD 0 = if o.isSome then v else 0 := by
  cases o <;> rfl

/-- Positions of one byte each. -/
theorem positions_bytes {n size : Nat} (l : List (Fin n)) : positions size 1 (l.map fun x => byte x.val) =
    byte l.length ++ (l.map fun x => BitVec.ofNat 8 x.val) ++ List.replicate (size - l.length) 0 := by
  have hflatten : (l.map fun x => byte x.val).flatten = l.map fun x => BitVec.ofNat 8 x.val := by
    induction l with
    | nil => rfl
    | cons x rest ih => rw [List.map_cons, List.flatten_cons, ih, byte_eq]; rfl
  rw [positions, hflatten, List.length_map, Nat.mul_one]

/-! ### The replies to the lookups -/

section
variable {s : State} {b : Byte}

theorem requestLookSession_bad (hbad : 8 ≤ b.toNat) : requestLookSession b s = refuse s .badValue := by
  rw [requestLookSession, index?_eq_none hbad]

theorem requestLookAccount_bad (hbad : 16 ≤ b.toNat) : requestLookAccount b s = refuse s .badValue := by
  rw [requestLookAccount, index?_eq_none hbad]

theorem requestLookBand_bad (hbad : 32 ≤ b.toNat) : requestLookBand b s = refuse s .badValue := by
  rw [requestLookBand, index?_eq_none hbad]

theorem requestLookChain_bad (hbad : 4 ≤ b.toNat) : requestLookChain b s = refuse s .badValue := by
  rw [requestLookChain, index?_eq_none hbad]

theorem requestLookZone_bad (hbad : 6 ≤ b.toNat) : requestLookZone b s = refuse s .badValue := by
  rw [requestLookZone, index?_eq_none hbad]

theorem requestLookSession_good (i : Fin 8) :
    requestLookSession (index i.val) s = accept s (sessionBytes i (s.session i)) := by
  rw [requestLookSession, index?_session]

end

section
variable {p : Port}

theorem permitted_lookSession (b : Byte) : permitted p (.lookSession b) = true := by cases p <;> rfl
theorem permitted_lookAccount (b : Byte) : permitted p (.lookAccount b) = true := by cases p <;> rfl
theorem permitted_lookBand (b : Byte) : permitted p (.lookBand b) = true := by cases p <;> rfl
theorem permitted_lookChain (b : Byte) : permitted p (.lookChain b) = true := by cases p <;> rfl
theorem permitted_lookZone (b : Byte) : permitted p (.lookZone b) = true := by cases p <;> rfl
theorem permitted_lookCalendar : permitted p .lookCalendar = true := by cases p <;> rfl
theorem permitted_lookPlan : permitted p .lookPlan = true := by cases p <;> rfl
theorem permitted_lookSupply : permitted p .lookSupply = true := by cases p <;> rfl
theorem permitted_lookMeter : permitted p .lookMeter = true := by cases p <;> rfl

end

/-- The bands that LOOK_CHAIN lists of an OPEN chain, by what the band store says. -/
theorem taggedBands_eq (s : State) (c : Fin 4) : taggedBands s.tariff c =
    (List.finRange 32).filter fun b => decide ((s.band b).state = .used ∧ (s.band b).tag = c) := by
  refine List.filter_congr fun b _ => ?_
  rw [Bool.decide_and]
  rfl

/-- Settles O49: the index decides between BAD_VALUE and the record's fields. -/
theorem sessionAccountAndTariffLookups : Obligations.SessionAccountAndTariffLookups := by
  refine ⟨fun p s b hready => ⟨fun hbad => executes_refuse hready (permitted_lookSession b) (requestLookSession_bad hbad),
    fun hbad => executes_refuse hready (permitted_lookAccount b) (requestLookAccount_bad hbad),
    fun hbad => executes_refuse hready (permitted_lookBand b) (requestLookBand_bad hbad),
    fun hbad => executes_refuse hready (permitted_lookChain b) (requestLookChain_bad hbad)⟩, fun p s hready => ⟨fun i => ?_,
    fun a => ?_, fun b => ?_, fun c => ?_, ?_⟩⟩
  · exact executes_accept hready (permitted_lookSession _) (requestLookSession_good i)
  · refine executes_accept hready (permitted_lookAccount _) ?_
    rw [serve, requestLookAccount, index?_account]
    dsimp only
    rw [mask_singleton, bit_beq]
    rfl
  · refine executes_accept hready (permitted_lookBand _) ?_
    rw [serve, requestLookBand, index?_band]
    dsimp only
    rw [mask_singleton]
  · intro r listed
    have hlisted : listedBands s.tariff c = listed := by
      rw [listedBands, show s.tariff.chains[c].state = r.state from rfl]
      simp only [listed]
      cases r.state with
      | opened => exact taggedBands_eq s c
      | empty | sealed => rfl
    refine executes_accept hready (permitted_lookChain _) ?_
    rw [serve, requestLookChain, index?_chain]
    dsimp only
    rw [positions_bytes, hlisted]
    simp only [List.append_assoc]
    rfl
  · refine executes_accept hready permitted_lookCalendar ?_
    rw [serve, requestLookCalendar, minuteElapsed, Option.isSome_map]
    rfl

/-- Settles O50: the fields of zone, plan, supply and link as they stand. -/
theorem zonePlanSupplyAndMeterLookups : Obligations.ZonePlanSupplyAndMeterLookups := by
  refine ⟨fun p s b hready hbad => executes_refuse hready (permitted_lookZone b) (requestLookZone_bad hbad),
    fun p s hready => ⟨fun z => ?_, ?_, ?_, ?_⟩⟩
  · refine executes_accept hready (permitted_lookZone _) ?_
    rw [serve, requestLookZone, index?_zone]
    rfl
  · refine executes_accept hready permitted_lookPlan ?_
    rw [serve, requestLookPlan, positions_bytes]
    rfl
  · exact executes_accept hready permitted_lookSupply rfl
  · refine executes_accept hready permitted_lookMeter ?_
    rw [serve, requestLookMeter]
    rw [Option.isSome_map, getD_map_const]

end Sys2Proof.Machine
end

section
/-! SUPPORT. A verdict other than CHARGER does not change the isolation condition, so no step of the Localizer reaches
the sessions while a suspect is passed over, and a change of the live session stays in its own record (R149, R150, R165,
R167). -/

namespace Sys2Proof.Machine

/-! ### Verdicts other than CHARGER (R149, R150) -/

theorem FaultRecord.withVerdict_nonFree (v : Verdict) (f : FaultRecord) : (f.withVerdict v).nonFree = f.nonFree := rfl

theorem FaultRecord.withVerdict_isCharger {v : Verdict} (hv : v ≠ .charger) (f : FaultRecord) :
    (f.withVerdict v).verdict = some .charger ↔ f.verdict = some .charger := by
  unfold FaultRecord.withVerdict
  dsimp only
  split
  · next h => exact iff_of_true rfl h
  · next h => exact iff_of_false (fun heq => hv (Option.some.inj heq)) h

theorem FaultRecord.withVerdict_chargerAtFault {v : Verdict} (hv : v ≠ .charger) (f : FaultRecord) :
    chargerAtFault (f.withVerdict v) = chargerAtFault f := by
  have hsame : ((f.withVerdict v).verdict == some .charger) = (f.verdict == some .charger) := by
    rw [Bool.eq_iff_iff, beq_iff_eq, beq_iff_eq, f.withVerdict_isCharger hv]
  rw [chargerAtFault, chargerAtFault, hsame, f.withVerdict_nonFree]

/-- The isolation condition is read from the trip and warning records. -/
theorem isolationCondition_congr {s t : State} (htrip : ∀ r, (t.fault (tripKey r)).nonFree = (s.fault (tripKey r)).nonFree)
    (hwarn : ∀ r, chargerAtFault (t.fault (warnKey r)) = chargerAtFault (s.fault (warnKey r))) :
    isolationCondition t = isolationCondition s := by
  rw [isolationCondition, isolationCondition, tripHeld, tripHeld, htrip, htrip, hwarn, hwarn]

section
variable {v : Verdict} (hv : v ≠ .charger)
include hv

theorem isolationCondition_withVerdict (rail : Rail) (s : State) :
    isolationCondition (s.setFault (warnKey rail) ((s.fault (warnKey rail)).withVerdict v)) = isolationCondition s := by
  refine isolationCondition_congr (fun r => ?_) fun r => ?_
  · rw [State.setFault_at, if_neg (warnKey_ne_tripKey rail r)]
  · rw [State.setFault_at]
    split
    · next hkey => rw [FaultRecord.withVerdict_chargerAtFault hv, hkey]
    · rfl

/-- Such a verdict is written and nothing more. -/
theorem writeVerdict_eq (rail : Rail) (s : State) :
    writeVerdict rail v s = s.setFault (warnKey rail) ((s.fault (warnKey rail)).withVerdict v) := by
  rw [writeVerdict, handIsolation, if_pos (isolationCondition_withVerdict hv rail s)]

theorem deliverVerdict_sessions (s : State) : (deliverVerdict v s).sessions = s.sessions := by
  unfold deliverVerdict
  split
  · rw [writeVerdict_eq hv]; simp
  · simp

end

/-! ### Steps of the Localizer (R162, R164, R167) -/

theorem takeSuspect_sessions (stack : List Suspect) (s : State) : (takeSuspect stack s).sessions = s.sessions := by
  induction stack with
  | nil => exact deliverVerdict_sessions Verdict.noConfusion _
  | cons x below ih =>
    unfold takeSuspect
    split
    · simp
    · exact ih

@[simp] theorem nextStep_sessions (s : State) : (nextStep s).sessions = s.sessions := takeSuspect_sessions _ s

@[simp] theorem advanceSuspect_sessions (s : State) : (advanceSuspect s).sessions = s.sessions := by
  rw [advanceSuspect, nextStep_sessions]
  simp

@[simp] theorem localizerSessionLeft_sessions (s : State) : (localizerSessionLeft s).sessions = s.sessions := by
  unfold localizerSessionLeft
  split <;> simp

@[simp] theorem localizerZoneOff_sessions (z : Fin 6) (s : State) : (localizerZoneOff z s).sessions = s.sessions := by
  unfold localizerZoneOff
  split <;> simp

@[simp] theorem sessionChanged_sessions (left : Bool) (s : State) : (sessionChanged left s).sessions = s.sessions := by
  unfold sessionChanged
  split <;> simp

/-! ### A change of the live session -/

theorem sameOutside_setSession (s : State) (i : Fin 8) (r : Session) : SameOutside s (s.setSession i r) :=
  ⟨rfl, rfl, rfl, rfl, rfl, rfl, rfl, rfl, rfl, rfl⟩

theorem sameOutside_post (c : Cause) (s : State) : SameOutside s (post c s) :=
  ⟨rfl, rfl, rfl, rfl, rfl, rfl, rfl, rfl, rfl, rfl⟩

theorem SameOutside.trans {s t u : State} : SameOutside s t → SameOutside t u → SameOutside s u
  | ⟨h1, h2, h3, h4, h5, h6, h7, h8, h9, h10⟩, ⟨g1, g2, g3, g4, g5, g6, g7, g8, g9, g10⟩ =>
    ⟨g1.trans h1, g2.trans h2, g3.trans h3, g4.trans h4, g5.trans h5, g6.trans h6, g7.trans h7, g8.trans h8, g9.trans h9,
      g10.trans h10⟩

theorem sameOutside_sessionChanged (left : Bool) (s : State) : SameOutside s (sessionChanged left s) := by
  simp [SameOutside]

theorem otherSessionsSame_of_sessions {i : Fin 8} {s t : State} (h : t.sessions = s.sessions) : OtherSessionsSame i s t :=
  ⟨fun j _ => session_eq_of_sessions h j, by rw [h], by rw [h]⟩

theorem otherSessionsSame_setSession (s : State) (i : Fin 8) (r : Session) : OtherSessionsSame i s (s.setSession i r) :=
  ⟨fun _ hj => State.setSession_other s i _ r hj.symm, rfl, rfl⟩

theorem OtherSessionsSame.trans {i : Fin 8} {s t u : State} (h : OtherSessionsSame i s t) (h' : OtherSessionsSame i t u) :
    OtherSessionsSame i s u :=
  ⟨fun j hj => (h'.1 j hj).trans (h.1 j hj), h'.2.1.trans h.2.1, h'.2.2.trans h.2.2⟩

/-- A new record for a live session, with what the other blocks do about it, changes nothing else outside them. -/
theorem sessionChanged_setSession (left : Bool) (s : State) (i : Fin 8) (r : Session) :
    SameOutside s (sessionChanged left (s.setSession i r)) ∧ OtherSessionsSame i s (sessionChanged left (s.setSession i r)) ∧
    (sessionChanged left (s.setSession i r)).session i = r := by
  have hsessions := sessionChanged_sessions left (s.setSession i r)
  refine ⟨(sameOutside_setSession s i r).trans (sameOutside_sessionChanged _ _),
    (otherSessionsSame_setSession s i r).trans (otherSessionsSame_of_sessions hsessions), ?_⟩
  exact (session_eq_of_sessions hsessions i).trans (State.setSession_same s i r)

end Sys2Proof.Machine
end

section
/-! Requests that name a record: how a name is judged, and the refusals that follow (R5, R30). -/

namespace Sys2Proof.Machine

/-! ### Names (R5, R30) -/

section
variable {s : State} {slot : Byte} {serial : BitVec 16}

theorem nameSession_bad (hbad : 8 ≤ slot.toNat ∨ serial = 0) : nameSession slot serial s = .error .badValue := by
  unfold nameSession
  split
  · rfl
  · next i hindex =>
    refine if_pos (hbad.resolve_left fun hslot => ?_)
    rw [index?_eq_none hslot] at hindex
    cases hindex

theorem nameSession_stale {i : Fin 8} (hserial : serial ≠ 0)
    (hstale : (s.session i).state = .free ∨ (s.session i).serial ≠ serial.toNat) :
    nameSession (index i.val) serial s = .error .stale := by
  simp only [nameSession, index?_session, if_neg hserial, if_pos hstale]

theorem onSession_error {code : ResultCode} (hname : nameSession slot serial s = .error code) (rule : Fin 8 → Reply) :
    onSession slot serial s rule = refuse s code := by
  rw [onSession, hname]

end

section
variable {s : State} {b : Byte} {id : BitVec 32}

theorem nameAccount_bad (hbad : 16 ≤ b.toNat ∨ id = 0) : nameAccount b id s = .error .badValue := by
  unfold nameAccount
  split
  · rfl
  · next a hindex =>
    refine if_pos (hbad.resolve_left fun hslot => ?_)
    rw [index?_eq_none hslot] at hindex
    cases hindex

theorem nameAccount_stale {a : Fin 16} (hid : id ≠ 0)
    (hstale : (s.account a).state = .free ∨ (s.account a).id ≠ id.toNat) :
    nameAccount (index a.val) id s = .error .stale := by
  simp only [nameAccount, index?_account, if_neg hid, if_pos hstale]

theorem nameAccount_of_named {a : Fin 16} (hnamed : NamesAccount s b id a) : nameAccount b id s = .ok a := by
  obtain ⟨rfl, hid, hused, hsame⟩ := hnamed
  have hfound : ¬ ((s.account a).state = .free ∨ (s.account a).id ≠ id.toNat) := not_or.2 ⟨hused, not_not.2 hsame⟩
  simp only [nameAccount, index?_account, if_neg hid, if_neg hfound]

theorem onAccount_error {code : ResultCode} (hname : nameAccount b id s = .error code) (rule : Fin 16 → Reply) :
    onAccount b id s rule = refuse s code := by
  rw [onAccount, hname]

/-- A request that names the account of index `a` is taken by its own rule for `a`. -/
theorem onAccount_of_named {a : Fin 16} (hnamed : NamesAccount s b id a) (rule : Fin 16 → Reply) :
    onAccount b id s rule = rule a := by
  rw [onAccount, nameAccount_of_named hnamed]

end

/-! ### The requests that name a record first -/

/-- The requests that name a session, SET_TARGET with its target in range (R5; log 10). -/
def NamesFirst (slot : Byte) (serial : BitVec 16) (r : Request) : Prop :=
  r ∈ [.cancel slot serial, .stop slot serial, .collect slot serial, .release slot serial, .pause slot serial,
    .resume slot serial, .markComplete slot serial] ∨ ∃ w : BitVec 32, w.toNat ≤ 1000000 ∧ r = .setTarget slot serial w

/-- A target in range: 0 removes it (R17). -/
theorem target?_eq {w : BitVec 32} (hrange : w.toNat ≤ 1000000) :
    target? w = some (if w.toNat = 0 then none else some w.toNat) := by
  by_cases hzero : w.toNat = 0
  · rw [target?, if_pos hzero, if_pos hzero]
  · rw [target?, if_neg hzero, if_neg hzero, if_pos hrange]

theorem target?_eq_none {w : BitVec 32} (hbad : 1000000 < w.toNat) : target? w = none := by
  rw [target?, if_neg (by omega), if_neg (by omega)]

/-- Each of them is a rule for the session it names. -/
theorem serve_onSession {slot : Byte} {serial : BitVec 16} {r : Request} (h : NamesFirst slot serial r) (p : Port)
    (s : State) : ∃ rule, serve p s r = onSession slot serial s rule := by
  rcases h with hmem | ⟨w, hrange, rfl⟩
  · simp only [List.mem_cons, List.not_mem_nil, or_false] at hmem
    rcases hmem with rfl | rfl | rfl | rfl | rfl | rfl | rfl <;> exact ⟨_, rfl⟩
  · simp only [serve, requestSetTarget, target?_eq hrange]
    exact ⟨_, rfl⟩

/-- The requests that name an account (R30). -/
def NamesAccountFirst (b : Byte) (id : BitVec 32) (r : Request) : Prop :=
  r ∈ [.block b id, .unblock b id, .closeAccount b id] ∨ (∃ v, r = .adjust b id v) ∨ (∃ v, r = .setLimit b id v) ∨
  ∃ v, r = .setStep b id v

/-- Each of them is a rule for the account it names, and permitted on the Billing Port. -/
theorem serve_onAccount {b : Byte} {id : BitVec 32} {r : Request} (h : NamesAccountFirst b id r) (p : Port) (s : State) :
    (∃ rule, serve p s r = onAccount b id s rule) ∧ permitted .bp r = true := by
  rcases h with hmem | ⟨v, rfl⟩ | ⟨v, rfl⟩ | ⟨v, rfl⟩
  · simp only [List.mem_cons, List.not_mem_nil, or_false] at hmem
    rcases hmem with rfl | rfl | rfl <;> exact ⟨⟨_, rfl⟩, rfl⟩
  all_goals exact ⟨⟨_, rfl⟩, rfl⟩

/-- Settles O13: a name that is out of range or stale is refused before the request's own rule. -/
theorem recordNamingRefusals : Obligations.RecordNamingRefusals := by
  refine ⟨fun s p slot serial r hready hpermitted hr => ?_, fun s b id r hready hr => ?_⟩
  · obtain ⟨rule, hserve⟩ := serve_onSession hr p s
    refine ⟨fun hbad => executes_refuse hready hpermitted (hserve.trans (onSession_error (nameSession_bad hbad) _)), ?_⟩
    rintro i rfl hserial hstale
    exact executes_refuse hready hpermitted (hserve.trans (onSession_error (nameSession_stale hserial hstale) _))
  · obtain ⟨⟨rule, hserve⟩, hpermitted⟩ := serve_onAccount hr .bp s
    refine ⟨fun hbad => executes_refuse hready hpermitted (hserve.trans (onAccount_error (nameAccount_bad hbad) _)), ?_⟩
    rintro a rfl hid hstale
    exact executes_refuse hready hpermitted (hserve.trans (onAccount_error (nameAccount_stale hid hstale) _))

end Sys2Proof.Machine
end

section
/-! Going live (R8): the record of the head as the conditions of the moment make it. -/

namespace Sys2Proof.Machine

theorem targetReached_iff (r : Session) : r.targetReached = true ↔ ∃ w ∈ r.energyTarget, w ≤ r.chargeEnergy.wh := by
  unfold Session.targetReached
  split
  · next h => simp [h]
  · next t h => simp [h]

/-- The state of a live session by its target and its reasons (R8, R17). -/
theorem judgedState_eq (r : Session) : r.judgedState =
    if ∃ w ∈ r.energyTarget, w ≤ r.chargeEnergy.wh then .complete
    else if r.reasons = .empty then .active else .paused := by
  simp only [Session.judgedState, targetReached_iff, PauseReasons.isEmpty_iff]

theorem FaultRecord.nonFree_iff (f : FaultRecord) : f.nonFree = true ↔ f.state ≠ .free := bne_iff_ne

theorem chargerAtFault_iff (f : FaultRecord) : chargerAtFault f = true ↔ f.state ≠ .free ∧ f.verdict = some .charger := by
  rw [chargerAtFault, Bool.and_eq_true, f.nonFree_iff, beq_iff_eq]

theorem isolationCondition_iff (s : State) : isolationCondition s = true ↔
    (s.fault 2).state ≠ .free ∨ (s.fault 3).state ≠ .free ∨
    ((s.fault 0).state ≠ .free ∧ (s.fault 0).verdict = some .charger) ∨
    ((s.fault 1).state ≠ .free ∧ (s.fault 1).verdict = some .charger) := by
  rw [isolationCondition, tripHeld, Bool.or_eq_true, Bool.or_eq_true, Bool.or_eq_true, FaultRecord.nonFree_iff,
    FaultRecord.nonFree_iff, chargerAtFault_iff, chargerAtFault_iff, or_assoc, or_assoc]
  rfl

theorem isGood_iff (st : LinkState) : st.isGood = true ↔ st = .synced ∨ st = .holding := by
  cases st <;> simp [LinkState.isGood]

/-- The pause reasons at going live, condition by condition (R8). -/
theorem reasonsAtLive_eq (s : State) : reasonsAtLive s =
    { host := false, credit := false
      cold := decide (admissionNow s = 0)
      offer := decide (s.supply.state = .plugged ∨ s.supply.state = .faulted)
      isolation := decide ((s.fault 2).state ≠ .free ∨ (s.fault 3).state ≠ .free ∨
        ((s.fault 0).state ≠ .free ∧ (s.fault 0).verdict = some .charger) ∨
        ((s.fault 1).state ≠ .free ∧ (s.fault 1).verdict = some .charger))
      meter := decide (s.meter.state ≠ .synced ∧ s.meter.state ≠ .holding) } := by
  have hoffer : (s.supply.state == .plugged || s.supply.state == .faulted) =
      decide (s.supply.state = .plugged ∨ s.supply.state = .faulted) := by
    rw [Bool.eq_iff_iff]; simp
  have hmeter : (!s.meter.state.isGood) = decide (s.meter.state ≠ .synced ∧ s.meter.state ≠ .holding) := by
    rw [Bool.eq_iff_iff, Bool.not_eq_true', decide_eq_true_iff, ← not_or, ← isGood_iff, Bool.not_eq_true]
  unfold reasonsAtLive
  congr 1
  rw [Bool.eq_iff_iff, isolationCondition_iff, decide_eq_true_iff]

/-- Settles O12: an empty queue by its arm, the head's record by the reasons of the moment. -/
theorem goingLive : Obligations.GoingLive := by
  refine ⟨fun s hqueue => goLive_empty hqueue, fun s i rest m hqueue hcalendar => ?_⟩
  intro r reasons
  have hminute : minuteNow s = m := by rw [minuteNow, hcalendar]; rfl
  have hgone : r.gone s = { r with
      liveMinute := some m, queuedMinutes := none, currentBand := coveringBand s.tariff r.chain m, reasons := reasons
      state := if ∃ w ∈ r.energyTarget, w ≤ r.chargeEnergy.wh then .complete
        else if reasons = .empty then .active else .paused } := by
    have hreasons : reasonsAtLive s = reasons := reasonsAtLive_eq s
    rw [Session.gone, judgedState_eq, hminute, hreasons]
  rw [← hgone]
  simp only [goLive, hqueue]
  rfl

end Sys2Proof.Machine
end

section
/-! PAUSE, RESUME, MARK_COMPLETE and SET_TARGET (R10, R16, R17): the reply of each for each state of the session named,
and the statements about them. -/

namespace Sys2Proof.Machine

/-! ### Pending causes that stay -/

/-- Every cause pending in one state is pending in the other. -/
def KeepsPending (s t : State) : Prop :=
  ∀ (p : Port) (k : Nat), (s.attention.pendingOf p).getLsbD k = true → (t.attention.pendingOf p).getLsbD k = true

theorem KeepsPending.of_attention {s t : State} (h : t.attention = s.attention) : KeepsPending s t :=
  fun p k hk => by rwa [h]

theorem KeepsPending.trans {s t u : State} (h : KeepsPending s t) (h' : KeepsPending t u) : KeepsPending s u :=
  fun p k hk => h' p k (h p k hk)

theorem keepsPending_post (c : Cause) (s : State) : KeepsPending s (post c s) := by
  intro p k hk
  rw [post_pendingOf, BitVec.getLsbD_or, hk, Bool.true_or]

theorem keepsPending_deliverVerdict {v : Verdict} (hv : v ≠ .charger) (s : State) :
    KeepsPending s (deliverVerdict v s) := by
  unfold deliverVerdict
  refine .trans (.of_attention ?_) (keepsPending_post _ _)
  split
  · rw [writeVerdict_eq hv]; simp
  · simp

theorem keepsPending_takeSuspect (stack : List Suspect) (s : State) : KeepsPending s (takeSuspect stack s) := by
  induction stack with
  | nil =>
    exact .trans (t := s.setLocalizer { s.localizer with stack := [] }) (.of_attention rfl)
      (keepsPending_deliverVerdict Verdict.noConfusion _)
  | cons x below ih =>
    unfold takeSuspect
    split
    · exact .of_attention (by simp)
    · exact ih

theorem keepsPending_localizerSessionLeft (s : State) : KeepsPending s (localizerSessionLeft s) := by
  unfold localizerSessionLeft
  split
  · exact .trans (t := releaseSuspect s) (.of_attention (by simp)) (keepsPending_takeSuspect _ _)
  · exact .of_attention rfl

theorem keepsPending_sessionChanged (left : Bool) (s : State) : KeepsPending s (sessionChanged left s) := by
  have hplanned : KeepsPending s (plannerSessionChanged left s) := .of_attention (by simp)
  cases left with
  | true => exact hplanned.trans (keepsPending_localizerSessionLeft _)
  | false => exact hplanned

/-! ### A change of pause reasons (R9) -/

/-- A new record leaves ACTIVE where the old one was ACTIVE and it is not. -/
theorem leftActive_setSession (i : Fin 8) (s : State) (r : Session) :
    leftActive i s (s.setSession i r) = decide ((s.session i).state = .active ∧ r.state ≠ .active) := by
  rw [leftActive, State.setSession_same, Bool.eq_iff_iff]
  simp

/-- Reasons as they are: nothing changes. -/
theorem changeReasons_unchanged {i : Fin 8} {f : PauseReasons → PauseReasons} {s : State}
    (hsame : f (s.session i).reasons = (s.session i).reasons) : changeReasons i f s = s := by
  have hquiet : changeReasonsQuietly i f s = s := if_pos (.inr hsame)
  have hstays : leftActive i s s = false := by simp [leftActive]
  simp only [changeReasons, hquiet, hstays, Bool.false_eq_true, if_false]

/-- Other reasons: the record follows, a session that leaves ACTIVE is posted, and the other blocks follow the change. -/
theorem changeReasons_changed {i : Fin 8} {f : PauseReasons → PauseReasons} {s : State} {r : Session} {left : Bool}
    (hlive : (s.session i).state.isLive = true) (hchange : f (s.session i).reasons ≠ (s.session i).reasons)
    (hr : (s.session i).withReasons (f (s.session i).reasons) = r)
    (hleft : leftActive i s (s.setSession i r) = left) : changeReasons i f s =
      sessionChanged left (if left then post .sessionPaused (s.setSession i r) else s.setSession i r) := by
  subst hr hleft
  generalize hset : s.setSession i ((s.session i).withReasons (f (s.session i).reasons)) = changed
  have hquiet : changeReasonsQuietly i f s = plannerSessionChanged (leftActive i s changed)
      (if leftActive i s changed then post .sessionPaused changed else changed) := by
    subst hset
    exact if_neg (not_or.2 ⟨by simp [hlive], hchange⟩)
  have hsessions : (changeReasonsQuietly i f s).session i = changed.session i := by
    rw [hquiet]
    refine session_eq_of_sessions ?_ i
    split <;> simp
  have hleft : leftActive i s (changeReasonsQuietly i f s) = leftActive i s changed := by
    rw [leftActive, hsessions, ← leftActive]
  simp only [changeReasons, hleft, sessionChanged]
  rw [hquiet]

/-- The state that follows a set of reasons (the table of R9). -/
theorem withReasons_eq {r : Session} (hlive : r.state.isLive = true) (q : PauseReasons) : r.withReasons q =
    { r with
      reasons := q
      state := if r.state = .complete then .complete else if q = .empty then .active else .paused } := by
  unfold Session.withReasons
  simp only [← PauseReasons.isEmpty_iff]
  cases hstate : r.state with
  | active | paused => simp
  | complete => simp
  | free | authorized | closing | closed => simp [hstate, SessionState.isLive] at hlive

/-! ### PAUSE and RESUME (R10) -/

/-- The HOST reason set or removed. -/
def PauseReasons.withHost (on : Bool) (q : PauseReasons) : PauseReasons := { q with host := on }

theorem PauseReasons.withHost_eq_self_iff (on : Bool) (q : PauseReasons) : q.withHost on = q ↔ q.host = on := by
  constructor
  · intro h; rw [← h]; rfl
  · rintro rfl; rfl

/-- The request that sets or removes HOST. -/
def hostRequest (on : Bool) (slot : Byte) (serial : BitVec 16) : Request :=
  if on then .pause slot serial else .resume slot serial

section
variable {s : State} {slot : Byte} {serial : BitVec 16} {i : Fin 8} (on : Bool)

theorem permitted_hostRequest : permitted .cp (hostRequest on slot serial) = true := by cases on <;> rfl

theorem serve_hostRequest_live (hnamed : NamesSession s slot serial i) (hlive : (s.session i).state.isLive = true) :
    serve .cp s (hostRequest on slot serial) =
      accept (changeReasons i (PauseReasons.withHost on) s) (pauseData i (changeReasons i (PauseReasons.withHost on) s)) := by
  cases on with
  | true => exact (onSession_of_named hnamed _).trans (if_pos hlive)
  | false => exact (onSession_of_named hnamed _).trans (if_pos hlive)

theorem serve_hostRequest_not_live (hnamed : NamesSession s slot serial i)
    (hdead : (s.session i).state.isLive = false) :
    serve .cp s (hostRequest on slot serial) = refuse s .wrongState := by
  have hnot : ¬ (s.session i).state.isLive = true := by simp [hdead]
  cases on with
  | true => exact (onSession_of_named hnamed _).trans (if_neg hnot)
  | false => exact (onSession_of_named hnamed _).trans (if_neg hnot)

end

/-- A HOST reason that is not as asked is changed, with all that follows. -/
theorem changeReasons_host {s : State} {i : Fin 8} {on : Bool} (hlive : (s.session i).state.isLive = true)
    (hother : (s.session i).reasons.host ≠ on) {changed : Session}
    (hchanged : (s.session i).withReasons ((s.session i).reasons.withHost on) = changed) :
    changeReasons i (PauseReasons.withHost on) s =
      sessionChanged (decide ((s.session i).state = .active ∧ changed.state = .paused))
        (if (s.session i).state = .active ∧ changed.state = .paused
          then post .sessionPaused (s.setSession i changed) else s.setSession i changed) := by
  have hrecord := hchanged.symm.trans (withReasons_eq hlive _)
  have hleft : leftActive i s (s.setSession i changed) =
      decide ((s.session i).state = .active ∧ changed.state = .paused) := by
    rw [leftActive_setSession]
    refine decide_eq_decide.2 (and_congr_right fun hactive => ?_)
    have hstate : changed.state = if (s.session i).reasons.withHost on = .empty then .active else .paused := by
      rw [hrecord, hactive]; rfl
    rw [hstate]
    split <;> simp
  rw [changeReasons_changed hlive (mt (PauseReasons.withHost_eq_self_iff on _).1 hother) hchanged hleft]
  simp only [decide_eq_true_eq]

/-- What a changed HOST reason leaves. -/
theorem changeReasons_host_sound {s : State} {i : Fin 8} {on : Bool} (hlive : (s.session i).state.isLive = true)
    (hother : (s.session i).reasons.host ≠ on) {changed : Session}
    (hchanged : (s.session i).withReasons ((s.session i).reasons.withHost on) = changed) :
    SameOutside s (changeReasons i (PauseReasons.withHost on) s) ∧
    OtherSessionsSame i s (changeReasons i (PauseReasons.withHost on) s) ∧
    (changeReasons i (PauseReasons.withHost on) s).session i = changed ∧
    ((s.session i).state = .active ∧ changed.state = .paused → ∀ p,
      ((changeReasons i (PauseReasons.withHost on) s).attention.pendingOf p).getLsbD 2 = true) := by
  rw [changeReasons_host hlive hother hchanged]
  split
  · next hleft =>
    rw [decide_eq_true hleft]
    have hsessions := sessionChanged_sessions true (post .sessionPaused (s.setSession i changed))
    refine ⟨((sameOutside_setSession s i changed).trans (sameOutside_post _ _)).trans (sameOutside_sessionChanged _ _),
      (otherSessionsSame_setSession s i changed).trans (otherSessionsSame_of_sessions hsessions),
      (session_eq_of_sessions hsessions i).trans (State.setSession_same s i changed), fun _ p => ?_⟩
    exact keepsPending_sessionChanged _ _ p 2 (post_pending p .sessionPaused _)
  · next hstays =>
    obtain ⟨houtside, hothers, hrecord⟩ := sessionChanged_setSession
      (decide ((s.session i).state = .active ∧ changed.state = .paused)) s i changed
    exact ⟨houtside, hothers, hrecord, fun h => absurd h hstays⟩

theorem sameOutside_refl (s : State) : SameOutside s s := ⟨rfl, rfl, rfl, rfl, rfl, rfl, rfl, rfl, rfl, rfl⟩

theorem otherSessionsSame_refl (i : Fin 8) (s : State) : OtherSessionsSame i s s := ⟨fun _ _ => rfl, rfl, rfl⟩

/-- Settles O17: a HOST reason as asked changes nothing, and another is the change of reasons above. -/
theorem pauseAndResume : Obligations.PauseAndResume := by
  intro s slot serial i hready hnamed on q hq
  obtain rfl : q = hostRequest on slot serial := hq
  refine ⟨fun hdead => executes_refuse hready (permitted_hostRequest on) (serve_hostRequest_not_live on hnamed hdead),
    fun hlive => ⟨_, executes_accept hready (permitted_hostRequest on) (serve_hostRequest_live on hnamed hlive), ?_⟩⟩
  by_cases hsame : (s.session i).reasons.host = on
  · rw [changeReasons_unchanged ((PauseReasons.withHost_eq_self_iff on (s.session i).reasons).2 hsame)]
    exact ⟨sameOutside_refl s, otherSessionsSame_refl i s, fun _ => rfl, fun hne => absurd hsame hne⟩
  · have hchanged := withReasons_eq hlive ((s.session i).reasons.withHost on)
    obtain ⟨houtside, hothers, hrecord, hposted⟩ := changeReasons_host_sound hlive hsame hchanged
    exact ⟨houtside, hothers, fun h => absurd h hsame, fun _ => ⟨hrecord, changeReasons_host hlive hsame hchanged,
      fun hleft => ⟨hposted hleft .cp, hposted hleft .bp⟩⟩⟩

/-! ### MARK_COMPLETE and SET_TARGET (R16, R17) -/

section
variable {s : State} {slot : Byte} {serial : BitVec 16} {i : Fin 8}

theorem enterComplete_eq (i : Fin 8) (s : State) : enterComplete i s =
    sessionChanged (decide ((s.session i).state = .active)) (s.setSession i { s.session i with state := .complete }) := by
  have hleft : leftActive i s (s.setSession i { s.session i with state := .complete }) =
      decide ((s.session i).state = .active) := by
    rw [leftActive_setSession]
    exact decide_eq_decide.2 (and_iff_left SessionState.noConfusion)
  rw [← hleft]
  rfl

theorem requestMarkComplete_eq (hnamed : NamesSession s slot serial i) : requestMarkComplete slot serial s =
    if (s.session i).state = .active ∨ (s.session i).state = .paused then accept (enterComplete i s) []
    else if (s.session i).state = .complete then accept s [] else refuse s .wrongState := by
  rw [requestMarkComplete, onSession_of_named hnamed]
  cases (s.session i).state <;> rfl

/-- The record of a live session with another target, judged afresh (R17). -/
theorem retarget_eq (i : Fin 8) (wanted : Option Nat) (s : State) {judged : Session}
    (hjudged : judged = { s.session i with
      energyTarget := wanted
      state := if ∃ w ∈ wanted, w ≤ (s.session i).chargeEnergy.wh then .complete
        else if (s.session i).reasons = .empty then .active else .paused }) :
    retarget i wanted s =
      sessionChanged (decide ((s.session i).state = .active ∧ judged.state ≠ .active)) (s.setSession i judged) := by
  have hrecord : { s.session i with
      energyTarget := wanted, state := ({ s.session i with energyTarget := wanted } : Session).judgedState } = judged := by
    rw [judgedState_eq, hjudged]
  rw [← leftActive_setSession, ← hrecord]
  rfl

theorem requestSetTarget_eq {target : BitVec 32} (hnamed : NamesSession s slot serial i)
    (hrange : target.toNat ≤ 1000000) : requestSetTarget slot serial target s =
      let wanted := if target.toNat = 0 then none else some target.toNat
      if (s.session i).state = .authorized then accept (s.setSession i { s.session i with energyTarget := wanted }) []
      else if (s.session i).state.isLive then accept (retarget i wanted s) [] else refuse s .wrongState := by
  simp only [requestSetTarget, target?_eq hrange, onSession_of_named hnamed]

end

/-- Settles O18: each request by the state of the session, and what a changed live session leaves. -/
theorem markCompleteAndSetTarget : Obligations.MarkCompleteAndSetTarget := by
  refine ⟨fun s slot serial target hready hbad => ?_, fun s slot serial target i hready hnamed hrange => ?_⟩
  · refine executes_refuse hready rfl ?_
    rw [serve, requestSetTarget, target?_eq_none hbad]
  intro r wanted
  have hmark := requestMarkComplete_eq hnamed
  have htarget := requestSetTarget_eq hnamed hrange
  refine ⟨fun hrunning => ⟨_, executes_accept hready rfl (hmark.trans (if_pos hrunning)), enterComplete_eq i s, ?_⟩,
    fun hcomplete => executes_accept hready rfl ?_, fun hdead => executes_refuse hready rfl ?_,
    fun hwaits => executes_accept hready rfl (htarget.trans (if_pos hwaits)), fun hlive => ⟨_, executes_accept hready rfl
      (htarget.trans ((if_neg ?_).trans (if_pos hlive))), retarget_eq i wanted s rfl, ?_⟩, fun hover =>
    executes_refuse hready rfl ?_⟩
  · rw [enterComplete_eq]
    exact sessionChanged_setSession _ s i _
  · rw [serve, hmark, if_neg, if_pos hcomplete]
    rw [show (s.session i).state = .complete from hcomplete]
    simp
  · rw [serve, hmark, if_neg, if_neg]
    · rintro h; rw [show r.state = .complete from h] at hdead; exact absurd hdead (by decide)
    · rintro (h | h) <;> (rw [show r.state = _ from h] at hdead; exact absurd hdead (by decide))
  · intro h; rw [show r.state = .authorized from h] at hlive; exact absurd hlive (by decide)
  · rw [retarget_eq i wanted s rfl]
    exact sessionChanged_setSession _ s i _
  · have hstate : ¬ (s.session i).state = .authorized ∧ ¬ (s.session i).state.isLive = true := by
      rcases hover with h | h <;> rw [show (s.session i).state = _ from h] <;> decide
    rw [serve, htarget]
    exact (if_neg hstate.1).trans (if_neg hstate.2)

end Sys2Proof.Machine
end

section
/-! AUTHORIZE (R6, R7): its fields, its checks in their order, its refusals, and the session it makes. -/

namespace Sys2Proof.Machine

/-! ### The fields (R6, check 0) -/

theorem within?_eq_some {low high v : Nat} (hlow : low ≤ v) (hhigh : v ≤ high) : within? low high v = some v :=
  if_pos ⟨hlow, hhigh⟩

theorem within?_eq_none {low high v : Nat} (hbad : v < low ∨ high < v) : within? low high v = none :=
  if_neg (by omega)

theorem present?_eq_some {α β : Type} {f : α → Option β} {g : α → β} {o : Option α} (h : ∀ a ∈ o, f a = some (g a)) :
    present? f o = some (o.map g) := by
  cases o with
  | none => rfl
  | some a => rw [present?, h a rfl]; rfl

theorem present?_eq_none {α β : Type} {f : α → Option β} {o : Option α} (h : ∃ a ∈ o, f a = none) :
    present? f o = none := by
  obtain ⟨a, rfl, hbad⟩ := h
  rw [present?, hbad]
  rfl

/-- The optional indices of a request's field name the records. -/
theorem present?_index (heat : Option (Fin 16)) : present? (index? 16) (heat.map fun h => index h.val) = some heat := by
  cases heat with
  | none => rfl
  | some h => exact congrArg (Option.map some) (index?_account h)

theorem authorization?_good {c : Fin 16} {heat : Option (Fin 16)} {k : Fin 4} {target : Option (BitVec 32)}
    (hdiffer : heat ≠ some c) (htarget : ∀ w ∈ target, 1 ≤ w.toNat ∧ w.toNat ≤ 1000000) :
    authorization? (index c.val) (heat.map fun h => index h.val) (index k.val) target =
      some ⟨c, heat, k, target.map BitVec.toNat⟩ := by
  have hread : present? (fun w : BitVec 32 => within? 1 1000000 w.toNat) target = some (target.map BitVec.toNat) :=
    present?_eq_some fun w hw => within?_eq_some (htarget w hw).1 (htarget w hw).2
  simp only [authorization?, index?_account, present?_index, index?_chain, hread, if_neg hdiffer]

theorem authorization?_bad {charge : Byte} {heat : Option Byte} {chain : Byte} {target : Option (BitVec 32)}
    (hbad : 16 ≤ charge.toNat ∨ (∃ h ∈ heat, 16 ≤ h.toNat ∨ h = charge) ∨ 4 ≤ chain.toNat ∨
      ∃ w ∈ target, w.toNat = 0 ∨ 1000000 < w.toNat) : authorization? charge heat chain target = none := by
  unfold authorization?
  split
  · next c h k t hcharge hheat hchain htarget =>
    rcases hbad with hcbad | ⟨x, rfl, hxbad⟩ | hkbad | ⟨w, hw, hwbad⟩
    · rw [index?_eq_none hcbad] at hcharge; cases hcharge
    · rcases hxbad with hxbad | rfl
      · rw [present?_eq_none ⟨x, rfl, index?_eq_none hxbad⟩] at hheat; cases hheat
      · rw [present?, hcharge] at hheat
        exact if_pos (Option.some.inj hheat).symm
    · rw [index?_eq_none hkbad] at hchain; cases hchain
    · rw [present?_eq_none ⟨w, hw, within?_eq_none (by omega)⟩] at htarget; cases htarget
  · rfl

/-! ### The refusals of an account (R6, check 3) -/

theorem accountRefusal_free {a : Account} (h : a.state = .free) : accountRefusal a = some .wrongState := by
  rw [accountRefusal, h]

theorem accountRefusal_blocked {a : Account} (h : a.state = .blocked) : accountRefusal a = some .blocked := by
  rw [accountRefusal, h]

theorem accountRefusal_opened {a : Account} (h : a.state = .opened) : accountRefusal a = none := by rw [accountRefusal, h]

theorem opened_of_not {a : Account} (hfree : ¬ a.state = .free) (hblocked : ¬ a.state = .blocked) : a.state = .opened := by
  cases h : a.state with
  | opened => rfl
  | free => exact absurd h hfree
  | blocked => exact absurd h hblocked

section
variable {s : State} {heat : Option (Fin 16)}

theorem heatRefusal_some {code : ResultCode} (h : ∃ a ∈ heat, accountRefusal (s.account a) = some code) :
    heatRefusal s heat = some code := by
  obtain ⟨a, rfl, hrefused⟩ := h
  exact hrefused

theorem heatRefusal_none (h : ∀ a ∈ heat, (s.account a).state = .opened) : heatRefusal s heat = none := by
  cases heat with
  | none => rfl
  | some a => exact accountRefusal_opened (h a rfl)

end

/-- A search over the places of a table finds the lowest. -/
theorem find?_finRange {n : Nat} {q : Fin n → Bool} {i : Fin n} (hi : q i = true) (hlowest : ∀ j, j < i → q j = false) :
    (List.finRange n).find? q = some i := by
  refine List.find?_eq_some_iff_append.2 ⟨hi, (List.finRange n).take i.val, (List.finRange n).drop (i.val + 1), ?_, ?_⟩
  · have hlength : i.val < (List.finRange n).length := by simp
    have hget : (List.finRange n)[i.val] = i := by simp
    conv_lhs => rw [← List.take_append_drop i.val (List.finRange n), List.drop_eq_getElem_cons hlength, hget]
  · intro j hj
    obtain ⟨k, hk, rfl⟩ := List.mem_take_iff_getElem.1 hj
    have hlt : (List.finRange n)[k]'(by omega) < i := by
      rw [List.getElem_finRange, Fin.lt_def]
      exact (Nat.lt_min.1 hk).1
    rw [hlowest _ hlt]
    rfl

/-- The first FREE slot is the lowest (R7). -/
theorem freeSlot_eq_some {s : State} {i : Fin 8} (hfree : (s.session i).state = .free)
    (hlowest : ∀ j, j < i → (s.session j).state ≠ .free) : freeSlot s = some i :=
  find?_finRange (beq_iff_eq.2 hfree) fun j hj => beq_eq_false_iff_ne.2 (hlowest j hj)

theorem freeSlot_eq_none {s : State} (h : ∀ i, (s.session i).state ≠ .free) : freeSlot s = none :=
  List.find?_eq_none.2 fun i _ => by simpa using h i

theorem holdsAvailable_iff (s : State) (z : Authorization) : holdsAvailable s z = true ↔
    covers (s.account z.charge) (s.account z.charge).holdStep = true ∧
    ∀ h ∈ z.heat, covers (s.account h) (s.account h).holdStep = true := by
  unfold holdsAvailable canHold
  cases z.heat <;> simp

/-! ### The replies to AUTHORIZE -/

section
variable {s : State} {charge : Byte} {heat : Option Byte} {chain : Byte} {target : Option (BitVec 32)} {z : Authorization}

theorem requestAuthorize_bad (h : authorization? charge heat chain target = none) :
    requestAuthorize charge heat chain target s = refuse s .badValue := by
  rw [requestAuthorize, h]

theorem requestAuthorize_refused {code : ResultCode} (h : authorization? charge heat chain target = some z)
    (hchecks : authorizeChecks z s = .error code) : requestAuthorize charge heat chain target s = refuse s code := by
  simp only [requestAuthorize, h, hchecks]

theorem requestAuthorize_filled {i : Fin 8} (h : authorization? charge heat chain target = some z)
    (hchecks : authorizeChecks z s = .ok i) : requestAuthorize charge heat chain target s =
      accept (liveAtOnce (fillSlot i z s)) (byte i.val ++ half ((liveAtOnce (fillSlot i z s)).session i).serial ++
        byte ((liveAtOnce (fillSlot i z s)).session i).state.code) := by
  simp only [requestAuthorize, h, hchecks]

end

/-- Settles O11: the fields first, then each check where those before it pass. -/
theorem authorizeRefusals : Obligations.AuthorizeRefusals := by
  refine ⟨fun s charge heat chain target hready hbad =>
    executes_refuse hready rfl (requestAuthorize_bad (authorization?_bad hbad)), fun s c heat k target hready hdiffer htarget => ?_⟩
  intro refused
  have hfields := authorization?_good (k := k) hdiffer htarget
  have hrefused {code : ResultCode} (hchecks : authorizeChecks ⟨c, heat, k, target.map BitVec.toNat⟩ s = .error code) :
      refused code := executes_refuse hready rfl (requestAuthorize_refused hfields hchecks)
  split
  · next hcalendar => exact hrefused (if_pos hcalendar)
  next hcalendar =>
  split
  · next hchain => exact hrefused (by simp only [authorizeChecks, if_neg hcalendar, if_pos hchain])
  next hchain =>
  split
  · next hfree =>
    exact hrefused (by simp only [authorizeChecks, if_neg hcalendar, if_neg hchain, accountRefusal_free hfree])
  next hfree =>
  split
  · next hblocked =>
    exact hrefused (by simp only [authorizeChecks, if_neg hcalendar, if_neg hchain, accountRefusal_blocked hblocked])
  next hblocked =>
  have hcharge := accountRefusal_opened (opened_of_not hfree hblocked)
  split
  · next hheat =>
    have hheatFree := heatRefusal_some (hheat.imp fun a ha => ⟨ha.1, accountRefusal_free ha.2⟩)
    exact hrefused (by simp only [authorizeChecks, if_neg hcalendar, if_neg hchain, hcharge, hheatFree])
  next hheatUsed =>
  split
  · next hheat =>
    have hheatBlocked := heatRefusal_some (hheat.imp fun a ha => ⟨ha.1, accountRefusal_blocked ha.2⟩)
    exact hrefused (by simp only [authorizeChecks, if_neg hcalendar, if_neg hchain, hcharge, hheatBlocked])
  next hheatOpen =>
  have hheat := heatRefusal_none (s := s) (heat := heat) fun a ha =>
    opened_of_not (fun hf => hheatUsed ⟨a, ha, hf⟩) fun hb => hheatOpen ⟨a, ha, hb⟩
  split
  · next hfull =>
    have hslot := freeSlot_eq_none hfull
    exact hrefused (by simp only [authorizeChecks, if_neg hcalendar, if_neg hchain, hcharge, hheat, hslot])
  next hroom =>
  intro hfunds
  obtain ⟨i, hslot⟩ : ∃ i, freeSlot s = some i := Option.ne_none_iff_exists'.1 fun hnone =>
    hroom fun i hfree => absurd (beq_iff_eq.2 hfree) (List.find?_eq_none.1 hnone i (List.mem_finRange i))
  have hholds : ¬ holdsAvailable s ⟨c, heat, k, target.map BitVec.toNat⟩ = true := by
    rw [holdsAvailable_iff]
    rintro ⟨hc, hh⟩
    rcases hfunds with hbad | ⟨a, ha, hbad⟩
    · exact absurd (hc.symm.trans hbad) (by decide)
    · exact absurd ((hh a ha).symm.trans hbad) (by decide)
  exact hrefused (by simp only [authorizeChecks, if_neg hcalendar, if_neg hchain, hcharge, hheat, hslot, if_neg hholds])

end Sys2Proof.Machine
end

section
/-! AUTHORIZE whose checks pass (R7), and CANCEL (R19): the state that each leaves. -/

namespace Sys2Proof.Machine

/-! ### The session that AUTHORIZE makes (R7) -/

theorem goLive_serial (s : State) (i : Fin 8) : ((goLive s).session i).serial = (s.session i).serial := by
  cases hqueue : s.sessions.queue with
  | nil => rw [goLive_empty hqueue]
  | cons j rest =>
    rw [goLive_session hqueue]
    split
    · next hij => subst hij; rfl
    · rfl

theorem liveAtOnce_serial (s : State) (i : Fin 8) : ((liveAtOnce s).session i).serial = (s.session i).serial := by
  unfold liveAtOnce
  split
  · exact goLive_serial s i
  · rfl

/-- A new record in a FREE slot does not accrue. -/
theorem accruingSlot_fillSlot {s : State} {i : Fin 8} (z : Authorization) (hfree : (s.session i).state = .free) :
    accruingSlot (fillSlot i z s) = none ↔ ∀ j, (s.session j).state.accrues = false := by
  rw [accruingSlot_none]
  refine forall_congr' fun j => ?_
  rw [fillSlot_session]
  split
  · next hij => subst hij; rw [hfree]; exact iff_of_true rfl rfl
  · rfl

theorem authorizeChecks_pass {s : State} {z : Authorization} {i : Fin 8} (hcalendar : s.tariff.calendar ≠ none)
    (hchain : (s.chain z.chain).state = .sealed) (hcharge : (s.account z.charge).state = .opened)
    (hheat : ∀ h ∈ z.heat, (s.account h).state = .opened) (hslot : freeSlot s = some i)
    (hholds : holdsAvailable s z = true) : authorizeChecks z s = .ok i := by
  have hsealed : ¬ (s.chain z.chain).state ≠ .sealed := not_not.2 hchain
  simp only [authorizeChecks, if_neg hcalendar, if_neg hsealed, accountRefusal_opened hcharge, heatRefusal_none hheat,
    hslot, if_pos hholds]

/-- Settles O10: the checks pass, and the slot is filled as the statement writes it out. -/
theorem authorizeFillsTheLowestFreeSlot : Obligations.AuthorizeFillsTheLowestFreeSlot := by
  intro s c heat k target m i hready hdiffer htarget hcalendar hchain hcharge hheat hfree hlowest hcovers hheatCovers
    placed held ledger locked filled after
  have hfields := authorization?_good (k := k) hdiffer htarget
  generalize hz : (⟨c, heat, k, target.map BitVec.toNat⟩ : Authorization) = z at hfields
  have hchecks : authorizeChecks z s = .ok i := by
    subst hz
    exact authorizeChecks_pass (by rw [hcalendar]; exact Option.some_ne_none m) hchain hcharge hheat
      (freeSlot_eq_some hfree hlowest) ((holdsAvailable_iff s _).2 ⟨hcovers, hheatCovers⟩)
  have hfilled : fillSlot i z s = filled := by
    have hminute : minuteNow s = m := by rw [minuteNow, hcalendar]; rfl
    have hplaced : s.setSession i (authorizedRecord z s) = placed := by
      rw [authorizedRecord, hminute, ← hz]
    simp only [fillSlot]
    rw [hplaced]
    subst hz
    cases heat <;> rfl
  have hafter : liveAtOnce (fillSlot i z s) = after := by
    have hsupply : (fillSlot i z s).supply = s.supply := by simp
    have hslot := accruingSlot_fillSlot z hfree
    rw [hfilled] at hsupply hslot
    rw [hfilled, liveAtOnce, hsupply]
    simp only [hslot, after]
  have hreply := requestAuthorize_filled hfields hchecks
  rw [liveAtOnce_serial, fillSlot_session, if_pos rfl, hafter] at hreply
  exact executes_accept hready rfl hreply

/-! ### CANCEL (R19) -/

/-- Settles O14: an AUTHORIZED session is voided as the statement writes it out, another state is refused. -/
theorem cancelVoidsAnAuthorizedSession : Obligations.CancelVoidsAnAuthorizedSession := by
  intro p s slot serial i hready hnamed r lowered ledger unlocked freed
  have hpermitted : permitted p (.cancel slot serial) = true := by cases p <;> rfl
  have hrule := onSession_of_named hnamed fun i =>
    if (s.session i).state = .authorized then accept (voidSession i s) [] else refuse s .wrongState
  refine ⟨fun hwaits => ?_, fun hother => executes_refuse hready hpermitted (hrule.trans (if_neg hother))⟩
  have hvoid : voidSession i s = post .sessionVoid freed := by
    have hheat : (s.session i).heatAccount = r.heatAccount := rfl
    simp only [freed, unlocked, ledger, voidSession, hheat]
    cases r.heatAccount <;> rfl
  rw [← hvoid]
  exact executes_accept hready hpermitted (hrule.trans (if_pos hwaits))

end Sys2Proof.Machine
end

section
/-! A close (R22, R24, R42): the record, the accounts and the chain it leaves. -/

namespace Sys2Proof.Machine

/-- An account debited with a cost, a hold released (R42). -/
def Account.debited (a : Account) (cost hold : Nat) : Account :=
  { a with balance := saturateMoney (a.balance - (cost : Int)), held := a.held - hold }

/-- The cost that the charge hold covers (R70). -/
theorem coveredCost_charge (r : Session) :
    r.coveredCost .charge = if r.heatAccount = none then r.chargeCost + r.heatCost else r.chargeCost := by
  unfold Session.coveredCost
  cases r.heatAccount <;> rfl

section
variable (reason : CloseReason) (i : Fin 8) (s : State)

theorem closeRecord_same : (closeRecord reason i s).session i = (s.session i).closedRecord reason s := by
  rw [closeRecord_session, if_pos rfl]

theorem closeRecord_others : OtherSessionsSame i s (closeRecord reason i s) := by
  refine ⟨fun j hj => ?_, closeRecord_queue reason i s, ?_⟩
  · rw [closeRecord_session, if_neg hj.symm]
  · rw [closeRecord_eq, settledBoth, atBoth_eq]; rfl

theorem closeRecord_tariff : (closeRecord reason i s).tariff = (unlockChain (s.session i).chain s).tariff := by
  rw [closeRecord_eq, settledBoth, atBoth_eq]; rfl

theorem closeRecord_attention : (closeRecord reason i s).attention = (post .sessionClosed s).attention := by
  rw [closeRecord_eq, settledBoth, atBoth_eq]; rfl

variable (hdiffer : (s.session i).heatAccount ≠ some (s.session i).chargeAccount)
include hdiffer

theorem closeRecord_charge : (closeRecord reason i s).account (s.session i).chargeAccount =
    (s.account (s.session i).chargeAccount).debited ((s.session i).coveredCost .charge) (s.session i).chargeHold := by
  rw [closeRecord_account, settledBoth, atBoth_account hdiffer, if_pos rfl]
  rfl

theorem closeRecord_heat {h : Fin 16} (hheat : (s.session i).heatAccount = some h) :
    (closeRecord reason i s).account h = (s.account h).debited (s.session i).heatCost ((s.session i).heatHold.getD 0) := by
  have hne : (s.session i).chargeAccount ≠ h := fun heq => hdiffer (by rw [hheat, heq])
  rw [closeRecord_account, settledBoth, atBoth_account hdiffer, if_neg hne, if_pos hheat]
  rfl

theorem closeRecord_other {a : Fin 16} (hcharge : a ≠ (s.session i).chargeAccount)
    (hheat : (s.session i).heatAccount ≠ some a) : (closeRecord reason i s).account a = s.account a := by
  rw [closeRecord_account, settledBoth, atBoth_account hdiffer, if_neg hcharge.symm, if_neg hheat]

end

/-- Settles O19: record, accounts and chain as above, and the blocks that a close does not reach. -/
theorem sessionClose : Obligations.SessionClose := by
  intro reason i s m hcalendar hdiffer r t debited
  have hminute : minuteNow s = m := by rw [minuteNow, hcalendar]; rfl
  refine ⟨?_, ?_, fun h hheat => closeRecord_heat reason i s hdiffer hheat,
    fun a hcharge hheat => closeRecord_other reason i s hdiffer hcharge hheat, closeRecord_tariff reason i s,
    closeRecord_attention reason i s, closeRecord_others reason i s, ?_⟩
  · refine (closeRecord_same reason i s).trans ?_
    rw [Session.closedRecord, hminute]
  · refine (closeRecord_charge reason i s hdiffer).trans ?_
    rw [coveredCost_charge]
    rfl
  · simp [t]

end Sys2Proof.Machine
end

section
/-! Account requests (R31, R34 to R37): OPEN_ACCOUNT and the requests that set one field. -/

namespace Sys2Proof.Machine

/-! ### OPEN_ACCOUNT (R31) -/

theorem kind?_code (k : AccountKind) : kind? (index k.code) = some k := by cases k <;> rfl

theorem kind?_eq_none {b : Byte} (hbad : 3 ≤ b.toNat) : kind? b = none := by
  have hzero : b ≠ 0 := by rintro rfl; exact absurd hbad (by decide)
  have hone : b ≠ 1 := by rintro rfl; exact absurd hbad (by decide)
  have htwo : b ≠ 2 := by rintro rfl; exact absurd hbad (by decide)
  rw [kind?, if_neg hzero, if_neg hone, if_neg htwo]

theorem kind?_eq_creditLine_iff {b : Byte} {k : AccountKind} (h : kind? b = some k) : k = .creditLine ↔ b = 1 := by
  unfold kind? at h
  split at h
  · next hb => subst hb; obtain rfl := Option.some.inj h; exact iff_of_false AccountKind.noConfusion (by decide)
  · split at h
    · next hb => obtain rfl := Option.some.inj h; exact iff_of_true rfl hb
    · next hb =>
      split at h
      · obtain rfl := Option.some.inj h; exact iff_of_false AccountKind.noConfusion hb
      · cases h

theorem holdStep?_good {w : BitVec 40} (hlow : 1 ≤ w.toInt) (hhigh : w.toInt ≤ 2000000000) :
    holdStep? w = some w.toInt.toNat := if_pos ⟨hlow, hhigh⟩

theorem holdStep?_bad {w : BitVec 40} (hbad : w.toInt < 1 ∨ 2000000000 < w.toInt) : holdStep? w = none :=
  if_neg (by omega)

theorem limit?_good {w : BitVec 40} (hgood : 0 ≤ w.toInt) : limit? w = some w.toInt.toNat := if_pos hgood

theorem limit?_bad {w : BitVec 40} (hbad : w.toInt < 0) : limit? w = none := if_neg hbad.not_ge

theorem openLimit?_good {k : AccountKind} {w : BitVec 40}
    (hgood : if k = .creditLine then 0 ≤ w.toInt else w = 0) :
    openLimit? k w = some (if k = .creditLine then some w.toInt.toNat else none) := by
  cases k with
  | creditLine => exact congrArg (Option.map some) (limit?_good hgood)
  | prepaid | depot => exact if_pos hgood

theorem openLimit?_bad {k : AccountKind} {w : BitVec 40}
    (hbad : (k = .creditLine ∧ w.toInt < 0) ∨ (k ≠ .creditLine ∧ w ≠ 0)) : openLimit? k w = none := by
  cases k with
  | creditLine =>
    have hlimit := limit?_bad (hbad.resolve_right fun h => h.1 rfl).2
    exact congrArg (Option.map some) hlimit
  | prepaid | depot => exact if_neg (hbad.resolve_left fun h => AccountKind.noConfusion h.1).2

theorem openedAccount?_good {id : BitVec 32} {k : AccountKind} {balance limit holdStep : BitVec 40} (hid : id ≠ 0)
    (hlimit : if k = .creditLine then 0 ≤ limit.toInt else limit = 0) (hlow : 1 ≤ holdStep.toInt)
    (hhigh : holdStep.toInt ≤ 2000000000) : openedAccount? id (index k.code) balance limit holdStep =
      some { state := .opened, id := id.toNat, kind := some k, balance := balance.toInt
             limit := if k = .creditLine then some limit.toInt.toNat else none
             held := 0, holdStep := holdStep.toInt.toNat, sessionCount := 0 } := by
  simp only [openedAccount?, kind?_code, openLimit?_good hlimit, holdStep?_good hlow hhigh, if_neg hid]

theorem openedAccount?_bad {id : BitVec 32} {kind : Byte} {balance limit holdStep : BitVec 40}
    (hbad : id = 0 ∨ 3 ≤ kind.toNat ∨ (kind = 1 ∧ limit.toInt < 0) ∨ (kind ≠ 1 ∧ limit ≠ 0) ∨ holdStep.toInt < 1 ∨
      2000000000 < holdStep.toInt) : openedAccount? id kind balance limit holdStep = none := by
  unfold openedAccount?
  split
  · rfl
  · next k hkind =>
    have hcredit := kind?_eq_creditLine_iff hkind
    split
    · next l step hlimit hstep =>
      refine if_pos (hbad.resolve_right ?_)
      rintro (hk | ⟨hk, hl⟩ | ⟨hk, hl⟩ | hs)
      · rw [kind?_eq_none hk] at hkind; cases hkind
      · rw [openLimit?_bad (.inl ⟨hcredit.2 hk, hl⟩)] at hlimit; cases hlimit
      · rw [openLimit?_bad (.inr ⟨fun h => hk (hcredit.1 h), hl⟩)] at hlimit; cases hlimit
      · rw [holdStep?_bad hs] at hstep; cases hstep
    · rfl

theorem idInUse_iff {id : Nat} {s : State} :
    idInUse id s = true ↔ ∃ a, (s.account a).state ≠ .free ∧ (s.account a).id = id := by
  simp [idInUse]

theorem freeAccount_eq_some {s : State} {a : Fin 16} (hfree : (s.account a).state = .free)
    (hlowest : ∀ b, b < a → (s.account b).state ≠ .free) : freeAccount s = some a :=
  find?_finRange (beq_iff_eq.2 hfree) fun b hb => beq_eq_false_iff_ne.2 (hlowest b hb)

theorem freeAccount_eq_none {s : State} (h : ∀ a, (s.account a).state ≠ .free) : freeAccount s = none :=
  List.find?_eq_none.2 fun a _ => by simpa using h a

/-- Settles O21: the fields, then the id, then the lowest FREE record. -/
theorem openAccount : Obligations.OpenAccount := by
  refine ⟨fun s id kind balance limit holdStep hready hbad => executes_refuse hready rfl ?_,
    fun s id kind balance limit holdStep hready hid hlimit hlow hhigh => ?_⟩
  · rw [serve, requestOpenAccount, openedAccount?_bad hbad]
  intro q
  have hfields := openedAccount?_good (balance := balance) hid hlimit hlow hhigh
  have hserve : serve .bp s q = requestOpenAccount id (index kind.code) balance limit holdStep s := rfl
  refine ⟨fun hused => executes_refuse hready rfl ?_, fun hfull => executes_refuse hready rfl ?_,
    fun a hunused hfree hlowest => executes_accept hready rfl ?_⟩
  · simp only [hserve, requestOpenAccount, hfields, if_pos (idInUse_iff.2 hused)]
  · have hnew : ¬ idInUse id.toNat s = true := fun h => by
      obtain ⟨a, -, hsame⟩ := idInUse_iff.1 h
      exact (hfull a).2 hsame
    simp only [hserve, requestOpenAccount, hfields, if_neg hnew, freeAccount_eq_none fun a => (hfull a).1]
  · have hnew : ¬ idInUse id.toNat s = true := fun h => by
      obtain ⟨b, hb, hsame⟩ := idInUse_iff.1 h
      exact hunused b hb hsame
    simp only [hserve, requestOpenAccount, hfields, if_neg hnew, freeAccount_eq_some hfree hlowest]

/-! ### The requests that set one field (R34 to R37) -/

/-- Settles O23: each request by the account it names and its field. -/
theorem accountSettings : Obligations.AccountSettings := by
  refine ⟨fun s b id v a hready hnamed => ⟨fun hbad => executes_refuse hready rfl ?_,
    fun hbad => executes_refuse hready rfl ?_⟩, fun s b id v a hready hnamed => ?_⟩
  · rw [serve, requestSetLimit, onAccount_of_named hnamed, limit?_bad hbad]
  · rw [serve, requestSetStep, onAccount_of_named hnamed, holdStep?_bad hbad]
  intro r limited opened
  refine ⟨fun hkind hgood => executes_refuse hready rfl ?_, fun l hkind hlimit hgood => executes_accept hready rfl ?_,
    fun hlow hhigh => executes_accept hready rfl ?_, executes_accept hready rfl (onAccount_of_named hnamed _),
    fun hblocked => executes_accept hready rfl ((onAccount_of_named hnamed _).trans (if_pos hblocked)),
    fun hopened => executes_accept hready rfl ((onAccount_of_named hnamed _).trans (if_neg ?_)),
    fun hnone => executes_accept hready rfl ((onAccount_of_named hnamed _).trans (if_pos hnone)),
    fun hsome => executes_refuse hready rfl ((onAccount_of_named hnamed _).trans (if_neg hsome))⟩
  · rw [serve, requestSetLimit, onAccount_of_named hnamed, limit?_good hgood]
    exact if_neg hkind
  · have hrose : (s.account a).limit.getD 0 < v.toInt.toNat ↔ (l : Int) < v.toInt := by
      rw [show (s.account a).limit = some l from hlimit, Option.getD_some]
      omega
    rw [serve, requestSetLimit, onAccount_of_named hnamed, limit?_good hgood]
    refine (if_pos hkind).trans ?_
    simp only [hrose]
    rfl
  · rw [serve, requestSetStep, onAccount_of_named hnamed, holdStep?_good hlow hhigh]
  · rw [show (s.account a).state = .opened from hopened]; exact AccountState.noConfusion

end Sys2Proof.Machine
end

section
/-! WRITE_BAND and FREE_BAND (R48, R49), SET_CALENDAR and SET_LIFETIME (R47, R55, R58). -/

namespace Sys2Proof.Machine

/-! ### WRITE_BAND (R48) -/

theorem requestWriteBand_bad {b c n : Byte} {m cr hr occ : BitVec 16} {cap : Option (BitVec 32)} (s : State)
    (hbad : 32 ≤ b.toNat ∨ 4 ≤ c.toNat ∨ 32 ≤ n.toNat ∨ 10079 < m.toNat ∨ ∃ w ∈ cap, 65535 < w.toNat) :
    requestWriteBand b c m cr hr occ cap n s = refuse s .badValue := by
  unfold requestWriteBand
  split
  · next i k j v p hb hc hn hm hcap =>
    rcases hbad with h | h | h | h | ⟨w, hw, h⟩
    · rw [index?_eq_none h] at hb; cases hb
    · rw [index?_eq_none h] at hc; cases hc
    · rw [index?_eq_none h] at hn; cases hn
    · rw [within?_eq_none (.inr h)] at hm; cases hm
    · rw [present?_eq_none ⟨w, hw, within?_eq_none (.inr h)⟩] at hcap; cases hcap
  · rfl

section
variable {s : State} {b n : Fin 32} {c : Fin 4} {m cr hr occ : BitVec 16} {cap : Option (BitVec 32)}

theorem bandRefusal_sealed (hused : (s.band b).state = .used) (hsealed : (s.chain (s.band b).tag).state = .sealed) :
    bandRefusal s b c = some .wrongState := by
  rw [bandRefusal, if_pos hused, if_pos hsealed]

theorem bandRefusal_tag (hused : (s.band b).state = .used) (hopen : ¬ (s.chain (s.band b).tag).state = .sealed)
    (htag : (s.band b).tag ≠ c) : bandRefusal s b c = some .inUse := by
  rw [bandRefusal, if_pos hused, if_neg hopen, if_pos htag]

theorem bandRefusal_none (hsealed : ¬ ((s.band b).state = .used ∧ (s.chain (s.band b).tag).state = .sealed))
    (htag : ¬ ((s.band b).state = .used ∧ (s.band b).tag ≠ c)) : bandRefusal s b c = none := by
  unfold bandRefusal
  split
  · next hused => rw [if_neg fun h => hsealed ⟨hused, h⟩, if_neg fun h => htag ⟨hused, h⟩]
  · rfl

/-- A WRITE_BAND with its fields in range, by the chain and the band's present use. -/
theorem requestWriteBand_good (hm : m.toNat ≤ 10079) (hcap : ∀ w ∈ cap, w.toNat ≤ 65535) :
    requestWriteBand (index b.val) (index c.val) m cr hr occ cap (index n.val) s =
      if (s.chain c).state = .sealed then refuse s .wrongState
      else match bandRefusal s b c with
        | some code => refuse s code
        | none => accept ((s.setBand b
            ⟨.used, c, m.toNat, cr.toNat, hr.toNat, occ.toNat, cap.map BitVec.toNat, n⟩).setChain c
              (chainAfterWrite (s.chain c) b ((s.band b).state = .free)))
            (chainSummary (chainAfterWrite (s.chain c) b ((s.band b).state = .free))) := by
  have hread : present? (fun w : BitVec 32 => within? 0 65535 w.toNat) cap = some (cap.map BitVec.toNat) :=
    present?_eq_some fun w hw => within?_eq_some (Nat.zero_le _) (hcap w hw)
  simp only [requestWriteBand, index?_band, index?_chain, within?_eq_some (Nat.zero_le _) hm, hread] <;> rfl

theorem chainAfterWrite_eq (r : Chain) (b : Fin 32) (wasFree : Prop) [Decidable wasFree] :
    chainAfterWrite r b (decide wasFree) = { r with
      state := .opened, head := if r.state = .empty then some b else r.head
      bandCount := if wasFree then r.bandCount + 1 else r.bandCount } := by
  simp only [chainAfterWrite, decide_eq_true_eq]

end

/-! ### FREE_BAND (R49) -/

/-- The bands still tagged with a chain when one of them has been freed. -/
theorem taggedBands_setBand (s : State) (b : Fin 32) (c : Fin 4) : taggedBands (s.setBand b .free).tariff c =
    (List.finRange 32).filter fun x => decide (x ≠ b ∧ (s.band x).state = .used ∧ (s.band x).tag = c) := by
  rw [taggedBands_eq]
  refine List.filter_congr fun x _ => decide_eq_decide.2 ?_
  rw [State.setBand_at]
  split
  · next h => subst h; exact iff_of_false (fun hf => BandState.noConfusion hf.1) fun hne => hne.1 rfl
  · next h => exact (and_iff_right (Ne.symm h)).symm

theorem requestFreeBand_bad {b : Byte} {s : State} (hbad : 32 ≤ b.toNat) : requestFreeBand b s = refuse s .badValue := by
  rw [requestFreeBand, index?_eq_none hbad]

/-- A FREE_BAND of a band in range, by the band and its chain. -/
theorem requestFreeBand_good (b : Fin 32) (s : State) : requestFreeBand (index b.val) s =
    if (s.band b).state = .free then accept s []
    else if (s.chain (s.band b).tag).state = .sealed then refuse s .wrongState
    else
      let after := chainAfterFree (s.chain (s.band b).tag) b (taggedBands (s.setBand b .free).tariff (s.band b).tag)
      accept ((s.setBand b .free).setChain (s.band b).tag after) (chainSummary after) := by
  simp only [requestFreeBand, index?_band]

/-- Settles O25: fields, chain and band by the lemmas above, for each of the two requests. -/
theorem writeAndFreeBand : Obligations.WriteAndFreeBand := by
  refine ⟨fun s b c n m cr hr occ cap hready hbad => executes_refuse hready rfl (requestWriteBand_bad s hbad),
    fun s b n c m cr hr occ cap hready hm hcap => ?_,
    fun s b hready hbad => executes_refuse hready rfl (requestFreeBand_bad hbad), fun s b hready => ?_⟩
  · intro q old chain after
    have hserve : serve .bp s q = _ := requestWriteBand_good hm hcap
    split
    · next hsealed => exact executes_refuse hready rfl (hserve.trans (if_pos hsealed))
    next hsealed =>
    rw [if_neg hsealed] at hserve
    split
    · next hlocked => exact executes_refuse hready rfl (by rw [hserve, bandRefusal_sealed hlocked.1 hlocked.2])
    next hlocked =>
    split
    · next hother =>
      exact executes_refuse hready rfl (by rw [hserve, bandRefusal_tag hother.1 (fun h => hlocked ⟨hother.1, h⟩) hother.2])
    next hother =>
    refine executes_accept hready rfl ?_
    rw [hserve, bandRefusal_none hlocked hother, chainAfterWrite_eq]
  · intro c chain left after
    have hserve : serve .bp s (.freeBand (index b.val)) = _ := requestFreeBand_good b s
    split
    · next hfree => exact executes_accept hready rfl (hserve.trans (if_pos hfree))
    next hused =>
    rw [if_neg hused] at hserve
    split
    · next hsealed => exact executes_refuse hready rfl (hserve.trans (if_pos hsealed))
    next hopen =>
    refine executes_accept hready rfl ((hserve.trans (if_neg hopen)).trans ?_)
    rw [taggedBands_setBand]
    rfl

/-! ### The band that covers a minute (R47) -/

/-- The last of a list ordered by a relation comes after all others. -/
theorem rel_getLast?_of_pairwise {α : Type} {R : α → α → Prop} {l : List α} (h : l.Pairwise R) {b : α}
    (hlast : l.getLast? = some b) : ∀ x ∈ l, x = b ∨ R x b := by
  obtain ⟨front, rfl⟩ := List.getLast?_eq_some_iff.1 hlast
  intro x hx
  rcases List.mem_append.1 hx with hfront | hend
  · exact .inr ((List.pairwise_append.1 h).2.2 x hfront b (List.mem_singleton.2 rfl))
  · exact .inl (List.mem_singleton.1 hend)

section
variable {t : TariffStore} {c : Fin 4} {m : Nat}

/-- The bands that start at or before a minute. -/
def begunBands (t : TariffStore) (c : Fin 4) (m : Nat) : List (Fin 32) :=
  (cycleBands t c).filter fun b => t.bands[b].start ≤ m

theorem coveringBand_begun {b : Fin 32} (h : (begunBands t c m).getLast? = some b) : coveringBand t c m = some b := by
  rw [coveringBand, ← begunBands, h]

theorem coveringBand_none (h : (begunBands t c m).getLast? = none) : coveringBand t c m = (cycleBands t c).getLast? := by
  rw [coveringBand, ← begunBands, h]

theorem mem_begunBands {b : Fin 32} : b ∈ begunBands t c m ↔ b ∈ cycleBands t c ∧ t.bands[b].start ≤ m := by
  rw [begunBands, List.mem_filter, decide_eq_true_eq]

/-- Of a chain whose starts rise, the band with the latest start at or before the minute covers it, else the last. -/
theorem coveringBand_of_rising (hsome : cycleBands t c ≠ [])
    (hrising : (cycleBands t c).Pairwise fun x y => t.bands[x].start < t.bands[y].start) :
    ∃ b, b ∈ cycleBands t c ∧ coveringBand t c m = some b ∧
      ((∃ x ∈ cycleBands t c, t.bands[x].start ≤ m) → t.bands[b].start ≤ m ∧
        ∀ x ∈ cycleBands t c, t.bands[x].start ≤ m → t.bands[x].start ≤ t.bands[b].start) ∧
      ((∀ x ∈ cycleBands t c, m < t.bands[x].start) → (cycleBands t c).getLast? = some b) := by
  cases hlast : (begunBands t c m).getLast? with
  | some b =>
    obtain ⟨hmem, hbegun⟩ := mem_begunBands.1 (List.mem_of_getLast? hlast)
    refine ⟨b, hmem, coveringBand_begun hlast, fun _ => ⟨hbegun, fun x hx hxm => ?_⟩,
      fun hnone => absurd (hnone b hmem) hbegun.not_gt⟩
    obtain rfl | hlt := rel_getLast?_of_pairwise (hrising.filter _) hlast x (mem_begunBands.2 ⟨hx, hxm⟩)
    · exact Nat.le_refl _
    · exact hlt.le
  | none =>
    have hempty := List.getLast?_eq_none_iff.1 hlast
    refine ⟨(cycleBands t c).getLast hsome, List.getLast_mem hsome,
      (coveringBand_none hlast).trans (List.getLast?_eq_some_getLast hsome), ?_,
      fun _ => List.getLast?_eq_some_getLast hsome⟩
    rintro ⟨x, hx, hxm⟩
    have hbegun := mem_begunBands.2 ⟨hx, hxm⟩
    rw [hempty] at hbegun
    exact absurd hbegun List.not_mem_nil

end

/-! ### SET_CALENDAR and SET_LIFETIME (R55, R58) -/

/-- A change that keeps which sessions are live keeps the live slot. -/
theorem liveSlot_congr {s t : State} (h : ∀ i, (t.session i).state.isLive = (s.session i).state.isLive) :
    liveSlot t = liveSlot s := by
  unfold liveSlot
  exact congrArg (fun q => (List.finRange 8).find? q) (funext h)

theorem liveSlot_setCalendar (m : Nat) (s : State) : liveSlot (setCalendar m s) = liveSlot s :=
  liveSlot_congr fun i => (updateBands_acts _ (s.setTariff _)).isLive_eq i

theorem requestSetCalendar_good {m : BitVec 16} (hrange : m.toNat ≤ 10079) (s : State) : requestSetCalendar m s =
    let band := (liveSlot s).bind fun i => ((setCalendar m.toNat s).session i).currentBand
    accept (setCalendar m.toNat s)
      (byte (if band.isSome then 1 else 0) ++ half m.toNat ++ byte ((band.map Fin.val).getD 0)) := by
  simp only [requestSetCalendar, within?_eq_some (Nat.zero_le _) hrange, liveSlot_setCalendar, mask_singleton]

/-- Settles O27: the ranges, the covering band above, and the calendar as SET_CALENDAR sets it. -/
theorem setCalendarAndLifetime : Obligations.SetCalendarAndLifetime := by
  refine ⟨fun s m hready hbad => executes_refuse hready rfl ?_, fun s m hready hbad => executes_refuse hready rfl ?_,
    fun s m hready hrange => executes_accept hready rfl ?_,
    fun t c m hsome hrising => coveringBand_of_rising hsome hrising,
    fun s m hready hrange => executes_accept hready rfl (requestSetCalendar_good hrange s)⟩
  · rw [serve, requestSetCalendar, within?_eq_none (.inr hbad)]
  · rw [serve, requestSetLifetime, within?_eq_none (.inr hbad)]
  · rw [serve, requestSetLifetime, within?_eq_some (Nat.zero_le _) hrange]
    rfl

end Sys2Proof.Machine
end

section
/-! The assembly of frames (R78 to R80), the Offer Monitor's record (R95 to R99) and the capture of a period (R93, R94). -/

namespace Sys2Proof.Machine

/-! ### The tariff while sessions move -/

/-- Of the tariff only the chains' records differ. -/
def OnlyChains (s t : State) : Prop := ∃ chains, t.tariff = { s.tariff with chains := chains }

theorem OnlyChains.of_eq {s t : State} (h : t.tariff = s.tariff) : OnlyChains s t := ⟨_, h⟩

theorem OnlyChains.trans {s t u : State} : OnlyChains s t → OnlyChains t u → OnlyChains s u
  | ⟨_, h⟩, ⟨_, h'⟩ => ⟨_, by rw [h', h]⟩

theorem closeRecord_onlyChains (reason : CloseReason) (i : Fin 8) (s : State) :
    OnlyChains s (closeRecord reason i s) := ⟨_, closeRecord_tariff reason i s⟩

theorem Handles.onlyChains {s t : State} (h : Handles s t) : OnlyChains s t := by
  induction h with
  | acts hacts => exact .of_eq hacts.tariff_eq
  | trans _ _ ih ih' => exact ih.trans ih'
  | goLive s => exact .of_eq (by simp)
  | stop => exact .of_eq rfl
  | close reason => exact closeRecord_onlyChains reason _ _

theorem takePeriod_onlyChains (offer : Option Nat) (cls : LevelClass) (last : LastPeriod) (s : State) :
    OnlyChains s (takePeriod offer cls last s) :=
  .trans (t := s.setSupply (s.supply.taken offer cls last)) (.of_eq rfl) (takePeriod_handles offer cls last s).onlyChains

/-! ### Frames (R78 to R80) -/

/-- The frame of fifteen words, its words and its status. -/
theorem frameOf_length {ws : List Word} (h : ws.length = 15) :
    ∃ f, frameOf ws = some f ∧ f.words = ws.take 14 ∧ f.status = ws.headD 0 := by
  match ws, h with
  | [_, _, _, _, _, _, _, _, _, _, _, _, _, _, _], _ => exact ⟨_, rfl, rfl, rfl⟩

theorem takeDataWord_idle {s : State} (w : Word) (hidle : s.meter.assembly = none) : takeDataWord w s = s := by
  rw [takeDataWord, hidle]

theorem takeDataWord_short {s : State} (w : Word) {ws : List Word} (hassembly : s.meter.assembly = some ws)
    (hshort : ws.length < 14) : takeDataWord w s = s.setMeter { s.meter with assembly := some (ws ++ [w]) } := by
  simp only [takeDataWord, hassembly, if_pos hshort]

theorem takeDataWord_rejected {s : State} (w : Word) {ws : List Word} (hassembly : s.meter.assembly = some ws)
    (hlength : ws.length = 14) (hbad : acceptedFrame (ws ++ [w]) = none) :
    takeDataWord w s = s.setMeter { s.meter with assembly := none } := by
  have hfull : ¬ ws.length < 14 := by omega
  simp only [takeDataWord, hassembly, if_neg hfull, hbad]

theorem takeDataWord_accepted {s : State} (w : Word) {ws : List Word} {f : MeterFrame}
    (hassembly : s.meter.assembly = some ws) (hlength : ws.length = 14) (hgood : acceptedFrame (ws ++ [w]) = some f) :
    takeDataWord w s = acceptFrame f (s.setMeter { s.meter with assembly := none }) := by
  have hfull : ¬ ws.length < 14 := by omega
  simp only [takeDataWord, hassembly, if_neg hfull, hgood]

/-- Settles O31: the assembly by its length, the acceptance by sum and fault bit. -/
theorem frameAssembly : Obligations.FrameAssembly := by
  refine ⟨fun s => rfl, fun s w hidle => congrArg Host.Outcome.next (takeDataWord_idle w hidle),
    fun s w ws hassembly hshort => congrArg Host.Outcome.next (takeDataWord_short w hassembly hshort),
    fun s w ws hassembly hlength hbad => congrArg Host.Outcome.next (takeDataWord_rejected w hassembly hlength hbad),
    fun ws hlength => ?_⟩
  obtain ⟨f, hframe, hwords, hstatus⟩ := frameOf_length hlength
  have haccepted : acceptedFrame ws = if wordSum ws = 0 ∧ f.status.getLsbD 1 = false then some f else none := by
    rw [acceptedFrame, hframe]
  rw [haccepted, ← hstatus]
  split
  · next hgood => exact ⟨iff_of_true rfl hgood, fun g hg => Option.some.inj hg ▸ hwords⟩
  · next hbad => exact ⟨iff_of_false Bool.false_ne_true hbad, fun g hg => absurd hg (by nofun)⟩

/-! ### Judgement and adoption (R95 to R99) -/

theorem spreadTooWide_iff (run : List Nat) : spreadTooWide run = true ↔ ∃ a ∈ run, ∃ b ∈ run, b + 10 < a := by
  simp [spreadTooWide]

/-- What `trimRun` removes from the head: as little as makes the run short and narrow (R96). -/
theorem trimRun_drops (run : List Nat) : ∃ dropped, run = dropped ++ trimRun run ∧
    (trimRun run).length ≤ 3 ∧ (∀ a ∈ trimRun run, ∀ b ∈ trimRun run, a ≤ b + 10) ∧
    ∀ x rest, dropped = rest ++ [x] → 3 < (trimRun run).length + 1 ∨
      ∃ a ∈ x :: trimRun run, ∃ b ∈ x :: trimRun run, b + 10 < a := by
  induction run with
  | nil => exact ⟨[], rfl, Nat.zero_le 3, nofun, fun x rest h => absurd h (by simp)⟩
  | cons v rest ih =>
    by_cases hbad : 3 < (v :: rest).length ∨ spreadTooWide (v :: rest) = true
    · have htrim : trimRun (v :: rest) = trimRun rest := if_pos hbad
      obtain ⟨dropped, hsplit, hlength, hspread, hlast⟩ := ih
      rw [htrim]
      refine ⟨v :: dropped, by rw [List.cons_append, ← hsplit], hlength, hspread, fun x front hfront => ?_⟩
      cases front with
      | nil =>
        obtain ⟨rfl, rfl⟩ := List.cons.inj hfront
        rw [List.nil_append] at hsplit
        rw [← hsplit]
        exact hbad.imp_right (spreadTooWide_iff _).1
      | cons y front => exact hlast x front (List.cons.inj hfront).2
    · have htrim : trimRun (v :: rest) = v :: rest := if_neg hbad
      obtain ⟨hshort, hnarrow⟩ := not_or.1 hbad
      rw [htrim]
      refine ⟨[], rfl, Nat.le_of_not_lt hshort, fun a ha b hb => Nat.le_of_not_lt fun hwide => ?_,
        fun x rest h => absurd h (by simp)⟩
      exact hnarrow ((spreadTooWide_iff _).2 ⟨a, ha, b, hb, hwide⟩)

section
variable {length high : Nat}

theorem judgePeriod_invalid (hrange : length < 900 ∨ 1100 < length) : judgePeriod length high = .invalid := if_pos hrange

theorem judgePeriod_noOffer (hlow : 900 ≤ length) (hhigh : length ≤ 1100)
    (hduty : high * 1000 / length < 100 ∨ 900 < high * 1000 / length) : judgePeriod length high = .noOffer := by
  rw [judgePeriod, if_neg (by omega)]
  exact if_pos hduty

theorem judgePeriod_offers (hlow : 900 ≤ length) (hhigh : length ≤ 1100) (hduty : 100 ≤ high * 1000 / length)
    (hduty' : high * 1000 / length ≤ 900) : judgePeriod length high = .offer (high * 1000 / length - 100) := by
  have hgood : ¬ (dutyOf length high < 100 ∨ 900 < dutyOf length high) :=
    not_or.2 ⟨Nat.not_lt.2 hduty, Nat.not_lt.2 hduty'⟩
  rw [judgePeriod, if_neg (by omega), if_neg hgood]
  rfl

end

theorem adoptOffer_none (m : OfferMonitor) : m.adoptOffer none = { m with
    run := [], noOffer := min (m.noOffer + 1) 3, offered := if 3 ≤ m.noOffer + 1 then none else m.offered } := by
  have hthird : min (m.noOffer + 1) 3 = 3 ↔ 3 ≤ m.noOffer + 1 := by omega
  simp only [OfferMonitor.adoptOffer, hthird]

section
variable {c : LevelClass} {m : OfferMonitor}

theorem adoptClass_same (h : c = m.level) : m.adoptClass c = { m with candidate := none, classCount := 0 } := if_pos h

theorem adoptClass_first (hother : c ≠ m.level) (hnew : m.candidate ≠ some c) :
    m.adoptClass c = { m with candidate := some c, classCount := 1 } := by
  rw [OfferMonitor.adoptClass, if_neg hother, if_neg hnew]

theorem adoptClass_again (hother : c ≠ m.level) (hsame : m.candidate = some c) (hfew : m.classCount + 1 < 4) :
    m.adoptClass c = { m with classCount := m.classCount + 1 } := by
  rw [OfferMonitor.adoptClass, if_neg hother, if_pos hsame, if_neg hfew.not_ge]

theorem adoptClass_fourth (hother : c ≠ m.level) (hsame : m.candidate = some c) (hfour : 4 ≤ m.classCount + 1) :
    m.adoptClass c = { m with level := c, candidate := none, classCount := 0 } := by
  rw [OfferMonitor.adoptClass, if_neg hother, if_pos hsame, if_pos hfour]

end

/-- Settles O35: the judgement by its bounds, the adoptions by run, count and candidate. -/
theorem periodJudgementAndAdoption : Obligations.PeriodJudgementAndAdoption := by
  refine ⟨fun length high => ⟨judgePeriod_invalid, judgePeriod_noOffer, judgePeriod_offers⟩, fun v m => ?_,
    adoptOffer_none, fun c m => ⟨adoptClass_same, adoptClass_first, adoptClass_again, adoptClass_fourth⟩, fun v => ?_⟩
  · obtain ⟨dropped, hsplit, hlength, hspread, hlast⟩ := trimRun_drops (m.run ++ [v])
    exact ⟨dropped, hsplit, hlength, hspread, hlast, rfl⟩
  · cases v <;> exact ⟨rfl, rfl, rfl, rfl⟩

/-! ### Edges and overflow (R93, R94) -/

/-- What a period or overflow taken leaves of the other blocks. -/
theorem takePeriod_leaves (offer : Option Nat) (cls : LevelClass) (last : LastPeriod) (s : State) :
    (takePeriod offer cls last s).meter = s.meter ∧ (takePeriod offer cls last s).control = s.control ∧
    (takePeriod offer cls last s).billing = s.billing ∧
    (takePeriod offer cls last s).tariff.calendar = s.tariff.calendar ∧
    (takePeriod offer cls last s).tariff.minuteTimer = s.tariff.minuteTimer ∧
    (takePeriod offer cls last s).tariff.bands = s.tariff.bands ∧
    (takePeriod offer cls last s).pending = s.pending ∧
    (takePeriod offer cls last s).supply = s.supply.taken offer cls last := by
  obtain ⟨chains, htariff⟩ := takePeriod_onlyChains offer cls last s
  refine ⟨by simp, by simp, by simp, ?_, ?_, ?_, by simp, takePeriod_supply offer cls last s⟩
  all_goals rw [htariff]

/-- The capture while time passes. -/
theorem takeRisingEdge_waiting {s : State} {low : Word}
    (h : s.supply.capture = .waiting ∨ ∃ e, s.supply.capture = .timing e none) :
    takeRisingEdge low s = setCapture (.timing 0 none) (restartOverflow s) := by
  unfold takeRisingEdge
  rcases h with h | ⟨e, h⟩ <;> simp only [h]

theorem takeRisingEdge_timing {s : State} {low plateau : Word} {e high : Nat}
    (h : s.supply.capture = .timing e (some (high, plateau))) : takeRisingEdge low s =
      completePeriod e high plateau low (setCapture (.timing 0 none) (restartOverflow s)) := by
  simp only [takeRisingEdge, h]

theorem takeFallingEdge_waiting {s : State} {high : Word} (h : s.supply.capture = .waiting) :
    takeFallingEdge high s = { s with supply := { s.supply with overflow := 3000, capture := .waiting } } := by
  simp only [takeFallingEdge, h]
  rw [← h]
  rfl

theorem takeFallingEdge_timing {s : State} {high : Word} {e : Nat} {before : Option (Nat × Word)}
    (h : s.supply.capture = .timing e before) : takeFallingEdge high s =
      { s with supply := { s.supply with overflow := 3000, capture := .timing e (some (e, high)) } } := by
  simp only [takeFallingEdge, h]
  rfl

theorem passTime_capture (us : Nat) (s : State) : (passTime us s).supply.capture = s.supply.capture.pass us := rfl

theorem judgement_offered_eq (j : Judgement) :
    (match j with | .offer v => some v | .noOffer => none | .invalid => none) = j.offered := by cases j <;> rfl

/-- Settles O36: an edge by the capture that it finds, an overflow from any. -/
theorem edgesAndOverflow : Obligations.EdgesAndOverflow := by
  refine ⟨fun s us low => ?_, fun s us high => ?_, fun s level => ?_⟩
  · intro u next
    refine ⟨fun hidle => congrArg Host.Outcome.next (takeRisingEdge_waiting ?_), fun e high plateau htiming => ?_⟩
    · rcases hidle with h | ⟨e, h⟩
      · exact .inl (by rw [passTime_capture, h]; rfl)
      · exact .inr ⟨e + us, by rw [passTime_capture, h]; rfl⟩
    · intro j cls offer last
      have hcapture : u.supply.capture = .timing (e + us) (some (high, plateau)) := by
        rw [show u.supply.capture = s.supply.capture.pass us from rfl, htiming]; rfl
      have hoffer : offer = j.offered := judgement_offered_eq j
      have hedge : takeRisingEdge low u = takePeriod offer cls last next := by
        rw [takeRisingEdge_timing hcapture, hoffer]; rfl
      refine ⟨_, congrArg Host.Outcome.next hedge, rfl, ?_⟩
      exact takePeriod_leaves offer cls last next
  · intro u
    refine congrArg Host.Outcome.next ?_
    have hpassed : u.supply.capture = s.supply.capture.pass us := rfl
    cases hcapture : s.supply.capture with
    | waiting => exact takeFallingEdge_waiting (by rw [hpassed, hcapture]; rfl)
    | timing e before => exact takeFallingEdge_timing (e := e + us) (before := before) (by rw [hpassed, hcapture]; rfl)
  · intro u restarted cls
    exact ⟨_, rfl, rfl, takePeriod_leaves none cls _ restarted⟩

end Sys2Proof.Machine
end

section
/-! SUPPORT. What each step of the Localizer leaves, in the words of Safety.lean: a release, an immediate withdrawal, the
end of a localization and its next step (R123, R138, R149, R162 to R165). -/

namespace Sys2Proof.Machine

/-! ### A zone under test and released (R123, R138) -/

theorem State.setZone_setZone (s : State) (z : Fin 6) (a b : Zone) : (s.setZone z a).setZone z b = s.setZone z b := by
  simp [State.setZone, State.setHeating]

theorem demandOf_underTest {cold : Bool} {preheat : Int} {r : Zone} (h : r.underTest = true) :
    demandOf cold preheat r = 0 := by
  unfold demandOf
  split
  · rw [h, Bool.or_true, if_pos rfl]
  · rfl

theorem recomputeDemand_setZone (z : Fin 6) (s : State) (r : Zone) : recomputeDemand z (s.setZone z r) =
    s.setZone z { r with demand := demandOf (liveCold s) s.heating.preheat r } := by
  rw [recomputeDemand, State.setZone_same, State.setZone_setZone]
  rfl

theorem clearUnderTest_eq (z : Fin 6) (s : State) : clearUnderTest z s = s.setZone z { s.zone z with
    underTest := false
    demand := demandOf (liveCold s) s.heating.preheat { s.zone z with underTest := false } } :=
  recomputeDemand_setZone z s _

theorem withdrawZoneAtOnce_setZone (z : Fin 6) (s : State) (r : Zone) : withdrawZoneAtOnce z (s.setZone z r) =
    (s.setZone z { r with granted := 0 }).setPlanner (s.planner.withdrawAtOnce z) := by
  have htwice := (s.setPlanner (s.planner.withdrawAtOnce z)).setZone_setZone z r { r with granted := 0 }
  refine Eq.trans ?_ htwice
  rw [withdrawZoneAtOnce, State.setZone_same]
  rfl

theorem putUnderTest_eq (z : Fin 6) (s : State) : putUnderTest z s =
    (s.setZone z { s.zone z with underTest := true, demand := 0, granted := 0 }).setPlanner
      (s.planner.withdrawAtOnce z) := by
  rw [putUnderTest, recomputeDemand_setZone, demandOf_underTest rfl, withdrawZoneAtOnce_setZone]

theorem excludeZone_excluded {z : Fin 6} {s : State} (h : (s.zone z).excluded = true) : excludeZone z s = s := if_pos h

theorem excludeZone_eq {z : Fin 6} {s : State} (h : (s.zone z).excluded = false) : excludeZone z s =
    ((s.setIsolation { s.isolation with votes := s.isolation.votes.set z 0 }).setZone z
      { s.zone z with excluded := true, demand := 0, granted := 0 }).setPlanner (s.planner.withdrawAtOnce z) := by
  have hnot : ¬ (s.zone z).excluded = true := by simp [h]
  exact (if_neg hnot).trans (withdrawZoneAtOnce_setZone z
    (s.setIsolation { s.isolation with votes := s.isolation.votes.set z 0 }) _)

/-- A release leaves the suspect out of test. -/
theorem releaseSuspect_eq {x : Suspect} {s : State} (hsuspect : s.localizer.suspect = some x) :
    releaseSuspect s = released x s := by
  unfold releaseSuspect
  rw [hsuspect]
  cases x with
  | charger => rfl
  | zone z => dsimp only; rw [clearUnderTest_eq]; rfl

/-! ### An immediate withdrawal (R123) -/

theorem remove_of_none {z : Fin 6} {e : PlanEntry} (h : e.zones[z] = none) : e.remove z = e := by
  unfold PlanEntry.remove
  rw [h]

theorem remove_of_some {z : Fin 6} {e : PlanEntry} {w : Nat} (h : e.zones[z] = some w) :
    e.remove z = { e with zones := e.zones.set z none, heaterPower := e.heaterPower - w } := by
  unfold PlanEntry.remove
  rw [h]

theorem mapFromRunning_idle {f : PlanEntry → PlanEntry} {p : Planner} (h : p.state ≠ .running ∨ p.slot = none) :
    mapFromRunning f p = p := by
  unfold mapFromRunning
  split
  · next hstate hslot => exact absurd (h.resolve_left fun hne => hne hstate) (by rw [hslot]; exact Option.some_ne_none _)
  · rfl

theorem mapFromRunning_running {f : PlanEntry → PlanEntry} {p : Planner} {now : Fin 16} (hstate : p.state = .running)
    (hslot : p.slot = some now) :
    mapFromRunning f p = { p with plan := mapIndexed (fun k e => if now ≤ k then f e else e) p.plan } := by
  simp only [mapFromRunning, hstate, hslot]

theorem mapNotBegun_idle {f : PlanEntry → PlanEntry} {p : Planner} (h : p.state ≠ .running ∨ p.slot = none) :
    mapNotBegun f p = p := by
  unfold mapNotBegun
  split
  · next hstate hslot => exact absurd (h.resolve_left fun hne => hne hstate) (by rw [hslot]; exact Option.some_ne_none _)
  · rfl

theorem mapNotBegun_running {f : PlanEntry → PlanEntry} {p : Planner} {now : Fin 16} (hstate : p.state = .running)
    (hslot : p.slot = some now) :
    mapNotBegun f p = { p with plan := mapIndexed (fun k e => if now < k then f e else e) p.plan } := by
  simp only [mapNotBegun, hstate, hslot]

theorem leavesAtOnce_withdrawAtOnce (z : Fin 6) (p : Planner) : LeavesAtOnce z p (p.withdrawAtOnce z) := by
  refine ⟨?_, fun hidle => ?_, fun now hstate hslot k => ?_⟩
  · rw [Planner.withdrawAtOnce, mapFromRunning_eq]
  · rw [Planner.withdrawAtOnce, mapFromRunning_idle hidle]
  · have hentry : (p.withdrawAtOnce z).plan[k] = if now ≤ k then (p.plan[k]).remove z else p.plan[k] := by
      rw [Planner.withdrawAtOnce, mapFromRunning_running hstate hslot]
      exact mapIndexed_get _ _ k
    rw [hentry]
    refine ⟨fun hbefore => if_neg hbefore.not_ge, fun hfrom hnone => ?_, fun w hfrom hsome => ?_⟩
    · rw [if_pos hfrom, remove_of_none hnone]
    · rw [if_pos hfrom, remove_of_some hsome]

/-! ### The end of a localization (R149, R165) -/

theorem verdictEffect_localizer (v : Verdict) (s : State) :
    (verdictEffect v s).localizer.ended v = s.localizer.ended v := by
  cases v with
  | zone z => simp [verdictEffect]
  | charger | packSide => rfl
  | unresolved => rw [verdictEffect, releaseSuspect_record]; rfl

theorem excludeZone_fault (z : Fin 6) (s : State) (k : Fin 12) : (excludeZone z s).fault k = s.fault k := by
  cases h : (s.zone z).excluded with
  | true => rw [excludeZone_excluded h]
  | false => rw [excludeZone_eq h]; rfl

theorem fault_of_isolation {s t : State} (h : t.isolation = s.isolation) (k : Fin 12) : t.fault k = s.fault k := by
  rw [State.fault, h, ← State.fault]

theorem verdictEffect_fault (v : Verdict) (s : State) (k : Fin 12) : (verdictEffect v s).fault k = s.fault k := by
  cases v with
  | zone z => exact (fault_of_isolation (by rw [verdictEffect]; simp) k).trans (excludeZone_fault z s k)
  | charger | packSide => rfl
  | unresolved => exact fault_of_isolation (by simp [verdictEffect]) k

theorem writeVerdict_fault (rail : Rail) (v : Verdict) (s : State) (k : Fin 12) : (writeVerdict rail v s).fault k =
    (s.setFault (warnKey rail) ((s.fault (warnKey rail)).withVerdict v)).fault k :=
  fault_of_isolation (by rw [writeVerdict]; simp) k

theorem deliverVerdict_target {rail : Rail} {s : State} (htarget : s.localizer.target = some rail) (v : Verdict) :
    deliverVerdict v s = post .localizeDone
      ((verdictEffect v (writeVerdict rail v s)).setLocalizer (s.localizer.ended v)) := by
  have hlocalizer := verdictEffect_localizer v (writeVerdict rail v s)
  unfold deliverVerdict
  simp only [htarget, hlocalizer]
  simp

/-- A delivered verdict ends the localization of its target. -/
theorem endsLocalization_deliverVerdict {rail : Rail} {s : State} (htarget : s.localizer.target = some rail) (v : Verdict) :
    EndsLocalization rail v s (deliverVerdict v s) := by
  have hfault (k : Fin 12) : (deliverVerdict v s).fault k =
      (s.setFault (warnKey rail) ((s.fault (warnKey rail)).withVerdict v)).fault k := by
    rw [← writeVerdict_fault, ← verdictEffect_fault v (writeVerdict rail v s)]
    exact fault_of_isolation (by rw [deliverVerdict_target htarget]; simp) k
  refine ⟨?_, ?_, fun k hk => ?_, ?_⟩
  · rw [deliverVerdict_target htarget]
    simp [Localizer.ended, htarget]
  · rw [hfault, State.setFault_at, if_pos rfl]; rfl
  · rw [hfault, State.setFault_at, if_neg (Ne.symm hk)]
  · rw [deliverVerdict_target htarget]
    exact ⟨post_pending .cp .localizeDone _, post_pending .bp .localizeDone _⟩

/-- With no suspect left the verdict moves neither the plan nor the zones. -/
theorem deliverVerdict_packSide_frame (s : State) :
    (deliverVerdict .packSide s).planner = s.planner ∧ (deliverVerdict .packSide s).heating = s.heating := by
  unfold deliverVerdict
  split
  · rw [writeVerdict_eq Verdict.noConfusion]; simp [verdictEffect]
  · simp [verdictEffect]

/-! ### The next step (R162) -/

/-- A step takes the first energizable suspect from the top, or delivers PACK_SIDE. -/
theorem takeSuspect_cases (stack : List Suspect) (s : State) :
    ((∀ x ∈ stack, energizable s x = false) ∧
      takeSuspect stack s = deliverVerdict .packSide (s.setLocalizer { s.localizer with stack := [] })) ∨
    ∃ above x below, stack = above ++ x :: below ∧ energizable s x = true ∧ (∀ y ∈ above, energizable s y = false) ∧
      takeSuspect stack s = beginStep x below.reverse s := by
  induction stack with
  | nil => exact .inl ⟨nofun, rfl⟩
  | cons y rest ih =>
    cases hy : energizable s y with
    | true => exact .inr ⟨[], y, rest, rfl, hy, nofun, takeSuspect_first y rest s hy [] nofun⟩
    | false =>
      have hskip : takeSuspect (y :: rest) s = takeSuspect rest s := by rw [takeSuspect, if_neg (by simp [hy])]
      rcases ih with ⟨hnone, heq⟩ | ⟨above, x, below, rfl, hx, habove, heq⟩
      · exact .inl ⟨List.forall_mem_cons.2 ⟨hy, hnone⟩, hskip.trans heq⟩
      · exact .inr ⟨y :: above, x, below, rfl, hx, List.forall_mem_cons.2 ⟨hy, habove⟩, hskip.trans heq⟩

/-- The record with which a step of `x` begins. -/
def Localizer.testing (x : Suspect) (rest : List Suspect) (length : Nat) (l : Localizer) : Localizer :=
  { l with state := .dwell, suspect := some x, stack := rest, dwellCount := 0, readings := [], stepLength := length }

theorem beginStep_zone (z : Fin 6) (rest : List Suspect) (s : State) : beginStep (.zone z) rest s =
    ((s.setZone z { s.zone z with underTest := true, demand := 0, granted := 0 }).setPlanner
      (s.planner.withdrawAtOnce z)).setLocalizer (s.localizer.testing (.zone z) rest s.isolation.settings.dwell) := by
  rw [beginStep, putUnderTest_eq]
  rfl

theorem beginStep_charger (rest : List Suspect) (s : State) : beginStep .charger rest s =
    (s.setPlanner s.planner.withdrawCharger).setLocalizer
      (s.localizer.testing .charger rest s.isolation.settings.dwell) := rfl

/-- The next step of a localization whose record differs from that of `u` in its target and its stack. -/
theorem takesNextStep_nextStep {rail : Rail} {stack : List Suspect} {u v : State}
    (hv : v = u.setLocalizer { u.localizer with target := some rail, stack := stack }) :
    TakesNextStep rail stack u (nextStep v) := by
  subst hv
  refine ⟨by simp, fun hnone => ?_, fun below x above hstack hx habove => ?_⟩
  · have hpack : nextStep (u.setLocalizer { u.localizer with target := some rail, stack := stack }) =
        deliverVerdict .packSide (u.setLocalizer { u.localizer with target := some rail, stack := [] }) :=
      takeSuspect_none stack.reverse _ fun x hx => hnone x (List.mem_reverse.1 hx)
    rw [hpack]
    exact ⟨endsLocalization_deliverVerdict rfl .packSide, deliverVerdict_packSide_frame _⟩
  · have hreverse : stack.reverse = above.reverse ++ x :: below.reverse := by rw [hstack]; simp
    have hbegin : nextStep (u.setLocalizer { u.localizer with target := some rail, stack := stack }) =
        beginStep x below (u.setLocalizer { u.localizer with target := some rail, stack := stack }) := by
      refine Eq.trans (b := takeSuspect (above.reverse ++ x :: below.reverse) _) (by rw [← hreverse]; rfl) ?_
      have hfirst := takeSuspect_first x below.reverse
        (u.setLocalizer { u.localizer with target := some rail, stack := stack }) hx above.reverse
        fun y hy => habove y (List.mem_reverse.1 hy)
      rwa [List.reverse_reverse] at hfirst
    rw [hbegin]
    cases x with
    | charger => exact ⟨rfl, rfl, rfl, nofun, fun _ => ⟨rfl, rfl⟩⟩
    | zone z =>
      rw [beginStep_zone]
      refine ⟨rfl, rfl, rfl, fun y hy => ?_, nofun⟩
      obtain rfl := Suspect.zone.inj hy
      exact ⟨leavesAtOnce_withdrawAtOnce z u.planner, rfl⟩

/-- A suspect that is released and the step after it. -/
theorem takesNextStep_advanceSuspect {rail : Rail} {x : Suspect} {s : State} (htarget : s.localizer.target = some rail)
    (hsuspect : s.localizer.suspect = some x) :
    TakesNextStep rail s.localizer.stack (released x s) (advanceSuspect s) := by
  rw [advanceSuspect, releaseSuspect_eq hsuspect]
  refine takesNextStep_nextStep ?_
  have hlocalizer : (released x s).localizer = { s.localizer with suspect := none } := rfl
  rw [hlocalizer, ← htarget]
  rfl

end Sys2Proof.Machine
end

section
/-! The admission settings and the admission evaluation (R129, R131 to R135). -/

namespace Sys2Proof.Machine

/-! ### Operands of the heating requests -/

theorem temperature?_good {w : BitVec 16} (hlow : -80 ≤ w.toInt) (hhigh : w.toInt ≤ 120) : temperature? w = some w.toInt :=
  if_pos ⟨hlow, hhigh⟩

theorem temperature?_bad {w : BitVec 16} (hbad : w.toInt < -80 ∨ 120 < w.toInt) : temperature? w = none :=
  if_neg (by omega)

/-! ### SET_ADMISSION (R134) -/

/-- An entry of a request with its threshold and its limit in range. -/
def EntryInRange (e : AdmissionOperand) : Prop :=
  -80 ≤ e.threshold.toInt ∧ e.threshold.toInt ≤ 120 ∧ 1 ≤ e.limit.toNat ∧ e.limit.toNat ≤ 65535

/-- The entry that an operand spells. -/
def entryOf (e : AdmissionOperand) : AdmissionEntry := ⟨e.threshold.toInt, e.limit.toNat⟩

theorem admissionEntry?_good {e : AdmissionOperand} (h : EntryInRange e) : admissionEntry? e = some (entryOf e) := by
  obtain ⟨hcold, hwarm, hlow, hhigh⟩ := h
  rw [admissionEntry?, temperature?_good hcold hwarm, within?_eq_some hlow hhigh]
  rfl

theorem admissionEntry?_bad {e : AdmissionOperand} (h : ¬ EntryInRange e) : admissionEntry? e = none := by
  unfold admissionEntry?
  split
  · next t l ht hl =>
    refine absurd ⟨?_, ?_, ?_, ?_⟩ h
    · exact not_lt.1 fun hcold => by rw [temperature?_bad (.inl hcold)] at ht; cases ht
    · exact not_lt.1 fun hwarm => by rw [temperature?_bad (.inr hwarm)] at ht; cases ht
    · exact not_lt.1 fun hlow => by rw [within?_eq_none (.inl hlow)] at hl; cases hl
    · exact not_lt.1 fun hhigh => by rw [within?_eq_none (.inr hhigh)] at hl; cases hl
  · rfl

theorem admissionEntries?_good {l : List AdmissionOperand} (h : ∀ e ∈ l, EntryInRange e) :
    admissionEntries? l = some (l.map entryOf) := by
  induction l with
  | nil => rfl
  | cons e rest ih =>
    obtain ⟨he, hrest⟩ := List.forall_mem_cons.1 h
    rw [admissionEntries?, admissionEntry?_good he, ih hrest]
    rfl

theorem admissionEntries?_bad {l : List AdmissionOperand} (h : ¬ ∀ e ∈ l, EntryInRange e) : admissionEntries? l = none := by
  induction l with
  | nil => exact absurd nofun h
  | cons e rest ih =>
    unfold admissionEntries?
    split
    · next x xs hx hxs =>
      refine absurd (List.forall_mem_cons.2 ⟨?_, ?_⟩) h
      · exact by_contra fun hbad => by rw [admissionEntry?_bad hbad] at hx; cases hx
      · exact by_contra fun hbad => by rw [ih hbad] at hxs; cases hxs
    · rfl

theorem risingThresholds_iff (l : List AdmissionEntry) :
    risingThresholds l = true ↔ (l.map AdmissionEntry.threshold).Pairwise (· < ·) := by
  rw [← List.isChain_iff_pairwise]
  induction l with
  | nil => exact iff_of_true rfl .nil
  | cons a rest ih =>
    cases rest with
    | nil => exact iff_of_true rfl (.singleton _)
    | cons b rest =>
      rw [risingThresholds, Bool.and_eq_true, decide_eq_true_eq, ih]
      exact List.isChain_cons_cons.symm

/-- The table of a SET_ADMISSION whose fields pass. -/
theorem admissionTable?_good {count : Byte} {entries : Vector AdmissionOperand 8} (hlow : 1 ≤ count.toNat)
    (hhigh : count.toNat ≤ 8) (hentries : ∀ e ∈ entries.toList.take count.toNat, EntryInRange e)
    (hrising : ((entries.toList.take count.toNat).map fun e => e.threshold.toInt).Pairwise (· < ·)) :
    admissionTable? count entries = some ((entries.toList.take count.toNat).map entryOf) := by
  simp only [admissionTable?, within?_eq_some hlow hhigh, admissionEntries?_good hentries]
  refine if_pos ((risingThresholds_iff _).2 ?_)
  rwa [List.map_map]

theorem admissionTable?_bad {count : Byte} {entries : Vector AdmissionOperand 8}
    (hbad : ¬ (1 ≤ count.toNat ∧ count.toNat ≤ 8 ∧ (∀ e ∈ entries.toList.take count.toNat, EntryInRange e) ∧
      ((entries.toList.take count.toNat).map fun e => e.threshold.toInt).Pairwise (· < ·))) :
    admissionTable? count entries = none := by
  by_cases hcount : 1 ≤ count.toNat ∧ count.toNat ≤ 8
  · by_cases hentries : ∀ e ∈ entries.toList.take count.toNat, EntryInRange e
    · simp only [admissionTable?, within?_eq_some hcount.1 hcount.2, admissionEntries?_good hentries]
      refine if_neg fun hrising => hbad ⟨hcount.1, hcount.2, hentries, ?_⟩
      rw [risingThresholds_iff, List.map_map] at hrising
      exact hrising
    · simp only [admissionTable?, within?_eq_some hcount.1 hcount.2, admissionEntries?_bad hentries]
  · rw [admissionTable?, within?_eq_none (by omega)]

theorem requestSetHeating_bad {share : Byte} {budget : BitVec 32} {preheat : BitVec 16} (s : State)
    (hbad : 100 < share.toNat ∨ 20000 < budget.toNat ∨ preheat.toInt < -80 ∨ 120 < preheat.toInt) :
    requestSetHeating share budget preheat s = refuse s .badValue := by
  unfold requestSetHeating
  split
  · next h b t hshare hbudget hpreheat =>
    rcases hbad with hover | hover | hover
    · rw [within?_eq_none (.inr hover)] at hshare; cases hshare
    · rw [within?_eq_none (.inr hover)] at hbudget; cases hbudget
    · rw [temperature?_bad hover] at hpreheat; cases hpreheat
  · rfl

/-! ### The coldest zone (R132) -/

/-- A zone that is not excluded has a temperature. -/
def Measured (zones : Vector Zone 6) (z : Fin 6) (v : Int) : Prop :=
  zones[z].excluded = false ∧ zones[z].temperature = some v

/-- The coldest of the zones seen so far, of equal ones the lowest. -/
def Coldest (zones : Vector Zone 6) (seen : List (Fin 6)) : Option (Int × Fin 6) → Prop
  | none => ∀ y ∈ seen, ∀ u, ¬ Measured zones y u
  | some (v, z) => z ∈ seen ∧ Measured zones z v ∧ ∀ y ∈ seen, ∀ u, Measured zones y u → v < u ∨ (v = u ∧ z ≤ y)

theorem measured_of_eq {zones : Vector Zone 6} {z : Fin 6} {u v : Int} (hu : Measured zones z u)
    (hv : zones[z].temperature = some v) : v = u := Option.some.inj (hv.symm.trans hu.2)

theorem colder_skip {zones : Vector Zone 6} {best : Option (Int × Fin 6)} {k : Fin 6} (h : ∀ u, ¬ Measured zones k u) :
    colder best k zones[k] = best := by
  unfold colder
  split
  · rfl
  · rfl
  · next t hexcluded htemperature => exact absurd ⟨hexcluded, htemperature⟩ (h t)
  · next t _ hexcluded htemperature => exact absurd ⟨hexcluded, htemperature⟩ (h t)

theorem colder_first {zones : Vector Zone 6} {k : Fin 6} {t : Int} (h : Measured zones k t) :
    colder none k zones[k] = some (t, k) := by
  simp only [colder, h.1, h.2]

theorem colder_next {zones : Vector Zone 6} {k : Fin 6} {t : Int} (h : Measured zones k t) (b : Int × Fin 6) :
    colder (some b) k zones[k] = if t < b.1 then some (t, k) else some b := by
  simp only [colder, h.1, h.2]

theorem Coldest.step {zones : Vector Zone 6} {seen : List (Fin 6)} {best : Option (Int × Fin 6)} {k : Fin 6}
    (h : Coldest zones seen best) (hk : ∀ y ∈ seen, y < k) : Coldest zones (seen ++ [k]) (colder best k zones[k]) := by
  by_cases hmeasured : ∃ t, Measured zones k t
  · obtain ⟨t, ht⟩ := hmeasured
    have hself (u : Int) (hu : Measured zones k u) : t = u := measured_of_eq hu ht.2
    cases best with
    | none =>
      rw [colder_first ht]
      refine ⟨by simp, ht, fun y hy u hu => ?_⟩
      rcases List.mem_append.1 hy with hseen | hlast
      · exact absurd hu (h y hseen u)
      · obtain rfl := List.mem_singleton.1 hlast
        exact .inr ⟨hself u hu, le_refl _⟩
    | some b =>
      obtain ⟨hb, hmeasured, hleast⟩ := h
      rw [colder_next ht]
      split
      · next hless =>
        refine ⟨by simp, ht, fun y hy u hu => ?_⟩
        rcases List.mem_append.1 hy with hseen | hlast
        · exact .inl ((hleast y hseen u hu).elim hless.trans fun heq => heq.1 ▸ hless)
        · obtain rfl := List.mem_singleton.1 hlast
          exact .inr ⟨hself u hu, le_refl _⟩
      · next hleq =>
        refine ⟨List.mem_append_left _ hb, hmeasured, fun y hy u hu => ?_⟩
        rcases List.mem_append.1 hy with hseen | hlast
        · exact hleast y hseen u hu
        · obtain rfl := List.mem_singleton.1 hlast
          rw [← hself u hu]
          exact (lt_or_eq_of_le (not_lt.1 hleq)).imp_right fun heq => ⟨heq, (hk _ hb).le⟩
  · have hnone (u : Int) : ¬ Measured zones k u := fun hu => hmeasured ⟨u, hu⟩
    rw [colder_skip hnone]
    cases best with
    | none =>
      intro y hy u hu
      rcases List.mem_append.1 hy with hseen | hlast
      · exact h y hseen u hu
      · exact hnone u (List.mem_singleton.1 hlast ▸ hu)
    | some b =>
      obtain ⟨hb, hmeasured, hleast⟩ := h
      refine ⟨List.mem_append_left _ hb, hmeasured, fun y hy u hu => ?_⟩
      rcases List.mem_append.1 hy with hseen | hlast
      · exact hleast y hseen u hu
      · exact absurd (List.mem_singleton.1 hlast ▸ hu) (hnone u)

theorem Coldest.foldl {zones : Vector Zone 6} {rest : List (Fin 6)} : ∀ {seen : List (Fin 6)} {best : Option (Int × Fin 6)},
    Coldest zones seen best → (seen ++ rest).Pairwise (· < ·) →
    Coldest zones (seen ++ rest) (rest.foldl (fun best k => colder best k zones[k]) best) := by
  induction rest with
  | nil => intro seen best h _; rwa [List.append_nil]
  | cons k rest ih =>
    intro seen best h hsorted
    have hk : ∀ y ∈ seen, y < k := fun y hy => (List.pairwise_append.1 hsorted).2.2 y hy k List.mem_cons_self
    have happend : seen ++ k :: rest = (seen ++ [k]) ++ rest := by simp
    rw [happend] at hsorted ⊢
    exact ih (h.step hk) hsorted

/-- The search finds the coldest of all zones. -/
theorem coldestZone_coldest (zones : Vector Zone 6) : Coldest zones (List.finRange 6) (coldestZone zones) :=
  Coldest.foldl (seen := []) (best := none) nofun (List.pairwise_lt_finRange 6)

theorem coldestZone_none {zones : Vector Zone 6} (h : ∀ z u, ¬ Measured zones z u) : coldestZone zones = none := by
  cases hbest : coldestZone zones with
  | none => rfl
  | some b =>
    have hspec := coldestZone_coldest zones
    rw [hbest] at hspec
    exact absurd hspec.2.1 (h b.2 b.1)

/-- With a zone that is measured the search finds one, at most as warm as any. -/
theorem coldestZone_some {zones : Vector Zone 6} {z : Fin 6} {v : Int} (h : Measured zones z v) :
    ∃ b, coldestZone zones = some b ∧ Measured zones b.2 b.1 ∧
      ∀ y u, Measured zones y u → b.1 < u ∨ (b.1 = u ∧ b.2 ≤ y) := by
  have hspec := coldestZone_coldest zones
  cases hbest : coldestZone zones with
  | none => rw [hbest] at hspec; exact absurd h (hspec z (List.mem_finRange z) v)
  | some b =>
    rw [hbest] at hspec
    exact ⟨b, rfl, hspec.2.1, fun y u hu => hspec.2.2 y (List.mem_finRange y) u hu⟩

/-- The coldest temperature, whichever zone has it. -/
theorem coldestZone_fst {zones : Vector Zone 6} {z : Fin 6} {v : Int} (h : Measured zones z v)
    (hleast : ∀ y u, Measured zones y u → v ≤ u) : (coldestZone zones).map Prod.fst = some v := by
  obtain ⟨b, hbest, hmeasured, hb⟩ := coldestZone_some h
  have hlow := hleast b.2 b.1 hmeasured
  have hhigh := hb z v h
  rw [hbest]
  exact congrArg some (show b.1 = v by omega)

theorem coldestZone_eq {zones : Vector Zone 6} {z : Fin 6} {v : Int} (h : Measured zones z v)
    (hleast : ∀ y u, Measured zones y u → v < u ∨ (v = u ∧ z ≤ y)) : coldestZone zones = some (v, z) := by
  obtain ⟨b, hbest, hmeasured, hb⟩ := coldestZone_some h
  have hlow := hleast b.2 b.1 hmeasured
  have hhigh := hb z v h
  rw [hbest]
  exact congrArg some (Prod.ext (show b.1 = v by omega) (show b.2 = z by omega))

/-! ### Demand (R131) -/

theorem demandOf_zero {cold : Bool} {preheat : Int} {r : Zone}
    (h : r.mode ≠ .auto ∨ r.excluded = true ∨ r.underTest = true ∨ r.temperature = none) :
    demandOf cold preheat r = 0 := by
  unfold demandOf
  split
  · next t hmode htemperature =>
    refine if_pos (Bool.or_eq_true_iff.2 ?_)
    rcases h with hother | hexcluded | hunder | hnone
    · exact absurd hmode hother
    · exact .inl hexcluded
    · exact .inr hunder
    · rw [hnone] at htemperature; cases htemperature
  · rfl

theorem effectiveTarget_eq (cold : Bool) (preheat : Int) (r : Zone) :
    effectiveTarget cold preheat r = if cold = true ∧ r.target < preheat then preheat else r.target := by
  unfold effectiveTarget
  cases cold with
  | false => simp
  | true => simp only [if_true, true_and]; split <;> omega

theorem demandOf_auto {cold : Bool} {preheat v : Int} {r : Zone} (hmode : r.mode = .auto) (hexcluded : r.excluded = false)
    (hunder : r.underTest = false) (htemperature : r.temperature = some v) :
    demandOf cold preheat r = min 16 (effectiveTarget cold preheat r - v).toNat := by
  simp only [demandOf, hmode, htemperature, hexcluded, hunder]
  rfl

end Sys2Proof.Machine
end

section
/-! The zones through a change of the live session, the COLD judgement, and the admission evaluation taken whole
(R12, R132, R162). -/

namespace Sys2Proof.Machine

/-! ### What a step of the Localizer leaves of the zones -/

/-- A zone that a localization may have put under test, released or withdrawn: mark, demand and granted count may
differ. -/
def Zone.Tested (r r' : Zone) : Prop :=
  r' = { r with underTest := r'.underTest, demand := r'.demand, granted := r'.granted }

@[refl] theorem Zone.Tested.refl (r : Zone) : r.Tested r := rfl

theorem Zone.Tested.trans {a b c : Zone} (h : a.Tested b) (h' : b.Tested c) : a.Tested c := by
  rw [Zone.Tested] at *
  rw [h', h]

/-- Of the heating only the zones differ, and each as a test leaves it. -/
def ZonesTested (s t : State) : Prop :=
  t.heating = { s.heating with zones := t.heating.zones } ∧ ∀ z, (s.zone z).Tested (t.zone z)

theorem zone_of_heating {s t : State} (h : t.heating = s.heating) (z : Fin 6) : t.zone z = s.zone z := by
  rw [State.zone, h, ← State.zone]

theorem ZonesTested.of_heating {s t : State} (h : t.heating = s.heating) : ZonesTested s t :=
  ⟨by rw [h], fun z => by rw [zone_of_heating h z]⟩

theorem ZonesTested.trans {s t u : State} (h : ZonesTested s t) (h' : ZonesTested t u) : ZonesTested s u :=
  ⟨by rw [h'.1, h.1], fun z => (h.2 z).trans (h'.2 z)⟩

theorem zonesTested_setZone {s : State} {z : Fin 6} {r : Zone} (h : (s.zone z).Tested r) : ZonesTested s (s.setZone z r) := by
  refine ⟨rfl, fun y => ?_⟩
  rw [State.setZone_at]
  split
  · next hzy => exact hzy ▸ h
  · rfl

theorem zonesTested_recomputeDemands (s : State) : ZonesTested s (recomputeDemands s) := by
  refine ⟨rfl, fun z => ?_⟩
  have hzone : (recomputeDemands s).zone z = (s.zone z).recomputed (liveCold s) s.heating.preheat := mapIndexed_get _ _ z
  rw [hzone]
  rfl

theorem zonesTested_beginStep (x : Suspect) (rest : List Suspect) (s : State) : ZonesTested s (beginStep x rest s) := by
  cases x with
  | charger => exact .of_heating rfl
  | zone z =>
    rw [beginStep_zone]
    exact (zonesTested_setZone (by rfl)).trans (.of_heating rfl)

theorem zonesTested_nextStep (s : State) : ZonesTested s (nextStep s) := by
  rcases takeSuspect_cases s.localizer.stack.reverse s with ⟨-, heq⟩ | ⟨-, x, below, -, -, -, heq⟩
  · rw [nextStep, heq]
    exact .of_heating (deliverVerdict_packSide_frame _).2
  · rw [nextStep, heq]
    exact zonesTested_beginStep x _ s

theorem zonesTested_releaseSuspect (s : State) : ZonesTested s (releaseSuspect s) := by
  unfold releaseSuspect
  refine .trans ?_ (.of_heating rfl)
  split
  · rw [clearUnderTest_eq]; exact zonesTested_setZone (by rfl)
  · exact .of_heating rfl
  · exact .of_heating rfl

theorem zonesTested_advanceSuspect (s : State) : ZonesTested s (advanceSuspect s) :=
  (zonesTested_releaseSuspect s).trans (zonesTested_nextStep _)

theorem zonesTested_localizerSessionLeft (s : State) : ZonesTested s (localizerSessionLeft s) := by
  unfold localizerSessionLeft
  split
  · exact zonesTested_advanceSuspect s
  · exact .of_heating rfl

theorem zonesTested_localizerZoneOff (z : Fin 6) (s : State) : ZonesTested s (localizerZoneOff z s) := by
  unfold localizerZoneOff
  split
  · exact zonesTested_advanceSuspect s
  · exact .of_heating rfl

theorem zonesTested_changeReasons (i : Fin 8) (f : PauseReasons → PauseReasons) (s : State) :
    ZonesTested s (changeReasons i f s) := by
  have hquiet : ZonesTested s (changeReasonsQuietly i f s) := .of_heating (by simp)
  unfold changeReasons
  dsimp only
  split
  · exact hquiet.trans (zonesTested_localizerSessionLeft _)
  · exact hquiet

theorem zonesTested_changeLive (f : PauseReasons → PauseReasons) (s : State) : ZonesTested s (changeLive f s) := by
  unfold changeLive
  split
  · exact .of_heating rfl
  · exact zonesTested_changeReasons _ f s

/-! ### A change of reasons (R9) -/

/-- Reasons that differ are taken by the live session, its state following. -/
theorem changeReasons_sessions {s : State} {i : Fin 8} {f : PauseReasons → PauseReasons}
    (hlive : (s.session i).state.isLive = true) (hchange : f (s.session i).reasons ≠ (s.session i).reasons) :
    OtherSessionsSame i s (changeReasons i f s) ∧
    (changeReasons i f s).session i = (s.session i).withReasons (f (s.session i).reasons) := by
  rw [changeReasons_changed hlive hchange rfl rfl]
  generalize (s.session i).withReasons (f (s.session i).reasons) = r
  have hsessions (left : Bool) : (sessionChanged left
      (if left then post .sessionPaused (s.setSession i r) else s.setSession i r)).sessions =
        (s.setSession i r).sessions := by
    cases left <;> simp
  exact ⟨(otherSessionsSame_setSession s i r).trans (otherSessionsSame_of_sessions (hsessions _)),
    (session_eq_of_sessions (hsessions _) i).trans (State.setSession_same s i r)⟩

theorem changeLive_none {f : PauseReasons → PauseReasons} {s : State} (hnone : liveSlot s = none) :
    changeLive f s = s := by rw [changeLive, hnone]

theorem changeLive_some {f : PauseReasons → PauseReasons} {s : State} {i : Fin 8} (hlive : liveSlot s = some i) :
    changeLive f s = changeReasons i f s := by rw [changeLive, hlive]

/-! ### COLD (R12) -/

/-- The pause reasons that the COLD judgement leaves. -/
def judgedReasons (h : HeatController) (q : PauseReasons) : PauseReasons :=
  { q with cold :=
      if h.admissionLimit = 0 then true
      else if ∃ v ∈ h.coldest, firstThreshold h + 2 ≤ v then false
      else q.cold }

/-- The judgement is a change of the live session's reasons, or nothing where the reasons stand. -/
theorem judgeCold_cases (s : State) : (∃ f, judgeCold s = changeLive f s ∧ ∀ q, f q = judgedReasons s.heating q) ∨
    (judgeCold s = s ∧ ∀ q, judgedReasons s.heating q = q) := by
  unfold judgeCold
  split
  · next hzero => exact .inl ⟨_, rfl, fun q => by rw [judgedReasons, if_pos hzero]⟩
  · next hsome =>
    split
    · next hnone =>
      refine .inr ⟨rfl, fun q => ?_⟩
      rw [judgedReasons, if_neg hsome, if_neg (by rw [hnone]; nofun)]
    · next v hv =>
      split
      · next hwarm =>
        refine .inl ⟨_, rfl, fun q => ?_⟩
        rw [judgedReasons, if_neg hsome, if_pos ⟨v, hv, hwarm⟩]
      · next hbetween =>
        refine .inr ⟨rfl, fun q => ?_⟩
        rw [judgedReasons, if_neg hsome, if_neg]
        rintro ⟨u, hu, hwarm⟩
        rw [hv] at hu
        exact hbetween (Option.some.inj hu ▸ hwarm)

theorem judgeCold_none {s : State} (hnone : liveSlot s = none) : judgeCold s = s := by
  rcases judgeCold_cases s with ⟨f, heq, -⟩ | ⟨heq, -⟩
  · rw [heq, changeLive_none hnone]
  · exact heq

/-- Judged reasons as the session holds them leave everything. -/
theorem judgeCold_same {s : State} {i : Fin 8} (hlive : liveSlot s = some i)
    (hsame : judgedReasons s.heating (s.session i).reasons = (s.session i).reasons) : judgeCold s = s := by
  rcases judgeCold_cases s with ⟨f, heq, hf⟩ | ⟨heq, -⟩
  · rw [heq, changeLive_some hlive]
    exact changeReasons_unchanged ((hf _).trans hsame)
  · exact heq

theorem judgeCold_changed {s : State} {i : Fin 8} (hlive : liveSlot s = some i)
    (hchange : judgedReasons s.heating (s.session i).reasons ≠ (s.session i).reasons) :
    OtherSessionsSame i s (judgeCold s) ∧
    (judgeCold s).session i = (s.session i).withReasons (judgedReasons s.heating (s.session i).reasons) := by
  rcases judgeCold_cases s with ⟨f, heq, hf⟩ | ⟨-, hstand⟩
  · rw [heq, changeLive_some hlive, ← hf]
    exact changeReasons_sessions (liveSlot_some hlive) (by rwa [hf])
  · exact absurd (hstand _) hchange

theorem zonesTested_judgeCold (s : State) : ZonesTested s (judgeCold s) := by
  rcases judgeCold_cases s with ⟨f, heq, -⟩ | ⟨heq, -⟩
  · rw [heq]; exact zonesTested_changeLive f s
  · rw [heq]; exact .of_heating rfl

/-! ### The admission evaluation (R132) -/

theorem zonesTested_evaluateAdmission (s : State) : ZonesTested (storeAdmission s) (evaluateAdmission s) :=
  (zonesTested_judgeCold _).trans (zonesTested_recomputeDemands _)

/-- The evaluation leaves of the heating what it stored, with the zones' demands. -/
theorem evaluateAdmission_heating (s : State) : (evaluateAdmission s).heating =
    { (storeAdmission s).heating with zones := (evaluateAdmission s).heating.zones } := (zonesTested_evaluateAdmission s).1

theorem evaluateAdmission_sessions (s : State) :
    (evaluateAdmission s).sessions = (judgeCold (storeAdmission s)).sessions := rfl

theorem liveCold_of_sessions {s t : State} (h : t.sessions = s.sessions) : liveCold t = liveCold s := by
  simp only [liveCold, liveSlot, State.session, h]

/-- Every demand is computed from the session and the zones that the evaluation leaves. -/
theorem evaluateAdmission_demand (s : State) (z : Fin 6) : ((evaluateAdmission s).zone z).demand =
    demandOf (liveCold (evaluateAdmission s)) s.heating.preheat ((evaluateAdmission s).zone z) := by
  have hzone : (evaluateAdmission s).zone z = ((judgeCold (storeAdmission s)).zone z).recomputed
      (liveCold (judgeCold (storeAdmission s))) (judgeCold (storeAdmission s)).heating.preheat := mapIndexed_get _ _ z
  have hpreheat : (judgeCold (storeAdmission s)).heating.preheat = s.heating.preheat := by
    rw [(zonesTested_judgeCold (storeAdmission s)).1]; rfl
  rw [liveCold_of_sessions (evaluateAdmission_sessions s), hzone, hpreheat]
  rfl

theorem not_measured_of_each {s : State} (h : ∀ z, (s.zone z).excluded = true ∨ (s.zone z).temperature = none) (z : Fin 6)
    (u : Int) : ¬ Measured s.heating.zones z u := by
  rintro ⟨hexcluded, htemperature⟩
  rcases h z with h | h
  · exact Bool.false_ne_true (hexcluded.symm.trans h)
  · cases h.symm.trans htemperature

/-- Settles O42: SET_ADMISSION and SET_HEATING by their fields, the coldest zone by its search, the demand by its cases,
and the evaluation by its three steps. -/
theorem heatingSettings : Obligations.HeatingSettings := by
  refine ⟨fun s count entries hready => ?_, fun s share budget preheat hready => ⟨fun hbad => ?_, ?_⟩, fun s => ⟨fun hnone => ?_, ?_⟩,
    fun cold preheat r => ?_, fun s => ?_⟩
  · intro used good table
    refine ⟨fun hgood => executes_accept hready rfl ?_, fun hbad => executes_refuse hready rfl ?_⟩
    · obtain ⟨hlow, hhigh, hentries, hrising⟩ := hgood
      rw [serve, requestSetAdmission, admissionTable?_good hlow hhigh hentries hrising]
      rfl
    · rw [serve, requestSetAdmission, admissionTable?_bad hbad]
  · exact executes_refuse hready rfl (requestSetHeating_bad s hbad)
  · intro hshare hbudget hcold hwarm
    refine executes_accept hready rfl ?_
    rw [serve, requestSetHeating, within?_eq_some (Nat.zero_le _) hshare, within?_eq_some (Nat.zero_le _) hbudget,
      temperature?_good hcold hwarm]
    rfl
  · rw [admissionNow, coldestZone_none (not_measured_of_each hnone)]
    rfl
  · intro z v hexcluded htemperature hleast
    rw [admissionNow, coldestZone_fst (zones := s.heating.zones) ⟨hexcluded, htemperature⟩
      fun y u hu => hleast y u hu.2 hu.1]
    rfl
  · intro wanted
    refine ⟨demandOf_zero, fun v hmode hexcluded hunder htemperature => ?_⟩
    rw [demandOf_auto hmode hexcluded hunder htemperature, effectiveTarget_eq]
  · intro t first cold
    have hheating := evaluateAdmission_heating s
    have hlimit : t.heating.admissionLimit = admissionNow s := congrArg HeatController.admissionLimit hheating
    have hcoldest : t.heating.coldest = (coldestZone s.heating.zones).map Prod.fst := congrArg HeatController.coldest hheating
    have hzone : t.heating.coldestZone = (coldestZone s.heating.zones).map Prod.snd :=
      congrArg HeatController.coldestZone hheating
    have hsessions : t.sessions = (judgeCold (storeAdmission s)).sessions := evaluateAdmission_sessions s
    have hkept (z : Fin 6) : (s.zone z).Tested (t.zone z) := (zonesTested_evaluateAdmission s).2 z
    refine ⟨hlimit, fun hnone => ?_, fun z v hexcluded htemperature hleast => ?_, fun i hlive => ?_, fun hnone => ?_,
      fun z => ⟨evaluateAdmission_demand s z, ?_⟩, ?_⟩
    · rw [hcoldest, hzone, coldestZone_none (not_measured_of_each hnone)]
      exact ⟨rfl, rfl⟩
    · rw [hcoldest, hzone, coldestZone_eq (zones := s.heating.zones) ⟨hexcluded, htemperature⟩
        fun y u hu => hleast y u hu.2 hu.1]
      exact ⟨rfl, rfl⟩
    · intro r reasons
      have hreasons : judgedReasons (storeAdmission s).heating r.reasons = reasons := by
        show _ = { r.reasons with cold := if admissionNow s = 0 then true
          else if ∃ v ∈ t.heating.coldest, first + 2 ≤ v then false else r.reasons.cold }
        rw [hcoldest]
        rfl
      have hlive' : liveSlot (storeAdmission s) = some i := hlive
      refine ⟨fun hsame => ?_, fun hchange => ?_⟩
      · rw [hsessions, judgeCold_same hlive' (hreasons.trans hsame)]; rfl
      · obtain ⟨hothers, hsession⟩ := judgeCold_changed hlive' fun heq => hchange (hreasons.symm.trans heq)
        have hrecord : (judgeCold (storeAdmission s)).session i = r.withReasons reasons := hreasons ▸ hsession
        exact ⟨hothers, hrecord.trans (withReasons_eq (liveSlot_some hlive) reasons)⟩
    · rw [hsessions, judgeCold_none (s := storeAdmission s) hnone]; rfl
    · rw [hkept z]; exact ⟨rfl, rfl, rfl⟩
    · exact evaluateAdmission_frame s

end Sys2Proof.Machine
end

section
/-! SET_ZONE, DRIVE_ZONE and RESTORE_ZONE (R136 to R140). -/

namespace Sys2Proof.Machine

/-! ### A zone that the next step cannot take (R162) -/

theorem nextStep_zone_of_not_energizable {s : State} {z : Fin 6} (h : energizable s (.zone z) = false) :
    (nextStep s).zone z = s.zone z ∧ (nextStep s).localizer.suspect ≠ some (.zone z) := by
  rcases takeSuspect_cases s.localizer.stack.reverse s with ⟨-, heq⟩ | ⟨-, x, below, -, hx, -, heq⟩
  · rw [nextStep, heq]
    refine ⟨zone_of_heating (deliverVerdict_packSide_frame _).2 z, ?_⟩
    obtain ⟨u, -, hended⟩ := deliverVerdict_eq .packSide (s.setLocalizer { s.localizer with stack := [] })
    rw [hended]
    nofun
  · rw [nextStep, heq]
    cases x with
    | charger => exact ⟨rfl, nofun⟩
    | zone y =>
      have hyz : y ≠ z := by rintro rfl; rw [h] at hx; cases hx
      rw [beginStep_zone]
      exact ⟨State.setZone_other s y z _ hyz, fun heq => hyz (Suspect.zone.inj (Option.some.inj heq))⟩

theorem energizable_zone_iff (s : State) (z : Fin 6) : energizable s (.zone z) = true ↔ (s.zone z).excluded = false ∧
    ((s.zone z).mode = .auto ∨ ((s.zone z).mode = .direct ∧ (s.zone z).drive = true)) := by
  simp only [energizable, Bool.and_eq_true, Bool.or_eq_true, beq_iff_eq, Bool.not_eq_true']
  exact and_comm

theorem released_zone (z : Fin 6) (s : State) : (released (.zone z) s).zone z = { s.zone z with
    underTest := false
    demand := demandOf (liveCold s) s.heating.preheat { s.zone z with underTest := false } } := State.setZone_same s z _

/-- A suspect that is released while it cannot be energized stays out of test. -/
theorem advanceSuspect_zone {s : State} {z : Fin 6} (hsuspect : s.localizer.suspect = some (.zone z))
    (h : energizable s (.zone z) = false) : (advanceSuspect s).zone z = (released (.zone z) s).zone z ∧
      (advanceSuspect s).localizer.suspect ≠ some (.zone z) := by
  rw [advanceSuspect, releaseSuspect_eq hsuspect]
  refine nextStep_zone_of_not_energizable (Bool.eq_false_iff.2 fun htrue => ?_)
  rw [energizable_zone_iff, released_zone, ← energizable_zone_iff, h] at htrue
  cases htrue

theorem localizerZoneOff_idle {s : State} {z : Fin 6} (h : ¬ (s.localizer.state = .dwell ∧ s.localizer.suspect = some (.zone z))) :
    localizerZoneOff z s = s := if_neg h

theorem localizerZoneOff_dwell {s : State} {z : Fin 6} (h : s.localizer.state = .dwell ∧ s.localizer.suspect = some (.zone z)) :
    localizerZoneOff z s = advanceSuspect s := if_pos h

/-! ### DRIVE_ZONE (R138) -/

theorem onOff?_bad {b : Byte} (hbad : 2 ≤ b.toNat) : onOff? b = none := by
  have hzero : b ≠ 0 := by rintro rfl; exact absurd hbad (by decide)
  have hone : b ≠ 1 := by rintro rfl; exact absurd hbad (by decide)
  rw [onOff?, if_neg hzero, if_neg hone]

theorem requestDriveZone_bad {zone drive : Byte} (s : State) (hbad : 6 ≤ zone.toNat ∨ 2 ≤ drive.toNat) :
    requestDriveZone zone drive s = refuse s .badValue := by
  unfold requestDriveZone
  split
  · next z on hzone hdrive =>
    rcases hbad with hbad | hbad
    · rw [index?_eq_none hbad] at hzone; cases hzone
    · rw [onOff?_bad hbad] at hdrive; cases hdrive
  · rfl

/-- A drive byte of a switch position. -/
def driveByte (on : Bool) : Byte := if on then 1 else 0

/-- The bytes of a DRIVE_ZONE response. -/
def driveData (r : Zone) : List Byte :=
  byte r.mode.code ++ byte (bit r.drive) ++ byte r.granted ++ byte (bit r.deferred)

theorem requestDriveZone_good (z : Fin 6) (on : Bool) (s : State) : requestDriveZone (index z.val) (driveByte on) s =
    if (s.zone z).mode ≠ .direct then refuse s .wrongState
    else if on = true ∧ (s.zone z).excluded = true then refuse s .blocked
    else accept (driveZoneTo z on s) (driveData ((driveZoneTo z on s).zone z)) := by
  have hdrive : onOff? (driveByte on) = some on := by cases on <;> rfl
  simp only [requestDriveZone, index?_zone, hdrive]
  rfl

theorem driveZoneTo_same {z : Fin 6} {on : Bool} {s : State} (h : (s.zone z).drive = on) : driveZoneTo z on s = s := if_pos h

theorem driveZoneTo_on {z : Fin 6} {s : State} : driveZoneTo z true s = s.setZone z { s.zone z with drive := true } := by
  unfold driveZoneTo
  split
  · next h =>
    have hsame : ({ s.zone z with drive := true } : Zone) = s.zone z := by rw [← h]
    rw [hsame]
    simp [State.setZone, State.zone, State.setHeating]
  · rfl

theorem driveZoneTo_off {z : Fin 6} {s : State} (h : (s.zone z).drive = true) : driveZoneTo z false s = driveOff z s := by
  rw [driveZoneTo, if_neg (by simp [h]), if_neg Bool.false_ne_true]

/-! ### RESTORE_ZONE (R140) -/

theorem restoreZone_eq (z : Fin 6) (s : State) : restoreZone z s = clearFault (heaterKey z) (s.setZone z
    { s.zone z with
      excluded := false
      demand := demandOf (liveCold s) s.heating.preheat { s.zone z with excluded := false } }) := by
  rw [restoreZone, recomputeDemand_setZone]

theorem zoneData_eq (z : Fin 6) (s : State) : zoneData z s =
    byte (if (s.zone z).temperature.isSome then 1 else 0) ++ zoneFields z (s.zone z) := by
  rw [zoneData, mask_singleton]

theorem requestRestoreZone_good (z : Fin 6) (s : State) : requestRestoreZone (index z.val) s =
    if (s.zone z).excluded then accept (restoreZone z s) (zoneData z (restoreZone z s)) else refuse s .wrongState := by
  simp only [requestRestoreZone, index?_zone]

/-- Settles O41: each request by its fields, the zone's mode and its drive; a suspect driven off by the next step. -/
theorem driveAndRestoreZone : Obligations.DriveAndRestoreZone := by
  refine ⟨fun s zone drive hready => ⟨fun hbad => executes_refuse hready rfl (requestDriveZone_bad s hbad),
    fun hbad => executes_refuse hready rfl ?_⟩, fun s z hready => ?_⟩
  · rw [serve, requestRestoreZone, index?_eq_none hbad]
  intro old on off data
  have hon : serve .cp s on = _ := requestDriveZone_good z true s
  have hoff : serve .cp s off = _ := requestDriveZone_good z false s
  have hrestore : serve .cp s (.restoreZone (index z.val)) =
      if old.excluded then accept (restoreZone z s) (zoneData z (restoreZone z s)) else refuse s .wrongState :=
    requestRestoreZone_good z s
  have hdata (r : Zone) (hmode : r.mode = .direct) : driveData r = data r := by
    simp only [driveData, hmode, bit_eq]
    rfl
  refine ⟨fun hmode => ⟨executes_refuse hready rfl (hon.trans (if_pos hmode)), executes_refuse hready rfl (hoff.trans (if_pos hmode))⟩,
    fun hmode hexcluded => executes_refuse hready rfl ?_, fun hmode hexcluded => executes_accept hready rfl ?_,
    fun hmode hdrive => executes_accept hready rfl ?_, fun hmode hdrive hfree => executes_accept hready rfl ?_,
    fun hmode hdrive hdwell hsuspect => ?_, fun hexcluded => executes_refuse hready rfl ?_, fun hexcluded => ?_⟩
  · exact hon.trans ((if_neg (not_not_intro hmode)).trans (if_pos ⟨rfl, hexcluded⟩))
  · have hopen : ¬ (true = true ∧ (s.zone z).excluded = true) := fun h => Bool.false_ne_true (hexcluded.symm.trans h.2)
    rw [hon, if_neg (not_not_intro hmode), if_neg hopen, driveZoneTo_on, State.setZone_same]
    exact congrArg (accept _) (hdata _ hmode)
  · rw [hoff, if_neg (not_not_intro hmode), if_neg (fun h => Bool.false_ne_true h.1), driveZoneTo_same hdrive,
      hdata _ hmode]
  · rw [hoff, if_neg (not_not_intro hmode), if_neg (fun h => Bool.false_ne_true h.1), driveZoneTo_off hdrive, driveOff]
    dsimp only
    rw [localizerZoneOff_idle (by exact hfree), State.setPlanner_zone, State.setZone_same]
    exact congrArg (accept _) (hdata _ hmode)
  · generalize hleft : (s.setZone z { old with drive := false, deferred := false }).setPlanner
      (s.planner.withdrawZone z) = left
    have hzone : left.zone z = { old with drive := false, deferred := false } := by
      rw [← hleft, State.setPlanner_zone, State.setZone_same]
    have hlocalizer : left.localizer = s.localizer := by rw [← hleft]; rfl
    have hdead : energizable left (.zone z) = false := Bool.eq_false_iff.2 fun h => by
      rw [energizable_zone_iff, hzone] at h
      exact h.2.elim (fun hauto => ZoneMode.noConfusion (hmode.symm.trans hauto)) fun hdriven => Bool.false_ne_true hdriven.2
    have ht : driveZoneTo z false s = advanceSuspect left := by
      rw [driveZoneTo_off hdrive, ← hleft]
      exact localizerZoneOff_dwell ⟨hdwell, hsuspect⟩
    obtain ⟨hout, hnot⟩ := advanceSuspect_zone (by rw [hlocalizer]; exact hsuspect) hdead
    rw [released_zone, hzone] at hout
    have houtside : (advanceSuspect left).sessions = s.sessions ∧ (advanceSuspect left).accounts = s.accounts ∧
        (advanceSuspect left).tariff = s.tariff ∧ (advanceSuspect left).meter = s.meter ∧
        (advanceSuspect left).supply = s.supply := by
      rw [← hleft]; simp
    obtain ⟨hsessions, haccounts, htariff, hmeter, hsupply⟩ := houtside
    refine ⟨advanceSuspect left, executes_accept hready rfl ?_, by rw [hout], by rw [hout], hnot, hsessions, haccounts,
      htariff, hmeter, hsupply, fun rail htarget => ?_⟩
    · rw [hoff, if_neg (not_not_intro hmode), if_neg (fun h => Bool.false_ne_true h.1), ht, hdata _ (by rw [hout]; exact hmode)]
    · rw [← hlocalizer]
      exact takesNextStep_advanceSuspect (by rw [hlocalizer]; exact htarget) (by rw [hlocalizer]; exact hsuspect)
  · exact hrestore.trans (if_neg (by rw [show old.excluded = false from hexcluded]; simp))
  · intro restored t
    have ht : restoreZone z s = t := restoreZone_eq z s
    have hzone : t.zone z = { restored with demand := demandOf (liveCold s) s.heating.preheat restored } :=
      (zone_of_heating (by simp [t]) z).trans (State.setZone_same s z _)
    have htemperature : (t.zone z).temperature = old.temperature := by rw [hzone]
    refine executes_accept hready rfl ((hrestore.trans (if_pos hexcluded)).trans ?_)
    rw [zoneData_eq, ht, htemperature]

end Sys2Proof.Machine
end

section
/-! SET_ZONE (R122, R136, R137). -/

namespace Sys2Proof.Machine

/-! ### Withdrawal of a zone (R119, R122) -/

/-- A rewriting of entries that switches no zone on keeps a zone out of every entry. -/
theorem mapFromRunning_zones_none {f : PlanEntry → PlanEntry} {z : Fin 6}
    (hf : ∀ e : PlanEntry, e.zones[z] = none → (f e).zones[z] = none) {p : Planner} {k : Fin 16}
    (h : (p.plan[k]).zones[z] = none) : ((mapFromRunning f p).plan[k]).zones[z] = none := by
  unfold mapFromRunning
  split
  · dsimp only
    rw [mapIndexed_get]
    split
    · exact hf _ h
    · exact h
  · exact h

theorem mapNotBegun_zones_none {f : PlanEntry → PlanEntry} {z : Fin 6}
    (hf : ∀ e : PlanEntry, e.zones[z] = none → (f e).zones[z] = none) {p : Planner} {k : Fin 16}
    (h : (p.plan[k]).zones[z] = none) : ((mapNotBegun f p).plan[k]).zones[z] = none := by
  unfold mapNotBegun
  split
  · dsimp only
    rw [mapIndexed_get]
    split
    · exact hf _ h
    · exact h
  · exact h

theorem remove_zones_none {y z : Fin 6} {e : PlanEntry} (h : e.zones[z] = none) : (e.remove y).zones[z] = none := by
  rw [remove_zones]
  split
  · rfl
  · exact h

/-- No step of the Localizer puts a zone into an entry. -/
theorem nextStep_zones_none {s : State} {z : Fin 6} {k : Fin 16} (h : (s.planner.plan[k]).zones[z] = none) :
    ((nextStep s).planner.plan[k]).zones[z] = none := by
  rcases takeSuspect_cases s.localizer.stack.reverse s with ⟨-, heq⟩ | ⟨-, x, below, -, -, -, heq⟩
  · rw [nextStep, heq, (deliverVerdict_packSide_frame _).1]
    exact h
  · have hcommand (e : PlanEntry) (he : e.zones[z] = none) : ({ e with command := 0 } : PlanEntry).zones[z] = none := he
    rw [nextStep, heq]
    cases x with
    | charger => rw [beginStep_charger]; exact mapNotBegun_zones_none hcommand h
    | zone y =>
      rw [beginStep_zone]
      exact mapFromRunning_zones_none (fun _ => remove_zones_none) h

theorem withdrawZone_idle {p : Planner} {z : Fin 6} (h : p.state ≠ .running ∨ p.slot = none) : p.withdrawZone z = p :=
  mapNotBegun_idle h

theorem withdrawZone_entry {p : Planner} {z : Fin 6} {now : Fin 16} (hstate : p.state = .running)
    (hslot : p.slot = some now) (k : Fin 16) :
    (p.withdrawZone z).plan[k] = if now < k then (p.plan[k]).remove z else p.plan[k] := by
  rw [Planner.withdrawZone, mapNotBegun_running hstate hslot]
  exact mapIndexed_get _ _ k

theorem plans_iff {p : Planner} {z : Fin 6} : p.plans z = true ↔ p.state = .running ∧ ∃ now, p.slot = some now ∧
    ∃ k : Fin 16, now ≤ k ∧ ((p.plan[k]).zones[z]).isSome = true := by
  unfold Planner.plans
  split
  · next now hstate hslot =>
    simp only [List.any_eq_true, Bool.and_eq_true, decide_eq_true_eq, List.mem_finRange, true_and]
    refine ⟨fun h => ⟨hstate, now, hslot, h⟩, fun ⟨_, m, hm, h⟩ => ?_⟩
    rw [hslot] at hm
    exact Option.some.inj hm ▸ h
  · next hnot =>
    exact iff_of_false Bool.false_ne_true fun ⟨hstate, now, hslot, _⟩ => hnot now hstate hslot

/-! ### Operands and checks (R136) -/

theorem mode?_code (m : ZoneMode) : mode? (index m.code) = some m := by cases m <;> rfl

theorem mode?_bad {b : Byte} (hbad : 3 ≤ b.toNat) : mode? b = none := by
  have hzero : b ≠ 0 := by rintro rfl; exact absurd hbad (by decide)
  have hone : b ≠ 1 := by rintro rfl; exact absurd hbad (by decide)
  have htwo : b ≠ 2 := by rintro rfl; exact absurd hbad (by decide)
  rw [mode?, if_neg hzero, if_neg hone, if_neg htwo]

theorem requestSetZone_bad {zone mode : Byte} {target : BitVec 16} {rated : BitVec 32} (s : State)
    (hbad : 6 ≤ zone.toNat ∨ 3 ≤ mode.toNat ∨ target.toInt < -80 ∨ 120 < target.toInt ∨ 8000 < rated.toNat) :
    requestSetZone zone mode target rated s = refuse s .badValue := by
  unfold requestSetZone
  split
  · next z m t w hz hm ht hw =>
    rcases hbad with hbad | hbad | hbad | hbad | hbad
    · rw [index?_eq_none hbad] at hz; cases hz
    · rw [mode?_bad hbad] at hm; cases hm
    · rw [temperature?_bad (.inl hbad)] at ht; cases ht
    · rw [temperature?_bad (.inr hbad)] at ht; cases ht
    · rw [within?_eq_none (.inr hbad)] at hw; cases hw
  · rfl

theorem modeRefusal_none {mode : ZoneMode} {r : Zone} (h : ¬ (mode = .direct ∧ (r.mode = .auto ∨ r.excluded = true))) :
    modeRefusal mode r = none := by
  unfold modeRefusal
  split
  · next hdirect => rw [if_neg fun hauto => h ⟨hdirect, .inl hauto⟩, if_neg fun hexcluded => h ⟨hdirect, .inr hexcluded⟩]
  · rfl

section
variable {target : BitVec 16} {rated : BitVec 32}

/-- A SET_ZONE with its fields in range, by the refusal of its mode. -/
theorem requestSetZone_good (z : Fin 6) (mode : ZoneMode) (hcold : -80 ≤ target.toInt) (hwarm : target.toInt ≤ 120)
    (hrated : rated.toNat ≤ 8000) (s : State) : requestSetZone (index z.val) (index mode.code) target rated s =
      (modeRefusal mode (s.zone z)).elim
        (accept (setZoneTo z mode target.toInt rated.toNat s) (zoneData z (setZoneTo z mode target.toInt rated.toNat s)))
        (refuse s) := by
  simp only [requestSetZone, index?_zone, mode?_code, temperature?_good hcold hwarm,
    within?_eq_some (Nat.zero_le _) hrated]
  cases modeRefusal mode (s.zone z) <;> rfl

end

/-! ### What an accepted SET_ZONE does (R137) -/

theorem driveAfter_eq (mode : ZoneMode) (r : Zone) : driveAfter mode r =
    (r.drive && decide ((mode = .direct ∧ r.mode = .direct) ∨ (mode = .auto ∧ r.mode = .off) ∨
      (mode = .auto ∧ r.mode = .auto))) := by
  unfold driveAfter
  cases r.mode <;> cases mode <;> simp

section
variable {mode : ZoneMode} {r : Zone} (hallowed : ¬ (mode = .direct ∧ r.mode = .auto))
include hallowed

theorem clearsDeferred_iff : clearsDeferred mode r = true ↔ r.mode ≠ .off ∧ mode ≠ r.mode := by
  unfold clearsDeferred
  cases hr : r.mode <;> cases mode <;> simp_all

theorem withdrawsZone_iff (rated : Nat) (inPlan : Bool) : withdrawsZone mode rated r inPlan = true ↔
    (r.mode ≠ .off ∧ mode ≠ r.mode) ∨ (r.mode ≠ .off ∧ rated ≠ r.rated ∧ inPlan = true) := by
  unfold withdrawsZone
  cases hr : r.mode <;> cases mode <;> simp_all

end

/-- The record of a zone after a SET_ZONE, its demand still as it was (R137). -/
def Zone.set (mode : ZoneMode) (target : Int) (rated : Nat) (r : Zone) : Zone :=
  { r with
    mode := mode, target := target, rated := rated, drive := driveAfter mode r
    deferred := if clearsDeferred mode r then false else r.deferred }

/-- The zone set and its demand computed. -/
def zoneSet (z : Fin 6) (mode : ZoneMode) (target : Int) (rated : Nat) (s : State) : State :=
  s.setZone z { (s.zone z).set mode target rated with
    demand := demandOf (liveCold s) s.heating.preheat ((s.zone z).set mode target rated) }

/-- The zone set, and withdrawn where it has to be. -/
def zonePlanned (z : Fin 6) (mode : ZoneMode) (target : Int) (rated : Nat) (s : State) : State :=
  if withdrawsZone mode rated (s.zone z) (s.planner.plans z) then
    (zoneSet z mode target rated s).setPlanner (s.planner.withdrawZone z)
  else zoneSet z mode target rated s

theorem setZoneTo_eq (z : Fin 6) (mode : ZoneMode) (target : Int) (rated : Nat) (s : State) :
    setZoneTo z mode target rated s =
      if mode = .off then localizerZoneOff z (zonePlanned z mode target rated s) else zonePlanned z mode target rated s := by
  have hset : recomputeDemand z (s.setZone z ((s.zone z).set mode target rated)) = zoneSet z mode target rated s :=
    recomputeDemand_setZone z s _
  unfold setZoneTo
  dsimp only
  rw [← Zone.set, hset]
  rfl

section
variable {z : Fin 6} {mode : ZoneMode} {target : Int} {rated : Nat} {s : State}

theorem zonePlanned_zone (y : Fin 6) :
    (zonePlanned z mode target rated s).zone y = (zoneSet z mode target rated s).zone y := by
  unfold zonePlanned
  split <;> rfl

theorem zonePlanned_same : (zonePlanned z mode target rated s).zone z = { (s.zone z).set mode target rated with
    demand := demandOf (liveCold s) s.heating.preheat ((s.zone z).set mode target rated) } :=
  (zonePlanned_zone z).trans (State.setZone_same s z _)

theorem zonePlanned_other {y : Fin 6} (hy : y ≠ z) : (zonePlanned z mode target rated s).zone y = s.zone y :=
  (zonePlanned_zone y).trans (State.setZone_other s z y _ hy.symm)

theorem zonePlanned_outside : (zonePlanned z mode target rated s).localizer = s.localizer ∧
    (zonePlanned z mode target rated s).isolation = s.isolation ∧
    (zonePlanned z mode target rated s).attention = s.attention ∧
    (zonePlanned z mode target rated s).sessions = s.sessions ∧
    (zonePlanned z mode target rated s).heating.preheat = s.heating.preheat := by
  unfold zonePlanned
  split <;> exact ⟨rfl, rfl, rfl, rfl, rfl⟩

/-- A suspect set OFF is out of test. -/
def EndsTest (z : Fin 6) (mode : ZoneMode) (s : State) : Prop :=
  mode = .off ∧ s.localizer.state = .dwell ∧ s.localizer.suspect = some (.zone z)

theorem setZoneTo_stands (h : ¬ EndsTest z mode s) :
    setZoneTo z mode target rated s = zonePlanned z mode target rated s := by
  rw [setZoneTo_eq]
  split
  · next hoff => exact localizerZoneOff_idle (by rw [zonePlanned_outside.1]; exact fun hdwell => h ⟨hoff, hdwell⟩)
  · rfl

theorem setZoneTo_ends (h : EndsTest z mode s) :
    setZoneTo z mode target rated s = advanceSuspect (zonePlanned z mode target rated s) := by
  obtain ⟨hoff, hdwell⟩ := h
  rw [setZoneTo_eq, if_pos hoff, localizerZoneOff_dwell (by rw [zonePlanned_outside.1]; exact hdwell)]

theorem setZoneTo_sessions : (setZoneTo z mode target rated s).sessions = s.sessions := by
  rw [setZoneTo_eq]
  split
  · rw [localizerZoneOff_sessions, zonePlanned_outside.2.2.2.1]
  · exact zonePlanned_outside.2.2.2.1

/-- A suspect set OFF is released and not taken up again. -/
theorem setZoneTo_ends_zone (h : EndsTest z mode s) :
    (setZoneTo z mode target rated s).zone z = (released (.zone z) (zonePlanned z mode target rated s)).zone z ∧
    (setZoneTo z mode target rated s).localizer.suspect ≠ some (.zone z) := by
  rw [setZoneTo_ends h]
  refine advanceSuspect_zone (by rw [zonePlanned_outside.1]; exact h.2.2) (Bool.eq_false_iff.2 fun htrue => ?_)
  rw [energizable_zone_iff, zonePlanned_same] at htrue
  have hmode : ((s.zone z).set mode target rated).mode = .off := h.1
  exact htrue.2.elim (fun hauto => ZoneMode.noConfusion (hmode.symm.trans hauto))
    fun hdriven => ZoneMode.noConfusion (hmode.symm.trans hdriven.1)

/-- The zone's record after a SET_ZONE: as set, with its demand, and out of test where the test ended. -/
theorem setZoneTo_zone : ∃ under, (setZoneTo z mode target rated s).zone z = { (s.zone z).set mode target rated with
    underTest := under
    demand := demandOf (liveCold s) s.heating.preheat
      { (s.zone z).set mode target rated with underTest := under } } := by
  by_cases h : EndsTest z mode s
  · have hcold : liveCold (zonePlanned z mode target rated s) = liveCold s :=
      liveCold_of_sessions zonePlanned_outside.2.2.2.1
    refine ⟨false, ?_⟩
    rw [(setZoneTo_ends_zone h).1, released_zone, zonePlanned_same, hcold, zonePlanned_outside.2.2.2.2]
    rfl
  · refine ⟨((s.zone z).set mode target rated).underTest, ?_⟩
    rw [setZoneTo_stands h, zonePlanned_same]

theorem setZoneTo_other {y : Fin 6} (hy : y ≠ z) : (s.zone y).Tested ((setZoneTo z mode target rated s).zone y) := by
  rw [← zonePlanned_other (mode := mode) (target := target) (rated := rated) hy]
  by_cases h : EndsTest z mode s
  · rw [setZoneTo_ends h]; exact (zonesTested_advanceSuspect _).2 y
  · rw [setZoneTo_stands h]

/-- A zone withdrawn stays out of the slots not yet begun. -/
theorem setZoneTo_withdrawn {now k : Fin 16} (hwithdraws : withdrawsZone mode rated (s.zone z) (s.planner.plans z) = true)
    (hstate : s.planner.state = .running) (hslot : s.planner.slot = some now) (hk : now < k) :
    (((setZoneTo z mode target rated s).planner.plan[k]).zones[z]) = none := by
  have hplanned : ((zonePlanned z mode target rated s).planner.plan[k]).zones[z] = none := by
    have hplanner : (zonePlanned z mode target rated s).planner = s.planner.withdrawZone z := by
      rw [zonePlanned, if_pos hwithdraws]; rfl
    rw [hplanner, withdrawZone_entry hstate hslot, if_pos hk, remove_zones, if_pos rfl]
  by_cases h : EndsTest z mode s
  · rw [setZoneTo_ends h]
    exact nextStep_zones_none (by simpa using hplanned)
  · rw [setZoneTo_stands h]; exact hplanned

end

/-- Settles O40: the fields, the mode's refusal, and the record, plan and test that an accepted request leaves. -/
theorem setZoneRequest : Obligations.SetZoneRequest := by
  refine ⟨fun s zone mode target rated hready hbad => executes_refuse hready rfl (requestSetZone_bad s hbad),
    fun s z mode target rated hready hcold hwarm hrated => ?_, fun p z => ⟨withdrawZone_idle, fun now hstate hslot => ?_⟩⟩
  · intro q old moved planned withdrawn set changed ended
    have hserve : serve .cp s q = _ := requestSetZone_good z mode hcold hwarm hrated s
    refine ⟨fun hdirect hauto => executes_refuse hready rfl ?_, fun hdirect hother hexcluded => executes_refuse hready rfl ?_,
      fun hallowed => ?_⟩
    · rw [hserve, modeRefusal, if_pos hdirect, if_pos hauto]; rfl
    · rw [hserve, modeRefusal, if_pos hdirect, if_neg hother, if_pos hexcluded]; rfl
    have hmode : ¬ (mode = .direct ∧ old.mode = .auto) := fun h => hallowed ⟨h.1, .inl h.2⟩
    have hset : old.set mode target.toInt rated.toNat = set := by
      rw [Zone.set, driveAfter_eq]
      simp only [clearsDeferred_iff hmode]
      rfl
    have hwithdraws : withdrawsZone mode rated.toNat old (s.planner.plans z) = true ↔ withdrawn :=
      (withdrawsZone_iff hmode _ _).trans (by rw [plans_iff])
    have hchanged : zoneSet z mode target.toInt rated.toNat s = changed := by rw [zoneSet, hset]
    obtain ⟨under, hzone⟩ := setZoneTo_zone (z := z) (mode := mode) (target := target.toInt) (rated := rated.toNat) (s := s)
    rw [hset] at hzone
    have hoff : ended ↔ EndsTest z mode s := Iff.rfl
    refine ⟨setZoneTo z mode target.toInt rated.toNat s, zonePlanned z mode target.toInt rated.toNat s,
      executes_accept hready rfl ?_, fun h => ?_, fun h => ?_, setZoneTo_stands, fun h rail htarget => ?_,
      setZoneTo_sessions, by simp, by simp, by simp, by simp, by simp, by simp, by simp,
      by rw [hzone], by rw [hzone], by rw [hzone], by rw [hzone], by rw [hzone], by rw [hzone], by rw [hzone],
      by rw [hzone], by rw [hzone], by rw [hzone]; rfl, fun y hy => ?_, fun h hstate now hslot k hk => ?_,
      fun hmoff hdwell hsuspect => (setZoneTo_ends_zone ⟨hmoff, hdwell, hsuspect⟩).2, fun h => ?_⟩
    · rw [hserve, modeRefusal_none hallowed, zoneData_eq]; rfl
    · rw [zonePlanned, if_pos (hwithdraws.2 h), hchanged]; rfl
    · rw [zonePlanned, if_neg (mt hwithdraws.1 h), hchanged]
    · have hlocalizer := zonePlanned_outside (z := z) (mode := mode) (target := target.toInt) (rated := rated.toNat) (s := s)
      rw [setZoneTo_ends h, ← hlocalizer.1]
      exact takesNextStep_advanceSuspect (by rw [hlocalizer.1]; exact htarget) (by rw [hlocalizer.1]; exact h.2.2)
    · rw [setZoneTo_other hy]; exact ⟨rfl, rfl, rfl, rfl, rfl, rfl⟩
    · exact setZoneTo_withdrawn (hwithdraws.2 h) hstate hslot hk
    · rw [setZoneTo_stands h]
      obtain ⟨hlocalizer, hisolation, hattention, -, -⟩ := zonePlanned_outside (z := z) (mode := mode)
        (target := target.toInt) (rated := rated.toNat) (s := s)
      exact ⟨hlocalizer, hisolation, hattention⟩
  · rw [Planner.withdrawZone, mapNotBegun_running hstate hslot, mapIndexed]
    refine congrArg (fun plan => { p with plan := plan }) (congrArg Vector.ofFn (funext fun k => ?_))
    cases hzone : (p.plan[k]).zones[z] with
    | none => rw [remove_of_none hzone, ite_self]
    | some w => rw [remove_of_some hzone]

end Sys2Proof.Machine
end

section
/-! LOCALIZE and CANCEL_LOCALIZE, the dwell and its evaluation (R160 to R167). -/

namespace Sys2Proof.Machine

/-! ### Reasons handed over quietly (R150) -/

theorem changeReasonsQuietly_reasons {s : State} {i : Fin 8} (f : PauseReasons → PauseReasons)
    (hlive : (s.session i).state.isLive = true) :
    ((changeReasonsQuietly i f s).session i).reasons = f (s.session i).reasons := by
  unfold changeReasonsQuietly
  dsimp only
  split
  · next h => exact (h.resolve_left (by simp [hlive])).symm
  · have hsessions (left : Bool) (u : State) (hu : u.sessions = (s.setSession i
        ((s.session i).withReasons (f (s.session i).reasons))).sessions) :
        ((plannerSessionChanged left u).session i).reasons = f (s.session i).reasons := by
      rw [session_eq_of_sessions (by simpa using hu) i, State.setSession_same]
      rfl
    refine hsessions _ _ ?_
    split <;> simp

theorem changeLiveQuietly_reasons {s : State} {i : Fin 8} (f : PauseReasons → PauseReasons) (hlive : liveSlot s = some i) :
    ((changeLiveQuietly f s).session i).reasons = f (s.session i).reasons := by
  rw [changeLiveQuietly, hlive]
  exact changeReasonsQuietly_reasons f (liveSlot_some hlive)

/-- The condition handed over is the live session's ISOLATION reason where it has changed. -/
theorem handIsolation_changed {before : Bool} {s : State} {i : Fin 8} (hlive : liveSlot s = some i)
    (hchange : isolationCondition s ≠ before) : ((handIsolation before s).session i).reasons =
      { (s.session i).reasons with isolation := isolationCondition s } := by
  rw [handIsolation, if_neg hchange]
  exact changeLiveQuietly_reasons _ hlive

theorem handIsolation_unchanged {before : Bool} {s : State} (hsame : isolationCondition s = before) :
    handIsolation before s = s := if_pos hsame

/-! ### The verdicts' effects (R165) -/

theorem demandOf_excluded {cold : Bool} {preheat : Int} {r : Zone} (h : r.excluded = true) :
    demandOf cold preheat r = 0 := demandOf_zero (.inr (.inl h))

theorem verdictEffect_zone_excluded {z : Fin 6} {s : State} (h : (s.zone z).excluded = true) :
    verdictEffect (.zone z) s = s.setZone z { s.zone z with underTest := false, demand := 0 } := by
  rw [verdictEffect, excludeZone_excluded h, clearUnderTest_eq, demandOf_excluded (r := { s.zone z with underTest := false }) h]

theorem verdictEffect_zone_free {z : Fin 6} {s : State} (h : (s.zone z).excluded = false) :
    verdictEffect (.zone z) s = ((s.setIsolation { s.isolation with votes := s.isolation.votes.set z 0 }).setZone z
      { s.zone z with excluded := true, underTest := false, demand := 0, granted := 0 }).setPlanner
        (s.planner.withdrawAtOnce z) := by
  rw [verdictEffect, excludeZone_eq h, clearUnderTest_eq, State.setPlanner_zone, State.setZone_same, demandOf_excluded rfl]
  exact (State.setZone_setZone ((s.setIsolation _).setPlanner _) z _ _)

/-- An abort leaves the plan, and its suspect out of test (R166). -/
theorem deliverVerdict_unresolved (s : State) : (deliverVerdict .unresolved s).planner = s.planner ∧
    ∀ z, s.localizer.suspect = some (.zone z) → ((deliverVerdict .unresolved s).zone z).underTest = false := by
  obtain ⟨u, hkept, heq⟩ := deliverVerdict_eq .unresolved s
  refine ⟨?_, fun z hz => ?_⟩
  · unfold deliverVerdict
    split
    · rw [writeVerdict_eq Verdict.noConfusion]; simp [verdictEffect]
    · simp [verdictEffect]
  · have hsuspect : u.localizer.suspect = some (.zone z) := by rw [hkept.record]; exact hz
    rw [heq, verdictEffect, releaseSuspect_eq hsuspect]
    exact congrArg Zone.underTest (released_zone z u)

theorem deliverVerdict_record (v : Verdict) (s : State) :
    (deliverVerdict v s).localizer.state = .idle ∧ (deliverVerdict v s).localizer.target = none ∧
    (deliverVerdict v s).localizer.suspect = none ∧ (deliverVerdict v s).localizer.stack = [] ∧
    ∀ p, ((deliverVerdict v s).attention.pendingOf p).getLsbD 8 = true := by
  obtain ⟨u, -, heq⟩ := deliverVerdict_eq v s
  rw [heq]
  exact ⟨rfl, rfl, rfl, rfl, fun p => post_pending p .localizeDone _⟩

/-! ### LOCALIZE (R160, R161) -/

theorem suspectStack_eq (s : State) : suspectStack s =
    (if ∃ j : Fin 16, 0 < (s.planner.plan[j]).command then [Suspect.charger] else []) ++
      ((List.finRange 6).filter fun z => decide (0 < (s.zone z).granted)).map Suspect.zone := by
  simp [suspectStack]

theorem takesNextStep_startLocalization (rail : Rail) (s : State) :
    TakesNextStep rail (suspectStack s) s (startLocalization rail s) := takesNextStep_nextStep rfl

/-! ### The dwell (R163, R164) -/

theorem clearsLevel_iff (level reading : Nat) : clearsLevel level reading = true ↔ 5 * level ≤ 4 * reading :=
  decide_eq_true_iff

section
variable {f : MeterFrame} {s : State} {rail : Rail}

theorem localizerFrame_stands (h : f.insulationValid = false ∨ s.localizer.state = .idle) : localizerFrame f s = s := by
  unfold localizerFrame
  split
  · next hdwell _ =>
    refine if_neg (fun hvalid => ?_)
    rcases h with h | h
    · exact Bool.false_ne_true (h.symm.trans hvalid)
    · exact LocalizerState.noConfusion (h.symm.trans hdwell)
  · rfl

/-- A valid reading in a dwell counts, and completes the step at its length. -/
theorem localizerFrame_dwell (hvalid : f.insulationValid = true) (hdwell : s.localizer.state = .dwell)
    (htarget : s.localizer.target = some rail) : localizerFrame f s =
      if s.localizer.stepLength ≤ s.localizer.dwellCount + 1 then
        evaluateStep (s.setLocalizer (s.localizer.counted (f.reading rail)))
      else s.setLocalizer (s.localizer.counted (f.reading rail)) := by
  simp only [localizerFrame, hdwell, htarget, hvalid, if_true]
  rfl

end

/-- A complete step by its readings. -/
theorem evaluateStep_eq {s : State} {x : Suspect} (hsuspect : s.localizer.suspect = some x) : evaluateStep s =
    if ∀ v ∈ s.localizer.readings, 5 * Config.referenceLevel s.isolation.settings.warning ≤ 4 * v then
      deliverVerdict x.verdict s
    else advanceSuspect s := by
  simp only [evaluateStep, hsuspect, List.all_eq_true, clearsLevel_iff]

/-- The verdict on a zone: it is excluded, out of test and withdrawn. -/
theorem deliverVerdict_zone {rail : Rail} {s : State} (z : Fin 6) (htarget : s.localizer.target = some rail) :
    (deliverVerdict (.zone z) s).sessions = s.sessions ∧ ((deliverVerdict (.zone z) s).zone z).excluded = true ∧
    ((deliverVerdict (.zone z) s).zone z).underTest = false ∧ ((deliverVerdict (.zone z) s).zone z).demand = 0 ∧
    ((s.zone z).excluded = true → (deliverVerdict (.zone z) s).planner = s.planner) ∧
    ((s.zone z).excluded = false → LeavesAtOnce z s.planner (deliverVerdict (.zone z) s).planner ∧
      (deliverVerdict (.zone z) s).isolation.votes[z] = 0 ∧
      (deliverVerdict (.zone z) s).heating = (s.setZone z { s.zone z with
        excluded := true, underTest := false, demand := 0, granted := 0 }).heating) := by
  refine ⟨deliverVerdict_sessions Verdict.noConfusion s, ?_⟩
  rw [deliverVerdict_target htarget, writeVerdict_eq Verdict.noConfusion]
  generalize hu : s.setFault (warnKey rail) ((s.fault (warnKey rail)).withVerdict (.zone z)) = u
  have hzone : u.zone z = s.zone z := by rw [← hu]; rfl
  have hplanner : u.planner = s.planner := by rw [← hu]; rfl
  have hheating : u.heating = s.heating := by rw [← hu]; rfl
  cases hexcluded : (s.zone z).excluded with
  | true =>
    rw [verdictEffect_zone_excluded (by rw [hzone]; exact hexcluded)]
    have hrecord : (u.setZone z { u.zone z with underTest := false, demand := 0 }).zone z =
        { s.zone z with underTest := false, demand := 0 } := by rw [State.setZone_same, hzone]
    refine ⟨(congrArg Zone.excluded hrecord).trans hexcluded, congrArg Zone.underTest hrecord,
      congrArg Zone.demand hrecord, fun _ => hplanner, nofun⟩
  | false =>
    rw [verdictEffect_zone_free (by rw [hzone]; exact hexcluded)]
    have hrecord := State.setZone_same (u.setIsolation { u.isolation with votes := u.isolation.votes.set z 0 }) z
      { u.zone z with excluded := true, underTest := false, demand := 0, granted := 0 }
    refine ⟨congrArg Zone.excluded hrecord, congrArg Zone.underTest hrecord, congrArg Zone.demand hrecord, nofun,
      fun _ => ⟨hplanner ▸ leavesAtOnce_withdrawAtOnce z u.planner, ?_, ?_⟩⟩
    · exact Vector.getElem_set_self _
    · show (u.setZone z _).heating = _
      rw [hzone, ← hu]
      rfl

theorem isolationCondition_of_charger {rail : Rail} {s : State} (h : chargerAtFault (s.fault (warnKey rail)) = true) :
    isolationCondition s = true := by
  rw [isolationCondition]
  cases rail with
  | pos => rw [h, Bool.or_true, Bool.true_or]
  | neg => rw [h, Bool.or_true]

/-- The verdict on the charger is a reason for the live session not to draw (R14, R149). -/
theorem deliverVerdict_charger {rail : Rail} {s : State} (htarget : s.localizer.target = some rail) :
    (deliverVerdict .charger s).heating = s.heating ∧
    ∀ i, liveSlot s = some i → (s.fault (warnKey rail)).state ≠ .free → isolationCondition s = false →
      ((deliverVerdict .charger s).session i).reasons = { (s.session i).reasons with isolation := true } := by
  rw [deliverVerdict_target htarget]
  refine ⟨by simp [verdictEffect], fun i hlive hstate hbefore => ?_⟩
  generalize hu : s.setFault (warnKey rail) ((s.fault (warnKey rail)).withVerdict .charger) = u
  have hcharger : (u.fault (warnKey rail)).verdict = some .charger := by
    rw [← hu, State.setFault_same]
    show (if _ then _ else _) = _
    rw [ite_self]
  have hfree : (u.fault (warnKey rail)).state ≠ .free := by rw [← hu, State.setFault_same]; exact hstate
  have hnow := isolationCondition_of_charger ((chargerAtFault_iff _).2 ⟨hfree, hcharger⟩)
  have hwritten : writeVerdict rail .charger s = handIsolation false u := by rw [writeVerdict, hbefore, hu]
  have hlive' : liveSlot u = some i := by rw [← hu]; exact hlive
  have hreasons := handIsolation_changed (before := false) hlive' (by rw [hnow]; nofun)
  rw [hwritten]
  refine Eq.trans ?_ (hreasons.trans ?_)
  · rfl
  · rw [hnow, ← hu]; rfl

theorem energizable_charger_iff (s : State) : energizable s .charger = true ↔
    ∃ i, liveSlot s = some i ∧ (s.session i).state = .active := by
  cases hlive : liveSlot s with
  | none => simp [energizable, hlive]
  | some i => simp [energizable, hlive]

theorem key?_good (k : Fin 12) : key? (index k.val) = some k := index?_index (by decide) k

theorem key?_bad {b : Byte} (hbad : 12 ≤ b.toNat) : key? b = none := index?_eq_none hbad

theorem key?_some {b : Byte} (h : b.toNat < 12) : ∃ k, key? b = some k ∧ k.val = b.toNat := ⟨⟨b.toNat, h⟩, dif_pos h, rfl⟩

theorem requestLocalize_idle {s : State} (hidle : s.localizer.state = .idle) (rail : Rail) :
    requestLocalize (index (warnKey rail).val) s = if (s.fault (warnKey rail)).state = .active then
      accept (startLocalization rail s) (localizerBytes (startLocalization rail s).localizer)
    else refuse s .wrongState := by
  have hdwell : ¬ s.localizer.state = .dwell := by rw [hidle]; exact LocalizerState.noConfusion
  have hrail : warnRail (warnKey rail) = some rail := by cases rail <;> rfl
  simp only [requestLocalize, key?_good, if_neg hdwell, hrail]

/-- Settles O47: the two requests by the state of the localization, the frame by the dwell count, and the ends of a step
by the lemmas above. -/
theorem localizeAndCancel : Obligations.LocalizeAndCancel := by
  refine ⟨fun s key hready => ⟨fun hbad => executes_refuse hready rfl ?_, fun hkey hdwell => executes_refuse hready rfl ?_,
      fun hother hkey hidle => executes_refuse hready rfl ?_⟩, fun s rail hready hidle => ?_,
    fun s hready => ⟨fun hidle => executes_accept hready rfl ?_, fun hdwell => ?_⟩, fun s => ⟨?_, energizable_zone_iff s⟩,
    fun f s => ⟨localizerFrame_stands, fun rail x hvalid hdwell htarget hsuspect => ?_⟩, fun s => ⟨fun h => ?_, fun z h => ?_, ?_⟩⟩
  · rw [serve, requestLocalize, key?_bad hbad]
  · obtain ⟨k, hk, -⟩ := key?_some hkey
    simp only [serve, requestLocalize, hk, if_pos hdwell]
  · obtain ⟨k, hk, hval⟩ := key?_some hkey
    have hdwell : ¬ s.localizer.state = .dwell := by rw [hidle]; exact LocalizerState.noConfusion
    have hpos : k ≠ warnKey .pos := by rintro rfl; exact absurd (hval ▸ hother) (by decide)
    have hneg : k ≠ warnKey .neg := by rintro rfl; exact absurd (hval ▸ hother) (by decide)
    have hrail : warnRail k = none := by rw [warnRail, if_neg hpos, if_neg hneg]
    simp only [serve, requestLocalize, hk, if_neg hdwell, hrail]
  · intro k q stack
    have hk : warnKey rail = k := by cases rail <;> rfl
    have hserve : serve .cp s q = _ := hk ▸ requestLocalize_idle hidle rail
    refine ⟨fun hstate => executes_refuse hready rfl (hserve.trans (if_neg hstate)), fun hstate =>
      ⟨startLocalization rail s, executes_accept hready rfl (hserve.trans (if_pos hstate)), ?_⟩⟩
    rw [show stack = suspectStack s from (suspectStack_eq s).symm]
    exact takesNextStep_startLocalization rail s
  · rw [serve, requestCancelLocalize, abortDwell_idle s hidle]
  · obtain ⟨hplanner, hunder⟩ := deliverVerdict_unresolved s
    obtain ⟨hidle, htarget, hsuspect, hstack, hpending⟩ := deliverVerdict_record .unresolved s
    refine ⟨deliverVerdict .unresolved s, executes_accept hready rfl ?_, deliverVerdict_sessions Verdict.noConfusion s,
      by simp, by simp, by simp, by simp, hplanner, hidle, htarget, hsuspect, hstack, hpending .cp, hunder, fun r hr => ?_⟩
    · rw [serve, requestCancelLocalize, abortDwell_dwell s hdwell]
    · have hends := endsLocalization_deliverVerdict hr .unresolved
      exact ⟨by rw [hends.1], hends⟩
  · exact energizable_charger_iff s
  · intro reading longer counted recovered t
    have hcounted : s.setLocalizer (s.localizer.counted (f.reading rail)) = counted := by cases rail <;> rfl
    have ht : t = _ := localizerFrame_dwell hvalid hdwell htarget
    rw [hcounted] at ht
    have hstep (hlength : s.localizer.stepLength ≤ s.localizer.dwellCount + 1) : t =
        if recovered then deliverVerdict x.verdict counted else advanceSuspect counted := by
      rw [ht, if_pos hlength]
      exact evaluateStep_eq hsuspect
    have hsame : counted.localizer.target = some rail := htarget
    refine ⟨fun hshort => by rw [ht, if_neg hshort.not_ge], fun hlength hnot => ?_, fun hlength hrecovered =>
      ⟨fun z hz => ?_, fun hx => ?_⟩⟩
    · rw [hstep hlength, if_neg hnot]
      exact takesNextStep_advanceSuspect htarget hsuspect
    · subst hz
      rw [hstep hlength, if_pos hrecovered]
      exact ⟨endsLocalization_deliverVerdict hsame _, deliverVerdict_zone z hsame⟩
    · subst hx
      rw [hstep hlength, if_pos hrecovered]
      exact ⟨endsLocalization_deliverVerdict hsame _, deliverVerdict_charger hsame⟩
  · exact if_neg fun ⟨hdwell, hsuspect⟩ => h.elim (absurd hdwell) (absurd hsuspect)
  · exact if_neg fun ⟨hdwell, hsuspect⟩ => h.elim (absurd hdwell) (absurd hsuspect)
  · intro rail hdwell htarget
    refine ⟨fun hsuspect => ?_, fun z hsuspect => ?_⟩
    · rw [localizerSessionLeft, if_pos ⟨hdwell, hsuspect⟩]
      exact takesNextStep_advanceSuspect htarget hsuspect
    · rw [localizerZoneOff_dwell ⟨hdwell, hsuspect⟩]
      exact takesNextStep_advanceSuspect htarget hsuspect

end Sys2Proof.Machine
end

section
/-! SET_ISOLATION, LOOK_FAULT and RETIRE_FAULT (R154, R156, R157). -/

namespace Sys2Proof.Machine

/-! ### SET_ISOLATION (R157) -/

theorem onOff?_good {b : Byte} (h : b.toNat ≤ 1) : onOff? b = some (decide (b = 1)) := by
  by_cases hone : b = 1
  · subst hone; rfl
  · have hzero : b = 0 := by bv_omega
    subst hzero; rfl

theorem byte_bit_onOff {b : Byte} (h : b.toNat ≤ 1) : byte (bit (decide (b = 1))) = byte b.toNat := by
  by_cases hone : b = 1
  · subst hone; rfl
  · have hzero : b = 0 := by bv_omega
    subst hzero; rfl

theorem persistence_iff (p : Byte) : (p = 2 ∨ p = 4 ∨ p = 8 ∨ p = 16) ↔ p.toNat ∈ [2, 4, 8, 16] := by
  simp only [List.mem_cons, List.not_mem_nil, or_false]
  refine or_congr ?_ (or_congr ?_ (or_congr ?_ ?_)) <;> rw [← BitVec.toNat_inj] <;> rfl

section
variable {w t p a d : Byte}

theorem isolationSettings?_good (hw : w.toNat ≤ 7) (ht : t.toNat < w.toNat) (hp : p.toNat ∈ [2, 4, 8, 16])
    (ha : a.toNat ≤ 1) (hlow : 8 ≤ d.toNat) (hhigh : d.toNat ≤ 64) : isolationSettings? w t p a d =
      some ⟨w.toNat, t.toNat, p.toNat, decide (a = 1), d.toNat⟩ := by
  simp only [isolationSettings?, within?_eq_some (Nat.zero_le _) hw, within?_eq_some (Nat.zero_le _) (ht.le.trans hw),
    onOff?_good ha, within?_eq_some hlow hhigh]
  exact if_pos ⟨ht, (persistence_iff p).2 hp⟩

theorem isolationSettings?_bad (hbad : ¬ (w.toNat ≤ 7 ∧ t.toNat < w.toNat ∧ p.toNat ∈ [2, 4, 8, 16] ∧ a.toNat ≤ 1 ∧
    8 ≤ d.toNat ∧ d.toNat ≤ 64)) : isolationSettings? w t p a d = none := by
  unfold isolationSettings?
  split
  · next w' t' a' d' hw ht ha hd =>
    have hwarning : w.toNat ≤ 7 ∧ w' = w.toNat := by
      rw [within?] at hw; split at hw
      · next h => exact ⟨h.2, (Option.some.inj hw).symm⟩
      · cases hw
    have htrip : t' = t.toNat := by
      rw [within?] at ht; split at ht
      · exact (Option.some.inj ht).symm
      · cases ht
    have hauto : a.toNat ≤ 1 := not_lt.1 fun h => by rw [onOff?_bad h] at ha; cases ha
    have hdwell : 8 ≤ d.toNat ∧ d.toNat ≤ 64 := by
      rw [within?] at hd; split at hd
      · next h => exact h
      · cases hd
    refine if_neg fun ⟨hless, hpersistence⟩ => hbad ⟨hwarning.1, ?_, (persistence_iff p).1 hpersistence, hauto, hdwell⟩
    rw [← hwarning.2, ← htrip]
    exact hless
  · rfl

end

theorem changesLevels_iff (old new : IsolationSettings) : changesLevels old new = true ↔
    ¬ (old.warning = new.warning ∧ old.trip = new.trip ∧ old.persistence = new.persistence) := by
  simp only [changesLevels, Bool.or_eq_true, bne_iff_ne, not_and_or, or_assoc]

theorem applyIsolation_eq (new : IsolationSettings) (m : IsolationMonitor) : applyIsolation new m =
    if m.settings.warning = new.warning ∧ m.settings.trip = new.trip ∧ m.settings.persistence = new.persistence then
      { m with settings := new }
    else { m with settings := new, warnPos := ⟨0, 0⟩, tripPos := ⟨0, 0⟩, warnNeg := ⟨0, 0⟩, tripNeg := ⟨0, 0⟩ } := by
  rw [applyIsolation]
  split
  · next h => rw [if_neg ((changesLevels_iff _ _).1 h)]; rfl
  · next h => rw [if_pos (not_not.1 fun hnot => h ((changesLevels_iff _ _).2 hnot))]

/-! ### LOOK_FAULT and RETIRE_FAULT (R154, R156) -/

theorem requestLookFault_bad (p : Port) {b : Byte} (hbad : 12 ≤ b.toNat) (s : State) :
    requestLookFault p b s = refuse s .badValue := by
  rw [requestLookFault, key?_bad hbad]

theorem requestLookFault_good (p : Port) (k : Fin 12) (s : State) : requestLookFault p (index k.val) s =
    accept (s.setFault k ((s.fault k).seen p)) (faultBytes k ((s.fault k).seen p)) := by
  rw [requestLookFault, key?_good]

theorem permitted_lookFault (p : Port) (b : Byte) : permitted p (.lookFault b) = true := by cases p <;> rfl

theorem isDwellTarget_iff (k : Fin 12) (s : State) : isDwellTarget k s = true ↔ s.localizer.state = .dwell ∧
    ((k = 0 ∧ s.localizer.target = some .pos) ∨ (k = 1 ∧ s.localizer.target = some .neg)) := by
  rw [isDwellTarget, Bool.and_eq_true, beq_iff_eq]
  refine and_congr_right fun _ => ?_
  cases s.localizer.target with
  | none => simp
  | some r =>
    cases r with
    | pos => exact beq_iff_eq.trans ⟨fun h => .inl ⟨h.symm, rfl⟩, fun h => h.elim (fun hpos => hpos.1.symm) fun hneg => nomatch hneg.2⟩
    | neg => exact beq_iff_eq.trans ⟨fun h => .inr ⟨h.symm, rfl⟩, fun h => h.elim (fun hpos => nomatch hpos.2) fun hneg => hneg.1.symm⟩

/-- A RETIRE_FAULT of a key in range, by the record and the dwell. -/
theorem requestRetireFault_good (k : Fin 12) (s : State) : requestRetireFault (index k.val) s =
    if (s.fault k).state ≠ .cleared then refuse s .wrongState
    else if (s.fault k).seenCp ≠ some (s.fault k).revision then refuse s .stale
    else if isDwellTarget k s = true then refuse s .busy
    else accept (retireFault k s) (byte k.val ++ byte ((retireFault k s).fault k).revision) := by
  simp only [requestRetireFault, key?_good, retireRefusal]
  by_cases hcleared : (s.fault k).state ≠ .cleared
  · simp only [if_pos hcleared]
  by_cases hseen : (s.fault k).seenCp ≠ some (s.fault k).revision
  · simp only [if_neg hcleared, if_pos hseen]
  by_cases hdwell : isDwellTarget k s = true
  · simp only [if_neg hcleared, if_neg hseen, if_pos hdwell]
  · simp only [if_neg hcleared, if_neg hseen, if_neg hdwell]

theorem isTripKey_iff (k : Fin 12) : isTripKey k = true ↔ k = 2 ∨ k = 3 := by
  rw [isTripKey, Bool.or_eq_true, beq_iff_eq, beq_iff_eq]
  rfl

/-- The planner told of a retirement is released at most. -/
theorem retireFault_cases (k : Fin 12) (s : State) :
    let told := handIsolation (isolationCondition s) (s.setFault k (s.fault k).retired)
    (isTripKey k = true ∧ retireFault k s = releasePlanner told) ∨ (isTripKey k = false ∧ retireFault k s = told) := by
  intro told
  cases h : isTripKey k with
  | true => exact .inl ⟨rfl, if_pos h⟩
  | false => exact .inr ⟨rfl, if_neg (by rw [h]; exact Bool.false_ne_true)⟩

theorem retireFault_isolation (k : Fin 12) (s : State) :
    (retireFault k s).isolation = (s.setFault k (s.fault k).retired).isolation := by
  unfold retireFault
  dsimp only
  split <;> simp

theorem retireFault_sessions (k : Fin 12) (s : State) : (retireFault k s).sessions =
    (handIsolation (isolationCondition s) (s.setFault k (s.fault k).retired)).sessions := by
  unfold retireFault
  dsimp only
  split <;> simp

theorem retireFault_blocks (k : Fin 12) (s : State) : (retireFault k s).heating = s.heating ∧
    (retireFault k s).localizer = s.localizer := by
  unfold retireFault
  dsimp only
  split <;> simp

theorem isolationCondition_of_isolation {s t : State} (h : t.isolation = s.isolation) :
    isolationCondition t = isolationCondition s :=
  isolationCondition_congr (fun r => by rw [fault_of_isolation h]) fun r => by rw [fault_of_isolation h]

theorem handIsolation_plannerState (before : Bool) (s : State) :
    (handIsolation before s).planner.state = s.planner.state := (handIsolation_acts before s).plantKept.withdraws.keeps.1

/-- The planner HALTED is released at a retirement of a trip record, and at no other. -/
theorem retireFault_planner {k : Fin 12} {s : State} (hhalted : s.planner.state = .halted) :
    (k = 2 ∨ k = 3 → tripHeld (retireFault k s) = false → s.meter.state.isGood = true →
      (retireFault k s).planner.state = .idle) ∧
    (tripHeld (retireFault k s) = true → (retireFault k s).planner.state = .halted) := by
  rw [tripHeld_of_isolation (retireFault_isolation k s)]
  generalize hretired : s.setFault k (s.fault k).retired = u
  have hu : u.planner.state = .halted := by rw [← hretired]; exact hhalted
  have hmeter : u.meter = s.meter := by rw [← hretired]; rfl
  have htold : (handIsolation (isolationCondition s) u).planner.state = .halted :=
    (handIsolation_plannerState _ u).trans hu
  have htrip : tripHeld (handIsolation (isolationCondition s) u) = tripHeld u := tripHeld_of_isolation (by simp)
  have hcases := retireFault_cases k s
  rw [hretired] at hcases
  refine ⟨fun hk hfree hgood => ?_, fun hheld => ?_⟩
  · rcases hcases with ⟨-, heq⟩ | ⟨hnot, -⟩
    · rw [heq, releasePlanner, if_pos ⟨htold, htrip.trans hfree, by simpa [hmeter] using hgood⟩]
      rfl
    · exact absurd ((isTripKey_iff k).2 hk) (by rw [hnot]; exact Bool.false_ne_true)
  · rcases hcases with ⟨-, heq⟩ | ⟨-, heq⟩
    · rw [heq, releasePlanner, if_neg fun h => Bool.false_ne_true (h.2.1.symm.trans (htrip.trans hheld))]
      exact htold
    · rw [heq]; exact htold

/-- Settles O45: each request by its fields, the record's state and what the retirement hands on. -/
theorem faultRequests : Obligations.FaultRequests := by
  refine ⟨fun s w t p a d hready => ?_, fun p s key hready hbad => ⟨executes_refuse hready (permitted_lookFault p key)
      (requestLookFault_bad p hbad s), ?_⟩, fun p s k hready => ?_, fun s k hready => ?_⟩
  · intro good new old kept
    refine ⟨fun hbad => executes_refuse hready rfl ?_, fun ⟨hw, ht, hp, ha, hlow, hhigh⟩ => executes_accept hready rfl ?_⟩
    · rw [serve, requestSetIsolation, isolationSettings?_bad hbad]
    · rw [serve, requestSetIsolation, isolationSettings?_good hw ht hp ha hlow hhigh]
      dsimp only
      rw [byte_bit_onOff ha, applyIsolation_eq]
      rfl
  · rintro rfl
    refine executes_refuse hready rfl ?_
    rw [serve, requestRetireFault, key?_bad hbad]
  · refine executes_accept hready (permitted_lookFault p _) ((requestLookFault_good p k s).trans ?_)
    cases p <;> rfl
  · intro f q target
    have hserve : serve .cp s q = _ := requestRetireFault_good k s
    split
    · next h => exact executes_refuse hready rfl (hserve.trans (if_pos h))
    next hcleared =>
    rw [if_neg hcleared] at hserve
    split
    · next h => exact executes_refuse hready rfl (hserve.trans (if_pos h))
    next hseen =>
    rw [if_neg hseen] at hserve
    split
    · next h => exact executes_refuse hready rfl (hserve.trans (if_pos ((isDwellTarget_iff k s).2 h)))
    next hfree =>
    rw [if_neg fun h => hfree ((isDwellTarget_iff k s).1 h)] at hserve
    have hisolation := retireFault_isolation k s
    have hfault : (retireFault k s).fault k = f.retired := (fault_of_isolation hisolation k).trans (State.setFault_same s k _)
    have hcondition := isolationCondition_of_isolation hisolation
    have hsessions := retireFault_sessions k s
    refine ⟨retireFault k s, executes_accept hready rfl ?_, hisolation, by simp, by simp, by simp, by simp,
      (retireFault_blocks k s).1, (retireFault_blocks k s).2,
      fun hsame => ?_, fun hbefore hafter i hlive => ?_, fun hhalted hk htrip hgood =>
        (retireFault_planner hhalted).1 hk htrip ((isGood_iff _).2 hgood), fun hhalted => (retireFault_planner hhalted).2⟩
    · rw [hserve, hfault]; rfl
    · rw [hsessions, handIsolation_unchanged (hcondition.symm.trans hsame.symm)]
      rfl
    · have hlive' : liveSlot (s.setFault k (s.fault k).retired) = some i := hlive
      rw [session_eq_of_sessions hsessions i, handIsolation_changed hlive' (by rw [← hcondition, hbefore, hafter]; nofun),
        ← hcondition, hafter]
      rfl

end Sys2Proof.Machine
end

section
/-! The rail comparators (R144 to R151, R166): counts, the record that follows, its confirmation and its hand-offs. -/

namespace Sys2Proof.Machine

/-! ### What the records' work leaves of the monitor -/

/-- Of the Isolation Monitor only records and votes may differ. -/
def OnlyRecords (s t : State) : Prop :=
  ∃ faults votes, t.isolation = { s.isolation with faults := faults, votes := votes }

theorem OnlyRecords.of_eq {s t : State} (h : t.isolation = s.isolation) : OnlyRecords s t := ⟨_, _, h⟩

theorem OnlyRecords.trans {s t u : State} : OnlyRecords s t → OnlyRecords t u → OnlyRecords s u
  | ⟨_, _, h⟩, ⟨_, _, h'⟩ => ⟨_, _, by rw [h', h]⟩

theorem OnlyRecords.comparator_eq {s t : State} (h : OnlyRecords s t) (kind : CompareKind) (rail : Rail) :
    t.isolation.comparator kind rail = s.isolation.comparator kind rail := by
  obtain ⟨faults, votes, heq⟩ := h
  rw [heq]
  cases kind <;> cases rail <;> rfl

theorem OnlyRecords.settings_eq {s t : State} (h : OnlyRecords s t) : t.isolation.settings = s.isolation.settings := by
  obtain ⟨faults, votes, heq⟩ := h
  rw [heq]

theorem OnlyRecords.post {s t : State} (h : OnlyRecords s t) (c : Cause) : OnlyRecords s (post c t) :=
  h.trans (.of_eq (by simp))

theorem onlyRecords_setFault (s : State) (k : Fin 12) (f : FaultRecord) : OnlyRecords s (s.setFault k f) := ⟨_, _, rfl⟩

theorem onlyRecords_confirmFault (k : Fin 12) (reading : Option Nat) (s : State) :
    OnlyRecords s (confirmFault k reading s) := by
  unfold confirmFault
  split
  · exact .of_eq rfl
  · exact (onlyRecords_setFault s k _).post _

theorem onlyRecords_clearFault (k : Fin 12) (s : State) : OnlyRecords s (clearFault k s) := by
  unfold clearFault
  split
  · exact (onlyRecords_setFault s k _).post _
  · exact .of_eq rfl

theorem onlyRecords_verdictEffect (v : Verdict) (s : State) : OnlyRecords s (verdictEffect v s) := by
  cases v with
  | zone z =>
    cases h : (s.zone z).excluded with
    | true => rw [verdictEffect_zone_excluded h]; exact .of_eq rfl
    | false => rw [verdictEffect_zone_free h]; exact ⟨_, _, rfl⟩
  | charger | packSide => exact .of_eq rfl
  | unresolved => exact .of_eq (by simp [verdictEffect])

theorem onlyRecords_writeVerdict (rail : Rail) (v : Verdict) (s : State) : OnlyRecords s (writeVerdict rail v s) :=
  ⟨_, _, by rw [writeVerdict, (handIsolation_frame _ _).2.2.2.2.2.1]; rfl⟩

theorem onlyRecords_deliverVerdict (v : Verdict) (s : State) : OnlyRecords s (deliverVerdict v s) := by
  have hended (u : State) (hu : OnlyRecords s u) : OnlyRecords s (post .localizeDone
      ((verdictEffect v u).setLocalizer ((verdictEffect v u).localizer.ended v))) :=
    ((hu.trans (onlyRecords_verdictEffect v u)).trans (.of_eq rfl)).post .localizeDone
  refine hended _ ?_
  split
  · exact onlyRecords_writeVerdict _ v s
  · exact .of_eq rfl

theorem onlyRecords_nextStep (s : State) : OnlyRecords s (nextStep s) := by
  rcases takeSuspect_cases s.localizer.stack.reverse s with ⟨-, heq⟩ | ⟨-, x, below, -, -, -, heq⟩
  · rw [nextStep, heq]
    exact .trans (t := s.setLocalizer { s.localizer with stack := [] }) (.of_eq rfl) (onlyRecords_deliverVerdict _ _)
  · rw [nextStep, heq]
    exact .of_eq (by simp)

/-! ### A localization that starts (R160, R165) -/

/-- The record of the target's rail, and the others, once a localization has started. -/
theorem startLocalization_fault (rail : Rail) (s : State) (k : Fin 12) : (startLocalization rail s).fault k =
    if k = warnKey rail ∧ ¬ ∃ x ∈ suspectStack s, energizable s x = true then
      (s.fault k).withVerdict .packSide
    else s.fault k := by
  generalize hu : s.setLocalizer { s.localizer with target := some rail, stack := suspectStack s } = u
  have hfault (j : Fin 12) : u.fault j = s.fault j := by rw [← hu]; rfl
  have hstart : startLocalization rail s = nextStep u := by rw [← hu]; rfl
  have hstack : u.localizer.stack = suspectStack s := by rw [← hu]; rfl
  have htarget : u.localizer.target = some rail := by rw [← hu]; rfl
  have henergizable (x : Suspect) : energizable u x = energizable s x := by rw [← hu]; rfl
  rw [hstart]
  rcases takeSuspect_cases u.localizer.stack.reverse u with ⟨hnone, heq⟩ | ⟨above, x, below, hsplit, hx, -, heq⟩
  · have hall : ¬ ∃ x ∈ suspectStack s, energizable s x = true := fun ⟨x, hmem, hx⟩ => by
      rw [← henergizable, hnone x (List.mem_reverse.2 (hstack ▸ hmem))] at hx
      cases hx
    have hends := endsLocalization_deliverVerdict (s := u.setLocalizer { u.localizer with stack := [] }) htarget .packSide
    obtain ⟨-, hrecord, hothers, -⟩ := hends
    rw [nextStep, heq]
    split
    · next hk => rw [hk.1, hrecord, ← hfault]; rfl
    · next hk => rw [hothers k fun h => hk ⟨h, hall⟩]; exact hfault k
  · have hmem : x ∈ suspectStack s := by
      rw [← hstack, ← List.mem_reverse, hsplit]; simp
    have hsome : ∃ x ∈ suspectStack s, energizable s x = true := ⟨x, hmem, by rw [← henergizable]; exact hx⟩
    rw [nextStep, heq, if_neg fun h => h.2 hsome, fault_of_isolation (s := u) (by simp), hfault]

theorem keepsPending_startLocalization (rail : Rail) (s : State) : KeepsPending s (startLocalization rail s) :=
  .trans (t := s.setLocalizer { s.localizer with target := some rail, stack := suspectStack s }) (.of_attention rfl)
    (keepsPending_takeSuspect _ _)

/-! ### Confirming and clearing (R147, R148) -/

theorem confirmFault_active {k : Fin 12} {reading : Option Nat} {s : State} (h : (s.fault k).state = .active) :
    confirmFault k reading s = s := if_pos h

theorem confirmFault_raised {k : Fin 12} {reading : Option Nat} {s : State} (h : (s.fault k).state ≠ .active) :
    confirmFault k reading s = post .faultActive (s.setFault k ((s.fault k).confirmed s.tariff.calendar reading)) := if_neg h

theorem FaultRecord.confirmed_free {f : FaultRecord} (h : f.state = .free) (minute reading : Option Nat) :
    f.confirmed minute reading = { f with
      state := .active, occurrences := 1, revision := (f.revision + 1) % 256, firstMinute := minute
      firstReading := reading, worstReading := reading } := by
  rw [FaultRecord.confirmed, h]
  rfl

theorem FaultRecord.confirmed_cleared {f : FaultRecord} (h : f.state = .cleared) (minute reading : Option Nat) :
    f.confirmed minute reading = { f with
      state := .active, occurrences := min (f.occurrences + 1) 255, revision := (f.revision + 1) % 256 } := by
  rw [FaultRecord.confirmed, h]
  rfl

theorem confirmFault_fault {k : Fin 12} {reading : Option Nat} {s : State} (h : (s.fault k).state ≠ .active) (j : Fin 12) :
    (confirmFault k reading s).fault j =
      if k = j then (s.fault k).confirmed s.tariff.calendar reading else s.fault j := by
  rw [confirmFault_raised h]
  exact (fault_of_isolation (by simp) j).trans (State.setFault_at s k j _)

theorem confirmFault_posts {k : Fin 12} {reading : Option Nat} {s : State} (h : (s.fault k).state ≠ .active) (p : Port) :
    ((confirmFault k reading s).attention.pendingOf p).getLsbD 6 = true := by
  rw [confirmFault_raised h]
  exact post_pending p .faultActive _

/-! ### A comparator has counted (R144, R147) -/

theorem Comparator.count_eq (persistence level reading : Nat) (c : Comparator) : c.count persistence level reading =
    if reading < level then ⟨min (c.below + 1) persistence, 0⟩
    else if 4 * reading < 5 * level then ⟨0, 0⟩
    else ⟨0, min (c.above + 1) persistence⟩ := by
  unfold Comparator.count
  refine ite_congr rfl (fun _ => rfl) fun _ => ?_
  split
  · next h => rw [if_neg (not_lt.2 ((clearsLevel_iff _ _).1 h))]
  · next h => rw [if_pos (not_le.1 fun hle => h ((clearsLevel_iff _ _).2 hle))]

theorem FaultRecord.followed_eq (reading : Nat) (f : FaultRecord) : f.followed reading =
    if f.state = .free then f else { f with worstReading := f.worstReading.map (min reading) } := by
  unfold FaultRecord.followed
  split
  · next h => rw [if_neg (f.nonFree_iff.1 h)]
  · next h => rw [if_pos (not_not.1 fun hne => h (f.nonFree_iff.2 hne))]

/-- The counts of a comparator after a reading. -/
def countsAfter (kind : CompareKind) (rail : Rail) (reading : Nat) (s : State) : Comparator :=
  (s.isolation.comparator kind rail).count s.isolation.settings.persistence (s.isolation.settings.level kind) reading

/-- A comparator has counted, and its record has followed the rail. -/
def compared (kind : CompareKind) (rail : Rail) (reading : Nat) (s : State) : State :=
  (s.setIsolation (s.isolation.setComparator kind rail (countsAfter kind rail reading s))).setFault (feedKey kind rail)
    ((s.fault (feedKey kind rail)).followed reading)

section
variable (kind : CompareKind) (rail : Rail) (reading : Nat) (s : State)

theorem compared_comparator :
    (compared kind rail reading s).isolation.comparator kind rail = countsAfter kind rail reading s := by
  cases kind <;> cases rail <;> rfl

theorem compared_settings : (compared kind rail reading s).isolation.settings = s.isolation.settings := by
  cases kind <;> cases rail <;> rfl

theorem compared_fault (j : Fin 12) : (compared kind rail reading s).fault j =
    if feedKey kind rail = j then (s.fault (feedKey kind rail)).followed reading else s.fault j := by
  refine (State.setFault_at _ _ _ _).trans ?_
  cases kind <;> cases rail <;> rfl

theorem compared_same :
    (compared kind rail reading s).fault (feedKey kind rail) = (s.fault (feedKey kind rail)).followed reading :=
  State.setFault_same _ _ _

theorem compared_condition : isolationCondition (compared kind rail reading s) = isolationCondition s := by
  have hrecord (f : FaultRecord) : (f.followed reading).nonFree = f.nonFree ∧
      chargerAtFault (f.followed reading) = chargerAtFault f := by
    rw [FaultRecord.followed_eq]
    split <;> exact ⟨rfl, rfl⟩
  refine isolationCondition_congr (fun r => ?_) fun r => ?_
  · rw [compared_fault]
    split
    · next hkey => rw [(hrecord _).1, hkey]
    · rfl
  · rw [compared_fault]
    split
    · next hkey => rw [(hrecord _).2, hkey]
    · rfl

/-- A comparator's work by its record and its counts. -/
theorem comparatorWork_compared : comparatorWork kind rail reading s =
    if (s.fault (feedKey kind rail)).state = .active then
      if s.isolation.settings.persistence ≤ (countsAfter kind rail reading s).above then
        clearFault (feedKey kind rail) (compared kind rail reading s)
      else compared kind rail reading s
    else if s.isolation.settings.persistence ≤ (countsAfter kind rail reading s).below then
      confirmedHandOff kind rail (isolationCondition s)
        (confirmFault (feedKey kind rail) (some reading) (compared kind rail reading s))
    else compared kind rail reading s := by
  have hwork : comparatorWork kind rail reading s = actOnRecord kind rail reading (compared kind rail reading s) := by
    cases kind <;> cases rail <;> rfl
  rw [hwork, actOnRecord]
  simp only [compared_comparator, compared_settings, compared_same, compared_condition, FaultRecord.followed_state]

end

end Sys2Proof.Machine
end

section
/-! The hand-offs of a confirmed record (R150, R151, R166), and the statement about the comparators. -/

namespace Sys2Proof.Machine

/-! ### Blocks that are the same -/

theorem liveSlot_of_sessions {s t : State} (h : t.sessions = s.sessions) : liveSlot t = liveSlot s := by
  simp only [liveSlot, State.session, h]

theorem energizable_congr {s t : State} (hsessions : t.sessions = s.sessions) (hheating : t.heating = s.heating)
    (x : Suspect) : energizable t x = energizable s x := by
  cases x with
  | charger => simp only [energizable, liveSlot_of_sessions hsessions, session_eq_of_sessions hsessions]
  | zone z => simp only [energizable, zone_of_heating hheating]

theorem suspectStack_congr {s t : State} (hplanner : t.planner = s.planner) (hheating : t.heating = s.heating) :
    suspectStack t = suspectStack s := by
  simp only [suspectStack, hplanner, zone_of_heating hheating]

/-! ### A confirmed warning (R151) -/

theorem warningConfirmed_starts {rail : Rail} {s : State}
    (h : s.isolation.settings.autoLocalize = true ∧ s.localizer.state = .idle) :
    warningConfirmed rail s = startLocalization rail s := if_pos h

theorem warningConfirmed_stands {rail : Rail} {s : State}
    (h : ¬ (s.isolation.settings.autoLocalize = true ∧ s.localizer.state = .idle)) : warningConfirmed rail s = s := if_neg h

/-! ### A confirmed trip (R124, R150, R166) -/

theorem abortDwell_cases (s : State) : (s.localizer.state = .idle ∧ abortDwell s = s) ∨
    (s.localizer.state = .dwell ∧ abortDwell s = deliverVerdict .unresolved s) := by
  cases h : s.localizer.state with
  | idle => exact .inl ⟨rfl, abortDwell_idle s h⟩
  | dwell => exact .inr ⟨rfl, abortDwell_dwell s h⟩

/-- A verdict is written to a warning record at most. -/
theorem deliverVerdict_fault_other {v : Verdict} {s : State} {k : Fin 12} (hk : ∀ r, k ≠ warnKey r) :
    (deliverVerdict v s).fault k = s.fault k := by
  cases htarget : s.localizer.target with
  | some rail => exact (endsLocalization_deliverVerdict htarget v).2.2.1 k (hk rail)
  | none =>
    have hdelivered : deliverVerdict v s = post .localizeDone
        ((verdictEffect v s).setLocalizer ((verdictEffect v s).localizer.ended v)) := by
      simp only [deliverVerdict, htarget]
    rw [hdelivered, ← verdictEffect_fault v s k]
    exact fault_of_isolation (by simp) k

theorem keepsPending_changeReasonsQuietly (i : Fin 8) (f : PauseReasons → PauseReasons) (s : State) :
    KeepsPending s (changeReasonsQuietly i f s) := by
  unfold changeReasonsQuietly
  dsimp only
  split
  · exact .of_attention rfl
  · refine .trans ?_ (.of_attention (plannerSessionChanged_frame _ _).2.2.2.2.2.2.2.2.1)
    split
    · exact .trans (t := s.setSession i _) (.of_attention rfl) (keepsPending_post _ _)
    · exact .of_attention rfl

theorem keepsPending_handIsolation (before : Bool) (s : State) : KeepsPending s (handIsolation before s) := by
  unfold handIsolation changeLiveQuietly
  split
  · exact .of_attention rfl
  · split
    · exact .of_attention rfl
    · exact keepsPending_changeReasonsQuietly _ _ s

section
variable (before : Bool) (s : State)

theorem onlyRecords_tripConfirmed : OnlyRecords s (tripConfirmed before s) := by
  have hhanded : OnlyRecords s (handIsolation before (haltPlanner s)) := .of_eq (by simp)
  rw [tripConfirmed]
  rcases abortDwell_cases (handIsolation before (haltPlanner s)) with ⟨-, heq⟩ | ⟨-, heq⟩
  · rw [heq]; exact hhanded
  · rw [heq]; exact hhanded.trans (onlyRecords_deliverVerdict _ _)

theorem keepsPending_tripConfirmed : KeepsPending s (tripConfirmed before s) := by
  have hhanded : KeepsPending s (handIsolation before (haltPlanner s)) :=
    .trans (t := haltPlanner s) (.of_attention (by simp)) (keepsPending_handIsolation before _)
  rw [tripConfirmed]
  rcases abortDwell_cases (handIsolation before (haltPlanner s)) with ⟨-, heq⟩ | ⟨-, heq⟩
  · rw [heq]; exact hhanded
  · rw [heq]; exact hhanded.trans (keepsPending_deliverVerdict Verdict.noConfusion _)

theorem tripConfirmed_fault {k : Fin 12} (hk : ∀ r, k ≠ warnKey r) : (tripConfirmed before s).fault k = s.fault k := by
  have hhanded : (handIsolation before (haltPlanner s)).fault k = s.fault k := fault_of_isolation (by simp) k
  rw [tripConfirmed]
  rcases abortDwell_cases (handIsolation before (haltPlanner s)) with ⟨-, heq⟩ | ⟨-, heq⟩
  · rw [heq, hhanded]
  · rw [heq, deliverVerdict_fault_other hk, hhanded]

theorem tripConfirmed_planner :
    (tripConfirmed before s).planner = (handIsolation before (haltPlanner s)).planner := by
  rw [tripConfirmed]
  rcases abortDwell_cases (handIsolation before (haltPlanner s)) with ⟨-, heq⟩ | ⟨-, heq⟩
  · rw [heq]
  · rw [heq, (deliverVerdict_unresolved _).1]

theorem tripConfirmed_sessions :
    (tripConfirmed before s).sessions = (handIsolation before (haltPlanner s)).sessions := by
  rw [tripConfirmed]
  rcases abortDwell_cases (handIsolation before (haltPlanner s)) with ⟨-, heq⟩ | ⟨-, heq⟩
  · rw [heq]
  · rw [heq, deliverVerdict_sessions Verdict.noConfusion]

theorem tripConfirmed_idle : (tripConfirmed before s).localizer.state = .idle := by
  rw [tripConfirmed]
  rcases abortDwell_cases (handIsolation before (haltPlanner s)) with ⟨hidle, heq⟩ | ⟨-, heq⟩
  · rw [heq, hidle]
  · rw [heq, (deliverVerdict_record _ _).1]

theorem tripConfirmed_halted : (tripConfirmed before s).planner.state = .halted := by
  rw [tripConfirmed_planner, handIsolation_plannerState, haltPlanner_state]

/-- A trip that stops the planner leaves every output off. -/
theorem tripConfirmed_outputs (h : s.planner.state ≠ .halted) : OutputsOff (tripConfirmed before s) := by
  have hsafe := haltPlanner_plannerSafe fun hhalted => absurd hhalted h
  have hoff : OutputsOff (haltPlanner s) := hsafe.2 (by rw [haltPlanner_state]; exact PlannerState.noConfusion)
  obtain ⟨hlines, hcommand, hrequest⟩ := outputsOff_congr (handIsolation_acts before (haltPlanner s)).plantKept hoff
  refine ⟨fun z => by rw [tripConfirmed_planner]; exact hlines z, by rw [tripConfirmed_planner]; exact hcommand, ?_⟩
  have hsupply : (tripConfirmed before s).supply = (handIsolation before (haltPlanner s)).supply := by
    rw [tripConfirmed]; simp
  rw [hsupply]
  exact hrequest

/-- A trip that brings the isolation condition gives the live session ISOLATION. -/
theorem tripConfirmed_isolation (htrip : tripHeld s = true) {i : Fin 8} (hlive : liveSlot s = some i) :
    ((tripConfirmed false s).session i).reasons.isolation = true := by
  have hheld : isolationCondition (haltPlanner s) = true := by
    rw [isolationCondition, tripHeld_of_isolation (s := s) (by simp), htrip, Bool.true_or, Bool.true_or]
  rw [session_eq_of_sessions (tripConfirmed_sessions false s) i,
    handIsolation_changed ((liveSlot_of_sessions (by simp)).trans hlive) (by rw [hheld]; nofun), hheld]

end

/-! ### The hand-offs of a confirmation -/

theorem feedKey_trip_ne (rail : Rail) (r : Rail) : feedKey .trip rail ≠ warnKey r := by
  cases rail <;> cases r <;> decide

section
variable (kind : CompareKind) (rail : Rail) (before : Bool) (s : State)

theorem onlyRecords_startLocalization : OnlyRecords s (startLocalization rail s) :=
  .trans (t := s.setLocalizer { s.localizer with target := some rail, stack := suspectStack s }) (.of_eq rfl)
    (onlyRecords_nextStep _)

theorem onlyRecords_confirmedHandOff : OnlyRecords s (confirmedHandOff kind rail before s) := by
  cases kind with
  | trip => exact onlyRecords_tripConfirmed before s
  | warning =>
    show OnlyRecords s (warningConfirmed rail s)
    unfold warningConfirmed
    split
    · exact onlyRecords_startLocalization rail s
    · exact .of_eq rfl

theorem keepsPending_confirmedHandOff : KeepsPending s (confirmedHandOff kind rail before s) := by
  cases kind with
  | trip => exact keepsPending_tripConfirmed before s
  | warning =>
    show KeepsPending s (warningConfirmed rail s)
    unfold warningConfirmed
    split
    · exact keepsPending_startLocalization rail s
    · exact .of_attention rfl

/-- The confirmed record stays, but for a verdict of PACK_SIDE on a warning. -/
theorem confirmedHandOff_fault : ∃ revision verdict, (confirmedHandOff kind rail before s).fault (feedKey kind rail) =
      { s.fault (feedKey kind rail) with revision := revision, verdict := verdict } ∧
    (kind = .trip → (confirmedHandOff kind rail before s).fault (feedKey kind rail) = s.fault (feedKey kind rail)) := by
  cases kind with
  | trip =>
    have hfault := tripConfirmed_fault before s (feedKey_trip_ne rail)
    exact ⟨_, _, hfault, fun _ => hfault⟩
  | warning =>
    by_cases hstarts : s.isolation.settings.autoLocalize = true ∧ s.localizer.state = .idle
    · have hfault := startLocalization_fault rail s (warnKey rail)
      rw [show confirmedHandOff .warning rail before s = startLocalization rail s from warningConfirmed_starts hstarts]
      rw [show feedKey .warning rail = warnKey rail from rfl, hfault]
      split
      · exact ⟨_, _, rfl, nofun⟩
      · exact ⟨_, _, rfl, nofun⟩
    · rw [show confirmedHandOff .warning rail before s = s from warningConfirmed_stands hstarts]
      exact ⟨_, _, rfl, nofun⟩

end

/-! ### A comparator's work by cases -/

section
variable {kind : CompareKind} {rail : Rail} {reading : Nat} {s : State}

/-- The state in which a comparator's record has been confirmed. -/
def confirmedAfter (kind : CompareKind) (rail : Rail) (reading : Nat) (s : State) : State :=
  confirmFault (feedKey kind rail) (some reading) (compared kind rail reading s)

theorem comparatorWork_confirms (hstate : (s.fault (feedKey kind rail)).state ≠ .active)
    (hbelow : s.isolation.settings.persistence ≤ (countsAfter kind rail reading s).below) :
    comparatorWork kind rail reading s =
      confirmedHandOff kind rail (isolationCondition s) (confirmedAfter kind rail reading s) := by
  rw [comparatorWork_compared, if_neg hstate, if_pos hbelow, confirmedAfter]

theorem comparatorWork_waits (hstate : (s.fault (feedKey kind rail)).state ≠ .active)
    (hbelow : (countsAfter kind rail reading s).below < s.isolation.settings.persistence) :
    comparatorWork kind rail reading s = compared kind rail reading s := by
  rw [comparatorWork_compared, if_neg hstate, if_neg hbelow.not_ge]

theorem comparatorWork_clears (hstate : (s.fault (feedKey kind rail)).state = .active)
    (habove : s.isolation.settings.persistence ≤ (countsAfter kind rail reading s).above) :
    comparatorWork kind rail reading s = clearFault (feedKey kind rail) (compared kind rail reading s) := by
  rw [comparatorWork_compared, if_pos hstate, if_pos habove]

theorem comparatorWork_stays (hstate : (s.fault (feedKey kind rail)).state = .active)
    (habove : (countsAfter kind rail reading s).above < s.isolation.settings.persistence) :
    comparatorWork kind rail reading s = compared kind rail reading s := by
  rw [comparatorWork_compared, if_pos hstate, if_neg habove.not_ge]

theorem onlyRecords_comparatorWork (kind : CompareKind) (rail : Rail) (reading : Nat) (s : State) :
    OnlyRecords (compared kind rail reading s) (comparatorWork kind rail reading s) := by
  rw [comparatorWork_compared]
  split
  · split
    · exact onlyRecords_clearFault _ _
    · exact .of_eq rfl
  · split
    · exact (onlyRecords_confirmFault _ _ _).trans (onlyRecords_confirmedHandOff kind rail _ _)
    · exact .of_eq rfl

theorem compared_state : ((compared kind rail reading s).fault (feedKey kind rail)).state =
    (s.fault (feedKey kind rail)).state := by
  rw [compared_same, FaultRecord.followed_state]

/-- The record as the confirmation leaves it. -/
theorem confirmedAfter_fault (hstate : (s.fault (feedKey kind rail)).state ≠ .active) :
    (confirmedAfter kind rail reading s).fault (feedKey kind rail) =
      ((s.fault (feedKey kind rail)).followed reading).confirmed s.tariff.calendar (some reading) := by
  rw [confirmedAfter, confirmFault_fault (by rw [compared_state]; exact hstate), if_pos rfl, compared_same]
  rfl

theorem confirmedAfter_fault_other (hstate : (s.fault (feedKey kind rail)).state ≠ .active) {j : Fin 12}
    (hj : j ≠ feedKey kind rail) : (confirmedAfter kind rail reading s).fault j = s.fault j := by
  rw [confirmedAfter, confirmFault_fault (by rw [compared_state]; exact hstate), if_neg hj.symm, compared_fault,
    if_neg hj.symm]

theorem confirmedAfter_blocks : (confirmedAfter kind rail reading s).sessions = s.sessions ∧
    (confirmedAfter kind rail reading s).planner = s.planner ∧ (confirmedAfter kind rail reading s).heating = s.heating ∧
    (confirmedAfter kind rail reading s).localizer = s.localizer ∧
    (confirmedAfter kind rail reading s).isolation.settings = s.isolation.settings := by
  have hsettings := (onlyRecords_confirmFault (feedKey kind rail) (some reading) (compared kind rail reading s)).settings_eq
  refine ⟨by simp [confirmedAfter, compared], by simp [confirmedAfter, compared], by simp [confirmedAfter, compared],
    by simp [confirmedAfter, compared], hsettings.trans (compared_settings kind rail reading s)⟩

/-- A confirmation by a comparator posts FAULT_ACTIVE, and the hand-offs leave it pending. -/
theorem comparatorWork_posts (hstate : (s.fault (feedKey kind rail)).state ≠ .active)
    (hbelow : s.isolation.settings.persistence ≤ (countsAfter kind rail reading s).below) (p : Port) :
    ((comparatorWork kind rail reading s).attention.pendingOf p).getLsbD 6 = true := by
  rw [comparatorWork_confirms hstate hbelow]
  refine keepsPending_confirmedHandOff kind rail _ _ p 6 (confirmFault_posts ?_ p)
  rw [compared_state]
  exact hstate

theorem tripHeld_of_record {r : Rail} (h : (s.fault (tripKey r)).state ≠ .free) : tripHeld s = true := by
  have hnonFree := (FaultRecord.nonFree_iff _).2 h
  cases r with
  | pos => rw [tripHeld, hnonFree, Bool.true_or]
  | neg => rw [tripHeld, hnonFree, Bool.or_true]

end

end Sys2Proof.Machine
end

section
/-! The statement about the rail comparators (R144 to R151, R166). -/

namespace Sys2Proof.Machine

section
variable {kind : CompareKind} {rail : Rail} {reading : Nat} {s : State}

theorem FaultRecord.followed_free {f : FaultRecord} (h : f.state = .free) (reading : Nat) : f.followed reading = f := by
  rw [followed_eq, if_pos h]

theorem FaultRecord.followed_nonfree {f : FaultRecord} (h : f.state ≠ .free) (reading : Nat) : f.followed reading =
    { f with worstReading := f.worstReading.map (min reading) } := by
  rw [followed_eq, if_neg h]

/-- A FREE record that a comparator confirms. -/
theorem comparatorWork_free (hfree : (s.fault (feedKey kind rail)).state = .free)
    (hbelow : s.isolation.settings.persistence ≤ (countsAfter kind rail reading s).below) : ∃ revision verdict,
      (comparatorWork kind rail reading s).fault (feedKey kind rail) = { s.fault (feedKey kind rail) with
        state := .active, occurrences := 1, revision := revision, verdict := verdict, firstMinute := s.tariff.calendar
        firstReading := some reading, worstReading := some reading } ∧
      (kind = .trip → (comparatorWork kind rail reading s).fault (feedKey kind rail) = { s.fault (feedKey kind rail) with
        state := .active, occurrences := 1, revision := ((s.fault (feedKey kind rail)).revision + 1) % 256
        firstMinute := s.tariff.calendar, firstReading := some reading, worstReading := some reading }) := by
  have hstate : (s.fault (feedKey kind rail)).state ≠ .active := by rw [hfree]; exact FaultState.noConfusion
  obtain ⟨revision, verdict, hany, htrip⟩ := confirmedHandOff_fault kind rail (isolationCondition s)
    (confirmedAfter kind rail reading s)
  rw [← comparatorWork_confirms hstate hbelow, confirmedAfter_fault hstate, FaultRecord.followed_free hfree,
    FaultRecord.confirmed_free hfree] at hany htrip
  exact ⟨revision, verdict, hany, htrip⟩

/-- A CLEARED record that a comparator confirms again. -/
theorem comparatorWork_cleared (hcleared : (s.fault (feedKey kind rail)).state = .cleared)
    (hbelow : s.isolation.settings.persistence ≤ (countsAfter kind rail reading s).below) : ∃ revision verdict,
      (comparatorWork kind rail reading s).fault (feedKey kind rail) = { s.fault (feedKey kind rail) with
        state := .active, occurrences := min ((s.fault (feedKey kind rail)).occurrences + 1) 255, revision := revision
        verdict := verdict, worstReading := (s.fault (feedKey kind rail)).worstReading.map (min reading) } ∧
      (kind = .trip → (comparatorWork kind rail reading s).fault (feedKey kind rail) = { s.fault (feedKey kind rail) with
        state := .active, occurrences := min ((s.fault (feedKey kind rail)).occurrences + 1) 255
        revision := ((s.fault (feedKey kind rail)).revision + 1) % 256
        worstReading := (s.fault (feedKey kind rail)).worstReading.map (min reading) }) := by
  have hstate : (s.fault (feedKey kind rail)).state ≠ .active := by rw [hcleared]; exact FaultState.noConfusion
  have hfree : (s.fault (feedKey kind rail)).state ≠ .free := by rw [hcleared]; exact FaultState.noConfusion
  obtain ⟨revision, verdict, hany, htrip⟩ := confirmedHandOff_fault kind rail (isolationCondition s)
    (confirmedAfter kind rail reading s)
  rw [← comparatorWork_confirms hstate hbelow, confirmedAfter_fault hstate, FaultRecord.followed_nonfree hfree,
    FaultRecord.confirmed_cleared (by exact hcleared)] at hany htrip
  exact ⟨revision, verdict, hany, htrip⟩

theorem confirmed_revision {f : FaultRecord} (h : f.state ≠ .active) (minute reading : Option Nat) :
    (f.confirmed minute reading).revision = (f.revision + 1) % 256 := by
  unfold FaultRecord.confirmed
  split
  · rfl
  · rfl
  · next hactive => exact absurd hactive h

theorem confirmedAfter_revision (hstate : (s.fault (feedKey kind rail)).state ≠ .active) :
    ((confirmedAfter kind rail reading s).fault (feedKey kind rail)).revision =
      ((s.fault (feedKey kind rail)).revision + 1) % 256 := by
  rw [confirmedAfter_fault hstate, confirmed_revision (by rw [FaultRecord.followed_state]; exact hstate)]
  rw [FaultRecord.followed_eq]
  split <;> rfl

/-- A warning's confirmation starts a localization, or does nothing more. -/
theorem comparatorWork_warning (hstate : (s.fault (warnKey rail)).state ≠ .active)
    (hbelow : s.isolation.settings.persistence ≤ (countsAfter .warning rail reading s).below) :
    (¬ (s.isolation.settings.autoLocalize = true ∧ s.localizer.state = .idle) →
      comparatorWork .warning rail reading s = confirmedAfter .warning rail reading s) ∧
    (s.isolation.settings.autoLocalize = true ∧ s.localizer.state = .idle →
      comparatorWork .warning rail reading s = startLocalization rail (confirmedAfter .warning rail reading s)) := by
  obtain ⟨-, -, -, hlocalizer, hsettings⟩ := confirmedAfter_blocks (kind := .warning) (rail := rail) (reading := reading) (s := s)
  have hwork : comparatorWork .warning rail reading s = warningConfirmed rail (confirmedAfter .warning rail reading s) :=
    comparatorWork_confirms hstate hbelow
  rw [hwork]
  rw [← hsettings, ← hlocalizer]
  exact ⟨warningConfirmed_stands, warningConfirmed_starts⟩

/-- The stack of the localization that a confirmed warning starts is that of the state before. -/
theorem suspectStack_confirmedAfter : suspectStack (confirmedAfter kind rail reading s) = suspectStack s := by
  obtain ⟨-, hplanner, hheating, -, -⟩ := confirmedAfter_blocks (kind := kind) (rail := rail) (reading := reading) (s := s)
  exact suspectStack_congr hplanner hheating

theorem energizable_confirmedAfter (x : Suspect) :
    energizable (confirmedAfter kind rail reading s) x = energizable s x := by
  obtain ⟨hsessions, -, hheating, -, -⟩ := confirmedAfter_blocks (kind := kind) (rail := rail) (reading := reading) (s := s)
  exact energizable_congr hsessions hheating x

/-- The revision of a warning whose localization has started: a verdict of PACK_SIDE raises it once more. -/
theorem comparatorWork_warning_revision (hstate : (s.fault (warnKey rail)).state ≠ .active)
    (hbelow : s.isolation.settings.persistence ≤ (countsAfter .warning rail reading s).below)
    (hstarts : s.isolation.settings.autoLocalize = true ∧ s.localizer.state = .idle) :
    ((comparatorWork .warning rail reading s).fault (warnKey rail)).revision =
      if ∃ x ∈ suspectStack s, energizable s x = true then ((s.fault (warnKey rail)).revision + 1) % 256
      else ((s.fault (warnKey rail)).revision + 2) % 256 := by
  have hrevision := confirmedAfter_revision (kind := .warning) (reading := reading) hstate
  rw [(comparatorWork_warning hstate hbelow).2 hstarts, startLocalization_fault]
  simp only [suspectStack_confirmedAfter, energizable_confirmedAfter, true_and]
  split
  · refine (congrArg nextRevision hrevision).trans ?_
    simp only [nextRevision, feedKey]
    omega
  · next hsome => rw [if_pos (not_not.1 hsome)]; exact hrevision

/-- A trip halts, hands the condition over and aborts a dwell. -/
theorem comparatorWork_trip (hstate : (s.fault (tripKey rail)).state ≠ .active)
    (hbelow : s.isolation.settings.persistence ≤ (countsAfter .trip rail reading s).below) :
    comparatorWork .trip rail reading s = tripConfirmed (isolationCondition s) (confirmedAfter .trip rail reading s) :=
  comparatorWork_confirms hstate hbelow

theorem confirmed_active {f : FaultRecord} (minute reading : Option Nat) : (f.confirmed minute reading).state = .active := by
  unfold FaultRecord.confirmed
  split
  · rfl
  · rfl
  · next h => exact h

theorem tripHeld_confirmedAfter (hstate : (s.fault (tripKey rail)).state ≠ .active) :
    tripHeld (confirmedAfter .trip rail reading s) = true := by
  refine tripHeld_of_record (r := rail) ?_
  have hfault := confirmedAfter_fault (kind := .trip) (reading := reading) hstate
  rw [show (confirmedAfter .trip rail reading s).fault (tripKey rail) = _ from hfault, confirmed_active]
  exact FaultState.noConfusion

end

/-- Settles O43: the record's confirmation by its state, and the comparator's work by record and counts. -/
theorem railComparators : Obligations.RailComparators := by
  refine ⟨fun k reading s => ?_, fun kind rail reading s => ?_⟩
  · intro f
    refine ⟨fun hfree => ?_, fun hcleared => ?_, confirmFault_active⟩
    · have hstate : (s.fault k).state ≠ .active := by rw [show (s.fault k).state = .free from hfree]; exact FaultState.noConfusion
      rw [confirmFault_raised hstate, FaultRecord.confirmed_free hfree]
    · have hstate : (s.fault k).state ≠ .active := by
        rw [show (s.fault k).state = .cleared from hcleared]; exact FaultState.noConfusion
      rw [confirmFault_raised hstate, FaultRecord.confirmed_cleared hcleared]
  intro level persistence old counts k f lowest confirmed stack starts t
  have hcounts : countsAfter kind rail reading s = counts := Comparator.count_eq _ _ _ _
  have hk : feedKey kind rail = k := by cases kind <;> cases rail <;> rfl
  have hconfirmed : confirmedAfter kind rail reading s = confirmed := by
    show confirmFault (feedKey kind rail) _ ((s.setIsolation (s.isolation.setComparator kind rail _)).setFault _ _) = _
    rw [FaultRecord.followed_eq, hcounts, hk]
  have hstack : suspectStack s = stack := suspectStack_eq s
  have hnot {st : FaultState} (h : f.state = st) (hst : st ≠ .active) : (s.fault (feedKey kind rail)).state ≠ .active := by
    rw [hk, show (s.fault k).state = st from h]; exact hst
  clear_value k counts confirmed stack
  subst hk hcounts hconfirmed hstack
  have hwaits (hstate : f.state ≠ .active) (hbelow : (countsAfter kind rail reading s).below < persistence) :
      t.fault (feedKey kind rail) = f.followed reading := by
    rw [show t = _ from comparatorWork_waits hstate hbelow, compared_same]
  refine ⟨?_, fun hfree hbelow => ?_, fun hcleared hbelow => ?_, fun hwarning hstate hbelow => ?_, fun hactive habove => ?_,
    fun hactive habove => ?_, fun hfree hbelow => ?_, fun hcleared hbelow => ?_, fun htrip hstate hbelow => ?_⟩
  · rw [(onlyRecords_comparatorWork kind rail reading s).comparator_eq, compared_comparator]
  · obtain ⟨revision, verdict, hany, htrip⟩ := comparatorWork_free hfree hbelow
    have hposts := comparatorWork_posts (hnot hfree FaultState.noConfusion) hbelow .cp
    have hrecord : t.fault (feedKey kind rail) = _ := hany
    rw [hrecord]
    exact ⟨rfl, rfl, rfl, rfl, rfl, fun hkind => hany.symm.trans (htrip hkind), rfl, rfl, hposts⟩
  · obtain ⟨revision, verdict, hany, htrip⟩ := comparatorWork_cleared hcleared hbelow
    have hposts := comparatorWork_posts (hnot hcleared FaultState.noConfusion) hbelow .cp
    have hrecord : t.fault (feedKey kind rail) = _ := hany
    rw [hrecord]
    exact ⟨rfl, rfl, rfl, rfl, rfl, hposts, fun hkind => hany.symm.trans (htrip hkind)⟩
  · subst hwarning
    obtain ⟨hstands, hstarts⟩ := comparatorWork_warning hstate hbelow
    refine ⟨fun hnot => ⟨hstands hnot, ?_⟩, fun hyes => ⟨?_, fun hsome => ?_, fun hnone => ?_⟩⟩
    · rw [show t = _ from hstands hnot]
      exact confirmedAfter_revision hstate
    · rw [show t = _ from hstarts hyes, ← suspectStack_confirmedAfter (kind := .warning) (rail := rail) (reading := reading)]
      exact takesNextStep_startLocalization rail _
    · exact (comparatorWork_warning_revision hstate hbelow hyes).trans (if_pos hsome)
    · refine (comparatorWork_warning_revision hstate hbelow hyes).trans (if_neg fun ⟨x, hx, htrue⟩ => ?_)
      exact Bool.false_ne_true ((hnone x hx).symm.trans htrue)
  · have hfree : f.state ≠ .free := by rw [hactive]; exact FaultState.noConfusion
    have hsame := compared_same kind rail reading s
    rw [FaultRecord.followed_nonfree hfree] at hsame
    have hcompared : ((compared kind rail reading s).fault (feedKey kind rail)).state = .active := compared_state.trans hactive
    have hclears : t = post .faultCleared ((compared kind rail reading s).setFault (feedKey kind rail) _) :=
      (comparatorWork_clears hactive habove).trans (if_pos hcompared)
    rw [hclears]
    refine ⟨(fault_of_isolation (post_frame _ _).2.2.2.2.2.2.2.1 _).trans ?_, post_pending .cp .faultCleared _⟩
    rw [State.setFault_same, hsame]
    rfl
  · have hfree : f.state ≠ .free := by rw [hactive]; exact FaultState.noConfusion
    rw [show t = _ from comparatorWork_stays hactive habove, compared_same, FaultRecord.followed_nonfree hfree]
  · rw [hwaits (hnot hfree FaultState.noConfusion) hbelow, FaultRecord.followed_free hfree]
  · rw [hwaits (hnot hcleared FaultState.noConfusion) hbelow,
      FaultRecord.followed_nonfree (by rw [hcleared]; exact FaultState.noConfusion)]
  · subst htrip
    obtain ⟨hsessions, hplanner, hheating, hlocalizer, hsettings⟩ :=
      confirmedAfter_blocks (kind := .trip) (rail := rail) (reading := reading) (s := s)
    have ht : t = tripConfirmed (isolationCondition s) (confirmedAfter .trip rail reading s) := comparatorWork_trip hstate hbelow
    have hheld := tripHeld_confirmedAfter (reading := reading) hstate
    rw [ht]
    refine ⟨tripConfirmed_halted _ _, fun hhalted => tripConfirmed_outputs _ _ (by rw [hplanner]; exact hhalted),
      tripConfirmed_idle _ _, ?_, fun hbefore i hlive => ?_, fun r hdwell htarget => ?_⟩
    · exact (tripHeld_congr fun r => by rw [tripConfirmed_fault _ _ fun q => (warnKey_ne_tripKey q r).symm]).trans hheld
    · rw [hbefore]
      exact tripConfirmed_isolation _ hheld ((liveSlot_of_sessions hsessions).trans hlive)
    · generalize hhalted : handIsolation (isolationCondition s) (haltPlanner (confirmedAfter .trip rail reading s)) = halted
      have hlocal : halted.localizer = s.localizer := by rw [← hhalted, ← hlocalizer]; simp
      have habort : tripConfirmed (isolationCondition s) (confirmedAfter .trip rail reading s) =
          deliverVerdict .unresolved halted := by
        rw [tripConfirmed, hhalted]
        exact abortDwell_dwell halted (by rw [hlocal]; exact hdwell)
      refine ⟨halted, rfl, hlocal, fun j hj => ?_, ?_, ?_, ?_, fun z hz => ?_⟩
      · rw [← hhalted, fault_of_isolation (s := confirmedAfter .trip rail reading s) (by simp)]
        exact confirmedAfter_fault_other hstate hj
      · rw [habort]
        exact endsLocalization_deliverVerdict (by rw [hlocal]; exact htarget) .unresolved
      · rw [habort, deliverVerdict_sessions Verdict.noConfusion]
      · rw [habort, (deliverVerdict_unresolved halted).1]
      · rw [habort]
        exact (deliverVerdict_unresolved halted).2 z (by rw [hlocal]; exact hz)

end Sys2Proof.Machine
end

section
/-! The heater mismatch judgement (R152, R153; log 25, log 36). -/

namespace Sys2Proof.Machine

/-! ### What withdrawals leave of a planner -/

theorem dropLatest_zones_none {budget : Nat} {z : Fin 6} {l : List (Fin 6)} :
    ∀ {e : PlanEntry}, e.zones[z] = none → (dropLatest budget l e).zones[z] = none := by
  induction l with
  | nil => exact id
  | cons y rest ih =>
    intro e h
    refine ih ?_
    split
    · exact remove_zones_none h
    · exact h

theorem trimEntry_zones_none {budget : Nat} {order : List (Fin 6)} {z : Fin 6} {e : PlanEntry} (h : e.zones[z] = none) :
    (trimEntry budget order e).zones[z] = none := by
  unfold trimEntry
  split
  · exact h
  · exact dropLatest_zones_none h

/-- Withdrawals put no zone into an entry. -/
theorem Withdraws.zones_none {p q : Planner} (h : Withdraws p q) {z : Fin 6} {k : Fin 16}
    (hnone : (p.plan[k]).zones[z] = none) : (q.plan[k]).zones[z] = none := by
  have hcommand (e : PlanEntry) (he : e.zones[z] = none) : ({ e with command := 0 } : PlanEntry).zones[z] = none := he
  induction h with
  | refl => exact hnone
  | trans _ _ ih ih' => exact ih' (ih hnone)
  | cut budget p =>
    unfold Planner.cut
    split
    · exact mapNotBegun_zones_none (fun _ => trimEntry_zones_none) hnone
    · exact hnone
  | charger p => exact mapNotBegun_zones_none hcommand hnone
  | zone y p => exact mapNotBegun_zones_none (fun _ => remove_zones_none) hnone
  | zoneAtOnce y p => exact mapFromRunning_zones_none (fun _ => remove_zones_none) hnone

/-- Withdrawals leave the running slot, and take zones out of the placement order at most. -/
theorem Withdraws.order {p q : Planner} (h : Withdraws p q) : q.slot = p.slot ∧ q.order.Sublist p.order := by
  induction h with
  | refl => exact ⟨rfl, .refl _⟩
  | trans _ _ ih ih' => exact ⟨ih'.1.trans ih.1, ih'.2.trans ih.2⟩
  | cut budget p => rw [Planner.cut_eq]; exact ⟨rfl, .refl _⟩
  | charger p => rw [Planner.withdrawCharger, mapNotBegun_eq]; exact ⟨rfl, .refl _⟩
  | zone y p => rw [Planner.withdrawZone, mapNotBegun_eq]; exact ⟨rfl, .refl _⟩
  | zoneAtOnce y p => rw [Planner.withdrawAtOnce, mapFromRunning_eq]; exact ⟨rfl, List.erase_sublist⟩

/-! ### What a step of the Localizer leaves of the monitor -/

theorem nextStep_fault {k : Fin 12} (hk : ∀ r, k ≠ warnKey r) (s : State) : (nextStep s).fault k = s.fault k := by
  rcases takeSuspect_cases s.localizer.stack.reverse s with ⟨-, heq⟩ | ⟨-, x, below, -, -, -, heq⟩
  · rw [nextStep, heq]; exact deliverVerdict_fault_other hk
  · rw [nextStep, heq]; exact fault_of_isolation (by simp) k

theorem deliverVerdict_packSide_votes (s : State) : (deliverVerdict .packSide s).isolation.votes = s.isolation.votes := by
  unfold deliverVerdict
  split
  · rw [writeVerdict_eq Verdict.noConfusion]; simp [verdictEffect, State.setFault]
  · simp [verdictEffect]

theorem nextStep_votes (s : State) : (nextStep s).isolation.votes = s.isolation.votes := by
  rcases takeSuspect_cases s.localizer.stack.reverse s with ⟨-, heq⟩ | ⟨-, x, below, -, -, -, heq⟩
  · rw [nextStep, heq, deliverVerdict_packSide_votes]; rfl
  · rw [nextStep, heq]; simp

theorem localizerZoneOff_fault {k : Fin 12} (hk : ∀ r, k ≠ warnKey r) (z : Fin 6) (s : State) :
    (localizerZoneOff z s).fault k = s.fault k := by
  unfold localizerZoneOff
  split
  · exact (nextStep_fault hk _).trans (fault_of_isolation (by simp) k)
  · rfl

theorem localizerZoneOff_votes (z : Fin 6) (s : State) : (localizerZoneOff z s).isolation.votes = s.isolation.votes := by
  unfold localizerZoneOff
  split
  · rw [advanceSuspect, nextStep_votes]; simp
  · rfl

/-- The end of another zone's test does not touch an excluded zone. -/
theorem localizerZoneOff_excluded {y z : Fin 6} {s : State} (hyz : y ≠ z) (hexcluded : (s.zone z).excluded = true) :
    (localizerZoneOff y s).zone z = s.zone z ∧
    (s.localizer.suspect ≠ some (.zone z) → (localizerZoneOff y s).localizer.suspect ≠ some (.zone z)) := by
  unfold localizerZoneOff
  split
  · next h =>
    have hreleased : (released (.zone y) s).zone z = s.zone z := State.setZone_other s y z _ hyz
    have hdead : energizable (released (.zone y) s) (.zone z) = false := Bool.eq_false_iff.2 fun htrue => by
      rw [energizable_zone_iff, hreleased, hexcluded] at htrue
      cases htrue.1
    rw [advanceSuspect, releaseSuspect_eq h.2]
    obtain ⟨hzone, hsuspect⟩ := nextStep_zone_of_not_energizable hdead
    exact ⟨hzone.trans hreleased, fun _ => hsuspect⟩
  · exact ⟨rfl, id⟩

/-! ### The exclusion of one zone (R153) -/

theorem heaterKey_ne_warnKey (z : Fin 6) (r : Rail) : heaterKey z ≠ warnKey r := by
  intro h
  have hval := congrArg Fin.val h
  cases r <;> simp [heaterKey, warnKey] at hval

/-- The HEATER_ZONE record of a zone confirmed, and its votes at 0. -/
def noted (s : State) (z : Fin 6) : State :=
  (confirmFault (heaterKey z) none s).setIsolation { (confirmFault (heaterKey z) none s).isolation with
    votes := (confirmFault (heaterKey z) none s).isolation.votes.set z 0 }

theorem noted_zone (s : State) (z y : Fin 6) : (noted s z).zone y = s.zone y := zone_of_heating (by simp [noted]) y

theorem judgeVotes_stands {s : State} {z : Fin 6} (h : s.isolation.votes[z] ≠ 8) : judgeVotes s z = s := if_neg h

theorem judgeVotes_excludes {s : State} {z : Fin 6} (h : s.isolation.votes[z] = 8) :
    judgeVotes s z = localizerZoneOff z (excludeZone z (noted s z)) := if_pos h

/-- The exclusion of a zone whose record has been noted. -/
theorem excludeZone_noted {s : State} {z : Fin 6} (h : (s.zone z).excluded = false) : excludeZone z (noted s z) =
    ((noted s z).setZone z { s.zone z with excluded := true, demand := 0, granted := 0 }).setPlanner
      (s.planner.withdrawAtOnce z) := by
  have hplanner : (noted s z).planner = s.planner := by simp [noted]
  have hvotes : (noted s z).setIsolation { (noted s z).isolation with votes := (noted s z).isolation.votes.set z 0 } =
      noted s z := by
    simp [noted, State.setIsolation]
  rw [excludeZone_eq (by rw [noted_zone]; exact h), hvotes, noted_zone, hplanner]

theorem votes_confirmFault (k : Fin 12) (reading : Option Nat) (s : State) :
    (confirmFault k reading s).isolation.votes = s.isolation.votes := by
  unfold confirmFault
  split
  · rfl
  · simp [State.setFault]

theorem noted_votes (s : State) (z y : Fin 6) : (noted s z).isolation.votes[y] = if z = y then 0 else s.isolation.votes[y] := by
  simp only [noted, State.setIsolation_isolation, votes_confirmFault, Fin.getElem_fin, Vector.getElem_set, Fin.val_inj]

theorem confirmFault_state (k : Fin 12) (reading : Option Nat) (s : State) :
    ((confirmFault k reading s).fault k).state = .active := by
  by_cases h : (s.fault k).state = .active
  · rw [confirmFault_active h, h]
  · rw [confirmFault_fault h, if_pos rfl, confirmed_active]

theorem noted_fault (s : State) (z : Fin 6) (k : Fin 12) : (noted s z).fault k = (confirmFault (heaterKey z) none s).fault k := rfl

theorem confirmFault_fault_other {k j : Fin 12} (hj : k ≠ j) (reading : Option Nat) (s : State) :
    (confirmFault k reading s).fault j = s.fault j := by
  by_cases h : (s.fault k).state = .active
  · rw [confirmFault_active h]
  · rw [confirmFault_fault h, if_neg hj]

theorem excludeZone_other (z y : Fin 6) (s : State) (hy : z ≠ y) :
    (excludeZone z s).zone y = s.zone y ∧ (excludeZone z s).isolation.votes[y] = s.isolation.votes[y] := by
  cases h : (s.zone z).excluded with
  | true => rw [excludeZone_excluded h]; exact ⟨rfl, rfl⟩
  | false =>
    rw [excludeZone_eq h]
    refine ⟨State.setZone_other (s.setIsolation _) z y _ hy, ?_⟩
    simp [Fin.val_inj, hy]

section
variable {s : State} {y z : Fin 6} (hyz : y ≠ z)
include hyz

/-- A zone's exclusion leaves another zone's votes and exclusion, and its localization where that zone is under test. -/
theorem judgeVotes_other : (judgeVotes s y).isolation.votes[z] = s.isolation.votes[z] ∧
    ((judgeVotes s y).zone z).excluded = (s.zone z).excluded ∧
    (s.localizer.suspect = some (.zone z) → (judgeVotes s y).localizer = s.localizer) := by
  by_cases h : s.isolation.votes[y] = 8
  · obtain ⟨hzone, hvotes⟩ := excludeZone_other y z (noted s y) hyz
    rw [judgeVotes_excludes h]
    refine ⟨?_, ?_, fun hsuspect => ?_⟩
    · rw [localizerZoneOff_votes, hvotes, noted_votes, if_neg hyz]
    · rw [(zonesTested_localizerZoneOff y _).2 z, hzone, noted_zone]
    · have hlocalizer : (excludeZone y (noted s y)).localizer = s.localizer := by simp [noted]
      rw [localizerZoneOff_idle, hlocalizer]
      rw [hlocalizer, hsuspect]
      exact fun hboth => hyz (Suspect.zone.inj (Option.some.inj hboth.2)).symm
  · rw [judgeVotes_stands h]; exact ⟨rfl, rfl, fun _ => rfl⟩

/-- A zone's exclusion leaves an excluded zone and its record, and does not put it under test. -/
theorem judgeVotes_excluded (hexcluded : (s.zone z).excluded = true) : (judgeVotes s y).zone z = s.zone z ∧
    (judgeVotes s y).fault (heaterKey z) = s.fault (heaterKey z) ∧
    (s.localizer.suspect ≠ some (.zone z) → (judgeVotes s y).localizer.suspect ≠ some (.zone z)) := by
  by_cases h : s.isolation.votes[y] = 8
  · obtain ⟨hzone, -⟩ := excludeZone_other y z (noted s y) hyz
    rw [noted_zone] at hzone
    have hlocalizer : (excludeZone y (noted s y)).localizer = s.localizer := by simp [noted]
    have hkey : heaterKey y ≠ heaterKey z := by
      intro hsame
      have hval := congrArg Fin.val hsame
      simp only [heaterKey] at hval
      omega
    obtain ⟨hkept, hsuspect⟩ := localizerZoneOff_excluded (s := excludeZone y (noted s y)) hyz (by rw [hzone]; exact hexcluded)
    rw [judgeVotes_excludes h]
    refine ⟨hkept.trans hzone, ?_, by rwa [hlocalizer] at hsuspect⟩
    rw [localizerZoneOff_fault (heaterKey_ne_warnKey z), excludeZone_fault, noted_fault, confirmFault_fault_other hkey]
  · rw [judgeVotes_stands h]; exact ⟨rfl, rfl, id⟩

end

/-- A zone that its votes have excluded: what every later judgement of the frame leaves of it. -/
structure VotedOut (z : Fin 6) (before : Planner) (s : State) : Prop where
  votes : s.isolation.votes[z] = 0
  excluded : (s.zone z).excluded = true
  demand : (s.zone z).demand = 0
  granted : (s.zone z).granted = 0
  record : (s.fault (heaterKey z)).state = .active
  withdrawn : Withdraws (before.withdrawAtOnce z) s.planner

theorem judgeVotes_votedOut {s : State} {z : Fin 6} (hvotes : s.isolation.votes[z] = 8)
    (hexcluded : (s.zone z).excluded = false) : VotedOut z s.planner (judgeVotes s z) ∧
      (s.localizer.state = .dwell → s.localizer.suspect = some (.zone z) →
        (judgeVotes s z).localizer.suspect ≠ some (.zone z) ∧ ((judgeVotes s z).zone z).underTest = false) := by
  rw [judgeVotes_excludes hvotes, excludeZone_noted hexcluded]
  generalize hw : ((noted s z).setZone z { s.zone z with excluded := true, demand := 0, granted := 0 }).setPlanner
    (s.planner.withdrawAtOnce z) = w
  have hzone : w.zone z = { s.zone z with excluded := true, demand := 0, granted := 0 } := by
    rw [← hw]; exact State.setZone_same (noted s z) z _
  have hwvotes : w.isolation.votes[z] = 0 := by rw [← hw]; exact (noted_votes s z z).trans (if_pos rfl)
  have hrecord : (w.fault (heaterKey z)).state = .active := by rw [← hw]; exact confirmFault_state _ _ s
  have hplanner : w.planner = s.planner.withdrawAtOnce z := by rw [← hw]; rfl
  have hlocalizer : w.localizer = s.localizer := by rw [← hw]; simp [noted]
  have hdead : energizable w (.zone z) = false := Bool.eq_false_iff.2 fun htrue => by
    rw [energizable_zone_iff, hzone] at htrue
    cases htrue.1
  have hends (hdwell : w.localizer.state = .dwell ∧ w.localizer.suspect = some (.zone z)) :
      (localizerZoneOff z w).zone z = { s.zone z with excluded := true, underTest := false, demand := 0, granted := 0 } ∧
      (localizerZoneOff z w).localizer.suspect ≠ some (.zone z) := by
    obtain ⟨hout, hnot⟩ := advanceSuspect_zone hdwell.2 hdead
    rw [localizerZoneOff_dwell hdwell]
    refine ⟨?_, hnot⟩
    rw [hout, released_zone, hzone, demandOf_excluded rfl]
  have hafter : ∃ under, (localizerZoneOff z w).zone z =
      { s.zone z with excluded := true, underTest := under, demand := 0, granted := 0 } := by
    by_cases hdwell : w.localizer.state = .dwell ∧ w.localizer.suspect = some (.zone z)
    · exact ⟨_, (hends hdwell).1⟩
    · exact ⟨_, by rw [localizerZoneOff_idle hdwell]; exact hzone⟩
  obtain ⟨under, hunder⟩ := hafter
  refine ⟨⟨?_, by rw [hunder], by rw [hunder], by rw [hunder], ?_, ?_⟩, fun hdwell hsuspect => ?_⟩
  · rw [localizerZoneOff_votes]; exact hwvotes
  · rw [localizerZoneOff_fault (heaterKey_ne_warnKey z)]; exact hrecord
  · rw [← hplanner]; exact (localizerZoneOff_acts z w).plantKept.withdraws
  · obtain ⟨hout, hnot⟩ := hends (by rw [hlocalizer]; exact ⟨hdwell, hsuspect⟩)
    exact ⟨hnot, by rw [hout]⟩

theorem VotedOut.judgeVotes {z y : Fin 6} {before : Planner} {s : State} (h : VotedOut z before s) (hyz : y ≠ z) :
    VotedOut z before (judgeVotes s y) := by
  obtain ⟨hzone, hfault, -⟩ := judgeVotes_excluded hyz h.excluded
  refine ⟨?_, by rw [hzone]; exact h.excluded, by rw [hzone]; exact h.demand, by rw [hzone]; exact h.granted,
    by rw [hfault]; exact h.record, h.withdrawn.trans (judgeVotes_acts s y).plantKept.withdraws⟩
  rw [(judgeVotes_other hyz).1]
  exact h.votes

end Sys2Proof.Machine
end

section
/-! The statement about the heater mismatch judgement (R152, R153). -/

namespace Sys2Proof.Machine

/-- A zone's judgement by its votes and its exclusion. -/
theorem judgeVotes_eq (s : State) (z : Fin 6) : judgeVotes s z =
    if s.isolation.votes[z] ≠ 8 then s
    else localizerZoneOff z (if (s.zone z).excluded = true then noted s z
      else ((noted s z).setZone z { s.zone z with excluded := true, demand := 0, granted := 0 }).setPlanner
        (s.planner.withdrawAtOnce z)) := by
  by_cases hvotes : s.isolation.votes[z] = 8
  · rw [if_neg (not_not_intro hvotes), judgeVotes_excludes hvotes]
    cases hexcluded : (s.zone z).excluded with
    | true => rw [if_pos rfl, excludeZone_excluded (by rw [noted_zone]; exact hexcluded)]
    | false => rw [if_neg Bool.false_ne_true, excludeZone_noted hexcluded]
  · rw [if_pos hvotes, judgeVotes_stands hvotes]

theorem voted_eq (mismatch : Prop) [Decidable mismatch] (on : Option Nat) (excluded : Bool) (votes : Nat) :
    voted (decide mismatch) on.isSome excluded votes =
      if on = none then votes
      else if ¬ mismatch then 0
      else if excluded = true then votes
      else min (votes + 1) 8 := by
  cases on with
  | none => rfl
  | some w => by_cases h : mismatch <;> simp [voted, h]

section
variable {s : State} {z : Fin 6}

/-- Votes below 8 stand through the judgements of all zones. -/
theorem foldl_judgeVotes_stands {n : Nat} (hn : n ≠ 8) (l : List (Fin 6)) (hvotes : s.isolation.votes[z] = n)
    (hexcluded : (s.zone z).excluded = false) : (l.foldl judgeVotes s).isolation.votes[z] = n ∧
      ((l.foldl judgeVotes s).zone z).excluded = false := by
  refine foldl_keeps (P := fun u => u.isolation.votes[z] = n ∧ (u.zone z).excluded = false) (fun u y hu => ?_) l
    ⟨hvotes, hexcluded⟩
  by_cases hyz : y = z
  · subst hyz; rw [judgeVotes_stands (by rw [hu.1]; exact hn)]; exact hu
  · obtain ⟨hsame, hzone, -⟩ := judgeVotes_other (s := u) hyz
    exact ⟨hsame.trans hu.1, hzone.trans hu.2⟩

/-- A property that the judgements of other zones keep. -/
theorem foldl_judgeVotes_other {P : State → Prop} (hP : ∀ u y, y ≠ z → P u → P (judgeVotes u y)) {l : List (Fin 6)}
    (hl : z ∉ l) {s : State} (h : P s) : P (l.foldl judgeVotes s) := by
  induction l generalizing s with
  | nil => exact h
  | cons y rest ih =>
    obtain ⟨hy, hrest⟩ := not_or.1 (mt List.mem_cons.2 hl)
    exact ih hrest (hP s y (Ne.symm hy) h)

/-- A zone with 8 votes before the judgements of all zones is voted out by its own. -/
theorem foldl_judgeVotes_votedOut (hvotes : s.isolation.votes[z] = 8) (hexcluded : (s.zone z).excluded = false) :
    ∃ before, Withdraws s.planner before ∧ VotedOut z before ((List.finRange 6).foldl judgeVotes s) ∧
      (s.localizer.state = .dwell → s.localizer.suspect = some (.zone z) →
        ((List.finRange 6).foldl judgeVotes s).localizer.suspect ≠ some (.zone z) ∧
        (((List.finRange 6).foldl judgeVotes s).zone z).underTest = false) := by
  obtain ⟨front, back, hsplit⟩ := List.append_of_mem (List.mem_finRange z)
  have hnodup : (z :: (front ++ back)).Nodup := List.nodup_middle.1 (hsplit ▸ List.nodup_finRange 6)
  have hmem := (List.nodup_cons.1 hnodup).1
  have hfront : z ∉ front := fun h => hmem (List.mem_append_left _ h)
  have hback : z ∉ back := fun h => hmem (List.mem_append_right _ h)
  rw [hsplit, List.foldl_append, List.foldl_cons]
  generalize hu : front.foldl judgeVotes s = u
  have hbefore : u.isolation.votes[z] = 8 ∧ (u.zone z).excluded = false ∧ Withdraws s.planner u.planner ∧
      (s.localizer.suspect = some (.zone z) → u.localizer = s.localizer) := by
    rw [← hu]
    refine foldl_judgeVotes_other (z := z) (P := fun v => v.isolation.votes[z] = 8 ∧ (v.zone z).excluded = false ∧
      Withdraws s.planner v.planner ∧ (s.localizer.suspect = some (.zone z) → v.localizer = s.localizer))
      (fun v y hyz ⟨hv, he, hw, hl⟩ => ?_) hfront ⟨hvotes, hexcluded, .refl _, fun _ => rfl⟩
    obtain ⟨hsame, hzone, hlocal⟩ := judgeVotes_other (s := v) hyz
    exact ⟨hsame.trans hv, hzone.trans he, hw.trans (judgeVotes_acts v y).plantKept.withdraws,
      fun hsuspect => (hlocal (by rw [hl hsuspect]; exact hsuspect)).trans (hl hsuspect)⟩
  obtain ⟨huvotes, huexcluded, hwithdraws, hlocalizer⟩ := hbefore
  obtain ⟨hout, hends⟩ := judgeVotes_votedOut huvotes huexcluded
  refine ⟨u.planner, hwithdraws, foldl_judgeVotes_other (fun v y hyz hv => hv.judgeVotes hyz) hback hout,
    fun hdwell hsuspect => ?_⟩
  obtain ⟨hnot, hunder⟩ := hends (by rw [hlocalizer hsuspect]; exact hdwell) (by rw [hlocalizer hsuspect]; exact hsuspect)
  have hkeeps := foldl_judgeVotes_other (z := z) (P := fun v => VotedOut z u.planner v ∧
    v.localizer.suspect ≠ some (.zone z) ∧ (v.zone z).underTest = false) (fun v y hyz ⟨hv, hs, hz⟩ => by
      obtain ⟨hzone, -, hkept⟩ := judgeVotes_excluded hyz hv.excluded
      exact ⟨hv.judgeVotes hyz, hkept hs, by rw [hzone]; exact hz⟩) hback ⟨hout, hnot, hunder⟩
  exact hkeeps.2

theorem withdrawAtOnce_line (p : Planner) (z : Fin 6) : (p.withdrawAtOnce z).heaterLines[z] = false := by
  simp [Planner.withdrawAtOnce]

theorem withdrawAtOnce_entry {p : Planner} {now k : Fin 16} (hstate : p.state = .running) (hslot : p.slot = some now)
    (hk : now ≤ k) : ((p.withdrawAtOnce z).plan[k]).zones[z] = none := by
  have hentry : (p.withdrawAtOnce z).plan[k] = if now ≤ k then (p.plan[k]).remove z else p.plan[k] := by
    rw [Planner.withdrawAtOnce, mapFromRunning_running hstate hslot]
    exact mapIndexed_get _ _ k
  rw [hentry, if_pos hk, remove_zones, if_pos rfl]

theorem withdrawAtOnce_order (p : Planner) (z : Fin 6) : (p.withdrawAtOnce z).order = p.order.erase z := by
  rw [(leavesAtOnce_withdrawAtOnce z p).1]

/-- A zone voted out is off its line, and out of the order and of the slots from the running one on. -/
theorem VotedOut.planner {before : Planner} (h : VotedOut z before s) : s.planner.heaterLines[z] = false ∧
    (before.order.Nodup → z ∉ s.planner.order) ∧
    (before.state = .running → ∀ now, before.slot = some now → ∀ k : Fin 16, now ≤ k →
      (s.planner.plan[k]).zones[z] = none) := by
  refine ⟨h.withdrawn.keeps.2.2 z (withdrawAtOnce_line before z), fun hnodup hmem => ?_, fun hstate now hslot k hk => ?_⟩
  · have hin := h.withdrawn.order.2.subset hmem
    rw [withdrawAtOnce_order] at hin
    exact hnodup.not_mem_erase hin
  · exact h.withdrawn.zones_none (withdrawAtOnce_entry hstate hslot hk)

end

/-- Settles O44: the judgement of each zone as the statement says it, and its votes counted first. -/
theorem heaterMismatch : Obligations.HeaterMismatch := by
  refine ⟨fun f s => rfl, leavesAtOnce_withdrawAtOnce, fun f e s => ?_⟩
  intro expected mismatch votes judged t
  have hcounted : countVotes e (isMismatch (expectedCurrent e f.packVoltage.toNat) f.heaterCurrent.toInt) s =
      s.setIsolation { s.isolation with votes := votes } := by
    refine congrArg (fun v => s.setIsolation { s.isolation with votes := v }) (congrArg Vector.ofFn (funext fun z => ?_))
    exact voted_eq mismatch e.zones[z] _ _
  have hzero (h : f.packVoltage = 0) : t = s := if_pos (by rw [h]; rfl)
  have hfold (h : f.packVoltage ≠ 0) : t = (List.finRange 6).foldl judgeVotes (s.setIsolation { s.isolation with votes := votes }) := by
    rw [← hcounted]
    exact if_neg fun hnat => h (BitVec.eq_of_toNat_eq hnat)
  have hjudged : judgeVotes = judged := funext fun u => funext fun z => judgeVotes_eq u z
  refine ⟨hzero, fun h => hjudged ▸ hfold h, fun h z hexcluded hlow => ?_⟩
  rw [hfold h]
  generalize hc : s.setIsolation { s.isolation with votes := votes } = c
  have hzone : (c.zone z).excluded = false := by rw [← hc]; exact hexcluded
  have hplanner : c.planner = s.planner := by rw [← hc]; rfl
  have hlocalizer : c.localizer = s.localizer := by rw [← hc]; rfl
  have hvotes : c.isolation.votes[z] = if e.zones[z] = none then s.isolation.votes[z] else if ¬ mismatch then 0
      else if (s.zone z).excluded = true then s.isolation.votes[z] else min (s.isolation.votes[z] + 1) 8 := by
    rw [← hc]; exact Vector.getElem_ofFn _
  have hexcludedNot : ¬ (s.zone z).excluded = true := by rw [hexcluded]; exact Bool.false_ne_true
  refine ⟨fun hoff => ?_, fun hon hmatch => ?_, fun hon hmis hless => ?_, fun hon hmis hseven => ?_⟩
  · rw [if_pos hoff] at hvotes
    exact foldl_judgeVotes_stands (by omega) _ hvotes hzone
  · rw [if_neg hon, if_pos hmatch] at hvotes
    exact foldl_judgeVotes_stands (by decide) _ hvotes hzone
  · rw [if_neg hon, if_neg (not_not_intro hmis), if_neg hexcludedNot, min_eq_left (by omega)] at hvotes
    exact foldl_judgeVotes_stands (by omega) _ hvotes hzone
  · rw [if_neg hon, if_neg (not_not_intro hmis), if_neg hexcludedNot, hseven] at hvotes
    obtain ⟨before, hwithdraws, hout, hends⟩ := foldl_judgeVotes_votedOut hvotes hzone
    rw [hplanner] at hwithdraws
    rw [hlocalizer] at hends
    obtain ⟨hline, horder, hentries⟩ := hout.planner
    refine ⟨hout.votes, hout.excluded, hout.demand, hout.granted, hline, hout.record,
      fun hnodup => horder (hnodup.sublist hwithdraws.order.2), fun hstate now hslot => ?_, hends⟩
    exact hentries (hwithdraws.keeps.1.trans hstate) now (hwithdraws.order.1.trans hslot)

end Sys2Proof.Machine
end

section
/-! Slots, halts and releases of the planner (R84, R109, R110, R117, R124, R125). -/

namespace Sys2Proof.Machine

/-! ### The outputs follow the entry of the running slot (R117, R123) -/

/-- A running planner in slot `now` with its entry on the outputs. -/
def Shows (now : Fin 16) (p : Planner) : Prop :=
  p.state = .running ∧ p.slot = some now ∧ (∀ z : Fin 6, p.heaterLines[z] = (p.plan[now]).zones[z].isSome) ∧
  p.lastCommand = (p.plan[now]).command

/-- A rewriting of the slots not yet begun leaves the running one. -/
theorem Shows.mapNotBegun {now : Fin 16} {p : Planner} (h : Shows now p) (f : PlanEntry → PlanEntry) :
    Shows now (mapNotBegun f p) := by
  obtain ⟨hstate, hslot, hlines, hcommand⟩ := h
  have hentry : (mapIndexed (fun k e => if now < k then f e else e) p.plan)[now] = p.plan[now] :=
    (mapIndexed_get _ _ now).trans (if_neg (lt_irrefl now))
  rw [mapNotBegun_running hstate hslot]
  refine ⟨hstate, hslot, fun z => ?_, ?_⟩
  · dsimp only; rw [hentry]; exact hlines z
  · dsimp only; rw [hentry]; exact hcommand

theorem Shows.withdrawAtOnce {now : Fin 16} {p : Planner} (h : Shows now p) (z : Fin 6) :
    Shows now (p.withdrawAtOnce z) := by
  obtain ⟨hstate, hslot, hlines, hcommand⟩ := h
  have hsame := (leavesAtOnce_withdrawAtOnce z p).1
  have hentry : (p.withdrawAtOnce z).plan[now] = (p.plan[now]).remove z := by
    rw [Planner.withdrawAtOnce, mapFromRunning_running hstate hslot]
    exact (mapIndexed_get _ _ now).trans (if_pos (le_refl now))
  refine ⟨by rw [hsame]; exact hstate, by rw [hsame]; exact hslot, fun y => ?_, ?_⟩
  · have hline : (p.withdrawAtOnce z).heaterLines[y] = if y = z then false else p.heaterLines[y] := by
      rw [hsame]
      simp only [Fin.getElem_fin, Vector.getElem_set, Fin.val_inj, eq_comm]
    rw [hentry, hline, remove_zones, hlines y]
    split <;> rfl
  · rw [hentry, (remove_budget z _).2, hsame]; exact hcommand

theorem Withdraws.shows {p q : Planner} (h : Withdraws p q) {now : Fin 16} (hp : Shows now p) : Shows now q := by
  induction h with
  | refl => exact hp
  | trans _ _ ih ih' => exact ih' (ih hp)
  | cut budget p =>
    unfold Planner.cut
    split
    · exact hp.mapNotBegun _
    · exact hp
  | charger p => exact hp.mapNotBegun _
  | zone z p => exact hp.mapNotBegun _
  | zoneAtOnce z p => exact hp.withdrawAtOnce z

theorem Withdraws.messages {p q : Planner} (h : Withdraws p q) : q.messages = p.messages := by
  induction h with
  | refl => rfl
  | trans _ _ ih ih' => exact ih'.trans ih
  | cut budget p => rw [Planner.cut_eq]
  | charger p => rw [Planner.withdrawCharger, mapNotBegun_eq]
  | zone y p => rw [Planner.withdrawZone, mapNotBegun_eq]
  | zoneAtOnce y p => rw [(leavesAtOnce_withdrawAtOnce y p).1]

theorem startSlot_shows (p : Planner) (k : Fin 16) (hstate : p.state = .running) : Shows k (p.startSlot k) :=
  ⟨hstate, rfl, fun _ => Vector.getElem_ofFn _, rfl⟩

/-! ### The takers of a held event (R84, R110) -/

theorem perm_pair {α : Type} {a b : α} {l : List α} (h : l.Perm [a, b]) : l = [a, b] ∨ l = [b, a] := by
  obtain ⟨x, y, rfl⟩ := List.length_eq_two.1 h.length_eq
  have hx : x = a ∨ x = b := by simpa using h.subset List.mem_cons_self
  rcases hx with rfl | rfl
  · obtain rfl := List.singleton_perm_singleton.1 ((List.perm_cons x).1 h)
    exact .inl rfl
  · obtain rfl := List.singleton_perm_singleton.1 ((List.perm_cons x).1 (h.trans (.swap x a [])))
    exact .inr rfl

/-- The session that a held event ends has stopped, so its close reaches no other block. -/
theorem endClosing_some {s : State} {i : Fin 8} (h : closingSlot s = some i) :
    endClosing s = handOver (closeRecord .stoppedControl i s) := by
  have hdead : ¬ (s.session i).state.isLive = true := by rw [closingSlot_some h]; exact Bool.false_ne_true
  simp only [endClosing, h, closeSession, if_neg hdead]

theorem endClosing_none {s : State} (h : closingSlot s = none) : endClosing s = s := by
  simp only [endClosing, h]

/-- The end of a running slot: the next one begins, or a cycle. -/
theorem endSlot_some {s : State} {k : Fin 16} (h : s.planner.slot = some k) : endSlot s =
    if k = 15 then cycleBoundary s else s.setPlanner (s.planner.startSlot (k + 1)) := by
  have hnext (hk : k.val + 1 < 16) : (⟨k.val + 1, hk⟩ : Fin 16) = k + 1 := by
    apply Fin.ext
    rw [Fin.val_add_one_of_lt' (by omega)]
  simp only [endSlot, h]
  split
  · next hk => rw [if_neg (by rintro rfl; exact absurd hk (by decide)), hnext]
  · next hk => rw [if_pos (by omega)]

theorem endSlot_none {s : State} (h : s.planner.slot = none) : endSlot s = s := by
  simp only [endSlot, h]

theorem plannerHeld_eq (s : State) : plannerHeld s = if s.planner.state = .running then endSlot s else s := by
  unfold plannerHeld
  cases s.planner.state <;> rfl

/-- At a boundary the planner acts last. -/
theorem heldOrder_boundary {a : Arrival} (h : a.boundary = true) (s : State) :
    (heldOrder a s).getLast? = some .planner := by
  simp only [heldOrder, h, if_true, plannerLast_getLast?]

theorem heldOrder_cases (a : Arrival) (s : State) :
    (heldOrder a s = [.accrual, .planner] ∨ heldOrder a s = [.planner, .accrual]) ∧
    (a.boundary = true → heldOrder a s = [.accrual, .planner]) := by
  have hpair := perm_pair (heldOrder_perm a s)
  refine ⟨hpair, fun hboundary => hpair.resolve_right fun hother => ?_⟩
  have hlast := heldOrder_boundary hboundary s
  rw [hother] at hlast
  cases hlast

theorem arrivalOf_boundary {p : Planner} (hstate : p.state = .running) (hslot : p.slot = some 15) :
    (arrivalOf p).boundary = true := by
  simp [arrivalOf, hstate, atLastSlot, hslot]

/-- The state in which a held event finds the blocks (R83, R84). -/
def heldStart (s : State) : State :=
  let u := passTime s.meter.overdue s
  { u with
    choices := s.choices.tail
    meter := { u.meter with
      overdue := Config.overdueAfterExpiry, state := .holding
      heldCount := if s.meter.state = .synced then 1 else s.meter.heldCount + 1 } }

theorem heldEvent_order (s : State) : ∃ order, (order = [.accrual, .planner] ∨ order = [.planner, .accrual]) ∧
    ((arrivalOf s.planner).boundary = true → order = [.accrual, .planner]) ∧
    heldEvent s = order.foldl (takeHeld (arrivalOf s.planner)) (dropChoice s) := by
  obtain ⟨hcases, hboundary⟩ := heldOrder_cases (arrivalOf s.planner) s
  exact ⟨_, hcases, hboundary, rfl⟩

/-- An overdue expiry of a good link is a held event. -/
theorem overdueExpiry_held {s : State}
    (h : s.meter.state = .synced ∨ (s.meter.state = .holding ∧ s.meter.heldCount < 4)) :
    ∃ u, u.planner = s.planner ∧ dropChoice u = heldStart s ∧ takeOverdue (passTime s.meter.overdue s) = heldEvent u := by
  generalize hr : rearmOverdue (passTime s.meter.overdue s) = r
  have hmeter : r.meter.state = s.meter.state ∧ r.meter.heldCount = s.meter.heldCount ∧ r.planner = s.planner := by
    rw [← hr]; exact ⟨rfl, rfl, rfl⟩
  obtain ⟨hstate, hcount, hplanner⟩ := hmeter
  have htake : takeOverdue (passTime s.meter.overdue s) = match r.meter.state with
      | .synced => heldEvent (r.setMeter { r.meter with state := .holding, heldCount := 1 })
      | .holding =>
        if r.meter.heldCount < 4 then heldEvent (r.setMeter { r.meter with heldCount := r.meter.heldCount + 1 })
        else lostEvent (enterLost r)
      | .lost => lostEvent r
      | .searching => lostEvent r
      | .recovering => lostEvent (r.setMeter { r.meter with goodCount := 0 }) := by rw [← hr]; rfl
  rcases h with hsynced | ⟨hholding, hless⟩
  · refine ⟨r.setMeter { r.meter with state := .holding, heldCount := 1 }, hplanner, ?_, ?_⟩
    · rw [heldStart, if_pos hsynced, ← hr]; rfl
    · rw [htake, hstate, hsynced]
  · have hother : ¬ s.meter.state = .synced := by rw [hholding]; exact LinkState.noConfusion
    have hrecord : ({ r.meter with heldCount := r.meter.heldCount + 1 } : MeterLink) =
        { r.meter with state := .holding, heldCount := r.meter.heldCount + 1 } := by rw [← hholding, ← hstate]
    refine ⟨r.setMeter { r.meter with heldCount := r.meter.heldCount + 1 }, hplanner, ?_, ?_⟩
    · rw [heldStart, if_neg hother, hrecord, ← hr]; rfl
    · rw [htake, hstate, hholding]
      exact if_pos (by rw [hcount]; exact hless)

/-- Below slot 15 a held event puts the next slot's entry on the outputs, whichever taker is first. -/
theorem foldl_takeHeld_next {s : State} {k next : Fin 16} {order : List Taker} (a : Arrival)
    (horder : order = [.accrual, .planner] ∨ order = [.planner, .accrual]) (hstate : s.planner.state = .running)
    (hslot : s.planner.slot = some k) (hnext : next.val = k.val + 1) :
    Shows next (order.foldl (takeHeld a) s).planner ∧
    (order.foldl (takeHeld a) s).planner.messages = s.planner.messages + 1 := by
  have hk : ¬ k = 15 := by rintro rfl; exact absurd next.isLt (by rw [hnext]; decide)
  have hsucc : k + 1 = next := Fin.ext ((Fin.val_add_one_of_lt' (by omega)).trans hnext.symm)
  have hplanner (u : State) (hu : u.planner.state = .running) (hus : u.planner.slot = some k) :
      takeHeld a u .planner = u.setPlanner (u.planner.startSlot next) := by
    rw [takeHeld, plannerHeld_eq, if_pos hu, endSlot_some hus, if_neg hk, hsucc]
  have haccrual (u : State) : Withdraws u.planner (takeHeld a u .accrual).planner :=
    (accrueAndEnd_handles true a.source u).plantKept.withdraws
  rcases horder with rfl | rfl
  · have hw := haccrual s
    have hrunning := hw.keeps.1.trans hstate
    rw [List.foldl_cons, List.foldl_cons, List.foldl_nil, hplanner _ hrunning (hw.order.1.trans hslot)]
    exact ⟨startSlot_shows _ next hrunning, congrArg (· + 1) hw.messages⟩
  · rw [List.foldl_cons, List.foldl_cons, List.foldl_nil, hplanner s hstate hslot]
    have hw := haccrual (s.setPlanner (s.planner.startSlot next))
    exact ⟨hw.shows (startSlot_shows s.planner next hstate), hw.messages⟩

/-! ### Halt and release (R124, R125) -/

theorem clearGrants_zone (s : State) (z : Fin 6) :
    (clearGrants s).zone z = { s.zone z with granted := 0, deferred := false } := mapIndexed_get _ _ z

theorem haltPlanner_outputs {s : State} (h : s.planner.state ≠ .halted) : OutputsOff (haltPlanner s) :=
  (haltPlanner_plannerSafe fun hhalted => absurd hhalted h).2 (by rw [haltPlanner_state]; exact PlannerState.noConfusion)

theorem isGood_false {st : LinkState} (h : st = .searching ∨ st = .lost ∨ st = .recovering) : st.isGood = false := by
  rcases h with rfl | rfl | rfl <;> rfl

/-- Settles O39: the held event by its order, the halt and the release by the planner's state. -/
theorem slotsHaltAndRelease : Obligations.SlotsHaltAndRelease := by
  refine ⟨fun s hlink => ?_, fun s => ⟨_, rfl, rfl⟩, fun p k => rfl, fun s k next hstate hslot hnext hlink => ?_,
    fun s => haltPlanner_of_halted, fun s hhalted => ?_, fun s => ⟨fun hhalted htrip hlink => ?_, fun hnot => ?_⟩⟩
  · intro u start running closed planned act
    obtain ⟨w, hwplanner, hwstart, hheld⟩ := overdueExpiry_held hlink
    obtain ⟨order, horder, hboundary, heq⟩ := heldEvent_order w
    rw [hwplanner] at hboundary
    rw [hwplanner, hwstart, ← hheld] at heq
    have hclosed (v : State) : endClosing v = closed v := by
      show _ = match closingSlot v with
        | none => v
        | some i => handOver (closeRecord .stoppedControl i v)
      cases hslot : closingSlot v with
      | none => exact endClosing_none hslot
      | some i => exact endClosing_some hslot
    have hplanned (v : State) : endSlot v = planned v := by
      show _ = match v.planner.slot with
        | none => v
        | some k => if k = 15 then cycleBoundary v else v.setPlanner (v.planner.startSlot (k + 1))
      cases hslot : v.planner.slot with
      | none => exact endSlot_none hslot
      | some k => exact endSlot_some hslot
    have hact : takeHeld (arrivalOf s.planner) = act := by
      funext v x
      cases x with
      | accrual => exact hclosed _
      | planner => exact (plannerHeld_eq v).trans (by rw [hplanned])
      | heat | isolation | localizer | occupancy | ageing => rfl
    refine ⟨order, horder, fun hrunning hslot => hboundary (arrivalOf_boundary hrunning hslot), ?_⟩
    rw [← hact]
    exact congrArg Host.Outcome.next heq
  · obtain ⟨w, hwplanner, hwstart, hheld⟩ := overdueExpiry_held hlink
    obtain ⟨order, horder, -, heq⟩ := heldEvent_order w
    rw [hwplanner, hwstart, ← hheld] at heq
    obtain ⟨⟨hrunning, hnow, hlines, hcommand⟩, hmessages⟩ :=
      foldl_takeHeld_next (s := heldStart s) (arrivalOf s.planner) horder hstate hslot hnext
    exact ⟨_, congrArg Host.Outcome.next heq, hrunning, hnow, hlines, hcommand, hmessages⟩
  · refine ⟨?_, haltPlanner_outputs hhalted, fun z => ?_, by simp, by simp, by simp, by simp⟩
    · rw [haltPlanner_of_not_halted hhalted]; rfl
    · rw [haltPlanner_of_not_halted hhalted]
      exact clearGrants_zone _ z
  · rw [releasePlanner, if_pos ⟨hhalted, htrip, (isGood_iff _).2 hlink⟩]
    rfl
  · refine if_neg fun ⟨hhalted, htrip, hgood⟩ => ?_
    rcases hnot with hother | hheld | hbad
    · exact hother hhalted
    · exact Bool.false_ne_true (htrip.symm.trans hheld)
    · exact Bool.false_ne_true ((isGood_false hbad).symm.trans hgood)

end Sys2Proof.Machine
end

section
/-! STOP, and what the other blocks do at a change of the live session (R21, R120, R121, R167). -/

namespace Sys2Proof.Machine

/-! ### What withdrawals leave of an entry -/

/-- An entry with no more budget and no greater command than another. -/
def EntryLe (e' e : PlanEntry) : Prop := e'.budget ≤ e.budget ∧ e'.command ≤ e.command

theorem EntryLe.refl (e : PlanEntry) : EntryLe e e := ⟨le_refl _, le_refl _⟩

theorem mapFromRunning_entry_le {f : PlanEntry → PlanEntry} (hf : ∀ e, EntryLe (f e) e) (p : Planner) (k : Fin 16) :
    EntryLe ((mapFromRunning f p).plan[k]) (p.plan[k]) := by
  unfold mapFromRunning
  split
  · dsimp only
    rw [mapIndexed_get]
    split
    · exact hf _
    · exact .refl _
  · exact .refl _

theorem mapNotBegun_entry_le {f : PlanEntry → PlanEntry} (hf : ∀ e, EntryLe (f e) e) (p : Planner) (k : Fin 16) :
    EntryLe ((mapNotBegun f p).plan[k]) (p.plan[k]) := by
  unfold mapNotBegun
  split
  · dsimp only
    rw [mapIndexed_get]
    split
    · exact hf _
    · exact .refl _
  · exact .refl _

theorem remove_entry_le (z : Fin 6) (e : PlanEntry) : EntryLe (e.remove z) e := by
  obtain ⟨hbudget, hcommand⟩ := remove_budget z e
  exact ⟨hbudget.le, hcommand.le⟩

theorem trimEntry_entry_le (budget : Nat) (order : List (Fin 6)) (e : PlanEntry) : EntryLe (trimEntry budget order e) e := by
  unfold trimEntry
  split
  · exact .refl e
  · next h =>
    obtain ⟨gone, kept, -, hdrop, -, -⟩ := dropLatest_removes budget order.reverse e
    have hcommand : (dropLatest budget order.reverse e).command = e.command := by
      rw [hdrop]; exact (foldl_remove_budget gone e).2
    exact ⟨(not_le.1 h).le, (min_le_left _ _).trans hcommand.le⟩

theorem Withdraws.entry_le {p q : Planner} (h : Withdraws p q) (k : Fin 16) : EntryLe q.plan[k] p.plan[k] := by
  have hcommand (e : PlanEntry) : EntryLe { e with command := 0 } e := ⟨le_refl _, Nat.zero_le _⟩
  induction h with
  | refl => exact .refl _
  | trans _ _ ih ih' => exact ⟨ih'.1.trans ih.1, ih'.2.trans ih.2⟩
  | cut budget p =>
    unfold Planner.cut
    split
    · exact mapNotBegun_entry_le (trimEntry_entry_le budget p.order) p k
    · exact .refl _
  | charger p => exact mapNotBegun_entry_le hcommand p k
  | zone z p => exact mapNotBegun_entry_le (remove_entry_le z) p k
  | zoneAtOnce z p => exact mapFromRunning_entry_le (remove_entry_le z) p k

theorem mapNotBegun_entry {f : PlanEntry → PlanEntry} {p : Planner} {now k : Fin 16} (hstate : p.state = .running)
    (hslot : p.slot = some now) (hk : now < k) : (mapNotBegun f p).plan[k] = f p.plan[k] := by
  rw [mapNotBegun_running hstate hslot]
  exact (mapIndexed_get _ _ k).trans (if_pos hk)

theorem withdrawCharger_entry {p : Planner} {now k : Fin 16} (hstate : p.state = .running) (hslot : p.slot = some now)
    (hk : now < k) : (p.withdrawCharger.plan[k]).command = 0 := by
  rw [Planner.withdrawCharger, mapNotBegun_entry hstate hslot hk]

theorem trimEntry_budget (budget : Nat) (order : List (Fin 6)) (e : PlanEntry) :
    (trimEntry budget order e).budget ≤ budget := by
  unfold trimEntry
  split
  · next h => exact h
  · exact le_refl _

theorem cut_entry_budget {p : Planner} {now k : Fin 16} (budget : Nat) (hsource : p.source = some .grid)
    (hstate : p.state = .running) (hslot : p.slot = some now) (hk : now < k) :
    ((p.cut budget).plan[k]).budget ≤ budget := by
  rw [Planner.cut, if_pos hsource, mapNotBegun_entry hstate hslot hk]
  exact trimEntry_budget _ _ _

/-! ### The standing of the live session (R120) -/

theorem PauseReasons.onlyCold_iff (q : PauseReasons) : q.onlyCold = true ↔ { q with cold := false } = PauseReasons.empty := by
  cases q
  simp [PauseReasons.onlyCold, PauseReasons.empty, and_assoc]

theorem gridStanding_iff (s : State) : gridStanding s = true ↔ ∃ i, liveSlot s = some i ∧
    (s.session i).reasons.offer = false ∧ (((s.session i).state = .complete ∧ (s.session i).reasons.credit = false) ∨
      { (s.session i).reasons with cold := false } = PauseReasons.empty) := by
  cases hlive : liveSlot s with
  | none => simp [gridStanding, hlive]
  | some i => simp [gridStanding, hlive, PauseReasons.onlyCold_iff]

theorem gridStanding_none {s : State} (h : liveSlot s = none) : gridStanding s = false := by
  rw [gridStanding, h]

/-- The planner with the charger withdrawn where the session has left ACTIVE (R121). -/
def chargerWithdrawn (left : Bool) (p : Planner) : Planner := if left then p.withdrawCharger else p

theorem plannerSessionChanged_eq (left : Bool) (s : State) : plannerSessionChanged left s =
    s.setPlanner (if gridStanding s = true then chargerWithdrawn left s.planner
      else (chargerWithdrawn left s.planner).cut 0) := by
  have hwithdrawn : (if left then s.setPlanner s.planner.withdrawCharger else s) =
      s.setPlanner (chargerWithdrawn left s.planner) := by cases left <;> rfl
  have hstanding : gridStanding (s.setPlanner (chargerWithdrawn left s.planner)) = gridStanding s := rfl
  rw [plannerSessionChanged, hwithdrawn, judgeStanding, hstanding]
  split <;> rfl

theorem localizerSessionLeft_stands {s : State}
    (h : ¬ (s.localizer.state = .dwell ∧ s.localizer.suspect = some .charger)) : localizerSessionLeft s = s := if_neg h

theorem sessionChanged_eq (left : Bool) (s : State) : sessionChanged left s =
    if left then localizerSessionLeft (plannerSessionChanged left s) else plannerSessionChanged left s := rfl

/-- Where no charger under test is handed over, only the plan follows a change of the live session. -/
theorem sessionChanged_plan {left : Bool} {s : State}
    (h : ¬ (left = true ∧ s.localizer.state = .dwell ∧ s.localizer.suspect = some .charger)) :
    sessionChanged left s = plannerSessionChanged left s := by
  cases left with
  | false => rfl
  | true =>
    have hlocalizer : (plannerSessionChanged true s).localizer = s.localizer := by simp
    exact localizerSessionLeft_stands (by rw [hlocalizer]; exact fun hdwell => h ⟨rfl, hdwell⟩)

/-- The planner after a change is that of the planner's own part, or withdrawn from. -/
theorem sessionChanged_withdraws (left : Bool) (s : State) :
    Withdraws (plannerSessionChanged left s).planner (sessionChanged left s).planner := by
  rw [sessionChanged_eq]
  split
  · exact (localizerSessionLeft_acts _).plantKept.withdraws
  · exact .refl _

theorem chargerWithdrawn_withdraws (left : Bool) (p : Planner) : Withdraws p (chargerWithdrawn left p) := by
  cases left with
  | true => exact .charger p
  | false => exact .refl p

theorem chargerWithdrawn_source (left : Bool) (p : Planner) : (chargerWithdrawn left p).source = p.source := by
  cases left with
  | true => rw [chargerWithdrawn, if_pos rfl, Planner.withdrawCharger, mapNotBegun_eq]
  | false => rfl

section
variable {left : Bool} {s : State} {now k : Fin 16} (hstate : s.planner.state = .running) (hslot : s.planner.slot = some now)
  (hk : now < k)
include hstate hslot hk

/-- A session that leaves ACTIVE leaves no charger command in the slots not yet begun. -/
theorem sessionChanged_command : ((sessionChanged true s).planner.plan[k]).command = 0 := by
  have hplanned : Withdraws s.planner.withdrawCharger (sessionChanged true s).planner := by
    refine .trans ?_ (sessionChanged_withdraws true s)
    rw [plannerSessionChanged_eq]
    dsimp only [State.setPlanner_planner]
    split
    · exact .refl _
    · exact .cut 0 _
  exact Nat.le_zero.1 ((hplanned.entry_le k).2.trans (withdrawCharger_entry hstate hslot hk).le)

/-- A lost standing leaves no budget in the slots of a GRID cycle not yet begun. -/
theorem sessionChanged_budget (hsource : s.planner.source = some .grid) (hlost : gridStanding s = false) :
    ((sessionChanged left s).planner.plan[k]).budget = 0 := by
  have hplanned : (plannerSessionChanged left s).planner = (chargerWithdrawn left s.planner).cut 0 := by
    rw [plannerSessionChanged_eq, if_neg (by rw [hlost]; exact Bool.false_ne_true)]
    rfl
  have hwithdrawn := chargerWithdrawn_withdraws left s.planner
  have hcut := cut_entry_budget 0 ((chargerWithdrawn_source left _).trans hsource) (hwithdrawn.keeps.1.trans hstate)
    (hwithdrawn.order.1.trans hslot) hk
  have hlater := ((sessionChanged_withdraws left s).entry_le k).1
  rw [hplanned] at hlater
  exact Nat.le_zero.1 (hlater.trans hcut)

end

/-! ### STOP (R21) -/

theorem permitted_stop (p : Port) (slot : Byte) (serial : BitVec 16) : permitted p (.stop slot serial) = true := by
  cases p <;> rfl

/-- The record of a session that STOP has ended. -/
def Session.stopped (p : Port) (r : Session) : Session :=
  { r with state := .closing, reasons := .empty, closeReason := some (stopReason p) }

theorem stopSession_eq (p : Port) (i : Fin 8) (s : State) : stopSession p i s =
    sessionChanged (decide ((s.session i).state = .active)) (s.setSession i ((s.session i).stopped p)) := by
  have hleft : leftActive i s (s.setSession i ((s.session i).stopped p)) = decide ((s.session i).state = .active) := by
    rw [leftActive_setSession]
    exact decide_eq_decide.2 (and_iff_left SessionState.noConfusion)
  rw [← hleft]
  rfl

/-- Settles O15: the record by STOP's own change, the rest by what follows every change of the live session. -/
theorem stopMovesALiveSessionToClosing : Obligations.StopMovesALiveSessionToClosing := by
  refine ⟨fun p s slot serial i hready hnamed => ?_, fun left s => ?_⟩
  · intro active onCharger stopped
    have hstopped : (s.session i).stopped p = stopped := by cases p <;> rfl
    have hserve : serve p s (.stop slot serial) = if (s.session i).state.isLive then
        accept (stopSession p i s) (byte SessionState.closing.code) else refuse s .wrongState := onSession_of_named hnamed _
    refine ⟨fun hlive => ?_, fun hdead => ?_⟩
    · have ht := stopSession_eq p i s
      rw [hstopped] at ht
      obtain ⟨houtside, hothers, hrecord⟩ := sessionChanged_setSession (decide active) s i stopped
      have hplan (h : ¬ (active ∧ onCharger)) : sessionChanged (decide active) (s.setSession i stopped) =
          plannerSessionChanged (decide active) (s.setSession i stopped) :=
        sessionChanged_plan fun hdwell => h ⟨of_decide_eq_true hdwell.1, hdwell.2⟩
      have hnone (halone : ∀ j, j ≠ i → (s.session j).state.isLive = false) :
          gridStanding (s.setSession i stopped) = false := by
        refine gridStanding_none (liveSlot_none.2 fun j => ?_)
        rw [State.setSession_at]
        split
        · rfl
        · next hne => exact halone j (Ne.symm hne)
      refine ⟨stopSession p i s, executes_accept hready (permitted_stop p slot serial) (hserve.trans (if_pos hlive)), ht, ?_⟩
      rw [ht]
      refine ⟨houtside, hothers, hrecord, fun h => ?_, fun hactive hstate now hslot k hk => ?_, fun halone =>
        ⟨fun h => ?_, fun hsource hstate now hslot k hk => ?_⟩⟩
      · rw [hplan h]; simp
      · rw [decide_eq_true hactive]
        exact sessionChanged_command (s := s.setSession i stopped) hstate hslot hk
      · rw [hplan h, plannerSessionChanged_eq, if_neg (by rw [hnone halone]; exact Bool.false_ne_true)]
        show (chargerWithdrawn (decide active) s.planner).cut 0 = _
        rw [chargerWithdrawn]
        simp only [decide_eq_true_eq]
      · have hbudget := sessionChanged_budget (left := decide active) (s := s.setSession i stopped) hstate hslot hk hsource
          (hnone halone)
        refine ⟨hbudget, fun hsound => ?_⟩
        have hafter := (stopSession_handles p hlive).plantKept.planSound hsound
        rw [ht] at hafter
        have hentry := (hafter.1 k).1
        rw [hbudget] at hentry
        omega
    · have hnot : ¬ (s.session i).state.isLive = true := by rw [hdead]; exact Bool.false_ne_true
      exact executes_refuse hready (permitted_stop p slot serial) (hserve.trans (if_neg hnot))
  · intro withdrawn stands
    have hwithdrawn : chargerWithdrawn left s.planner = withdrawn := rfl
    refine ⟨plannerSessionChanged left s, rfl, fun h => ?_, fun h => ?_⟩
    · rw [plannerSessionChanged_eq, if_pos ((gridStanding_iff s).2 h), hwithdrawn]; rfl
    · rw [plannerSessionChanged_eq, if_neg (mt (gridStanding_iff s).1 h), hwithdrawn]; rfl

end Sys2Proof.Machine
end

section
/-! Top-ups, their judgement and the credit retry (R11, R33, R39, R40), and ADJUST (R32). -/

namespace Sys2Proof.Machine

/-! ### A change of reasons, record and causes (R9) -/

/-- A live session's record after a change of its reasons. -/
theorem changeReasons_record {s : State} {i : Fin 8} (f : PauseReasons → PauseReasons)
    (hlive : (s.session i).state.isLive = true) : ∃ st, (changeReasons i f s).session i =
      { s.session i with reasons := f (s.session i).reasons, state := st } := by
  by_cases hsame : f (s.session i).reasons = (s.session i).reasons
  · exact ⟨_, by rw [changeReasons_unchanged hsame, hsame]⟩
  · exact ⟨_, (changeReasons_sessions hlive hsame).2⟩

theorem changeReasons_others {s : State} {i : Fin 8} (f : PauseReasons → PauseReasons)
    (hlive : (s.session i).state.isLive = true) : OtherSessionsSame i s (changeReasons i f s) := by
  by_cases hsame : f (s.session i).reasons = (s.session i).reasons
  · rw [changeReasons_unchanged hsame]; exact otherSessionsSame_refl i s
  · exact (changeReasons_sessions hlive hsame).1

theorem keepsPending_changeReasons (i : Fin 8) (f : PauseReasons → PauseReasons) (s : State) :
    KeepsPending s (changeReasons i f s) := by
  unfold changeReasons
  dsimp only
  split
  · exact (keepsPending_changeReasonsQuietly i f s).trans (keepsPending_localizerSessionLeft _)
  · exact keepsPending_changeReasonsQuietly i f s

/-! ### The judgement of a top-up (R11) -/

section
variable {i : Fin 8} {role : HoldRole} {grant : Nat} {s : State}

theorem judgeCredit_dead (h : (s.session i).state.isLive = false) : judgeCredit i role grant s = s := if_pos h

theorem judgeCredit_dry (hlive : (s.session i).state.isLive = true) (hgrant : grant = 0)
    (hdry : ((s.session i).holdOf role).getD 0 ≤ (s.session i).coveredCost role) : judgeCredit i role grant s =
      changeReasons i (fun p => { p with credit := true })
        (if (s.session i).reasons.credit then s else post .creditLow s) := by
  have hnot : ¬ (s.session i).state.isLive = false := by rw [hlive]; exact Bool.noConfusion
  exact (if_neg hnot).trans ((if_pos hgrant).trans (if_pos hdry))

theorem judgeCredit_covered (hlive : (s.session i).state.isLive = true) (hgrant : grant = 0)
    (hcovered : (s.session i).coveredCost role < ((s.session i).holdOf role).getD 0) : judgeCredit i role grant s = s := by
  have hnot : ¬ (s.session i).state.isLive = false := by rw [hlive]; exact Bool.noConfusion
  exact (if_neg hnot).trans ((if_pos hgrant).trans (if_neg hcovered.not_ge))

theorem judgeCredit_granted (hlive : (s.session i).state.isLive = true) (hgrant : 0 < grant) : judgeCredit i role grant s =
    if (s.session i).holdsAboveCosts then changeReasons i (fun p => { p with credit := false }) s else s := by
  have hnot : ¬ (s.session i).state.isLive = false := by rw [hlive]; exact Bool.noConfusion
  exact (if_neg hnot).trans (if_neg hgrant.ne')

/-- The judgement changes reasons and state of the session judged, and no other session. -/
theorem judgeCredit_record (i : Fin 8) (role : HoldRole) (grant : Nat) (s : State) :
    (∃ reasons st, (judgeCredit i role grant s).session i = { s.session i with reasons := reasons, state := st }) ∧
    OtherSessionsSame i s (judgeCredit i role grant s) ∧ KeepsPending s (judgeCredit i role grant s) := by
  have hstands : (∃ reasons st, s.session i = { s.session i with reasons := reasons, state := st }) ∧
      OtherSessionsSame i s s ∧ KeepsPending s s := ⟨⟨_, _, rfl⟩, otherSessionsSame_refl i s, .of_attention rfl⟩
  have hchanged (f : PauseReasons → PauseReasons) (u : State) (hu : u.sessions = s.sessions) (hpending : KeepsPending s u)
      (hlive : (s.session i).state.isLive = true) :
      (∃ reasons st, (changeReasons i f u).session i = { s.session i with reasons := reasons, state := st }) ∧
      OtherSessionsSame i s (changeReasons i f u) ∧ KeepsPending s (changeReasons i f u) := by
    have hsession := session_eq_of_sessions hu i
    obtain ⟨st, hrecord⟩ := changeReasons_record f (s := u) (by rw [hsession]; exact hlive)
    rw [hsession] at hrecord
    exact ⟨⟨_, st, hrecord⟩, (otherSessionsSame_of_sessions hu).trans (changeReasons_others f (by rw [hsession]; exact hlive)),
      hpending.trans (keepsPending_changeReasons i f u)⟩
  cases hlive : (s.session i).state.isLive with
  | false => rw [judgeCredit_dead hlive]; exact hstands
  | true =>
    rcases Nat.eq_zero_or_pos grant with hzero | hpos
    · by_cases hdry : ((s.session i).holdOf role).getD 0 ≤ (s.session i).coveredCost role
      · rw [judgeCredit_dry hlive hzero hdry]
        split
        · exact hchanged _ s rfl (.of_attention rfl) hlive
        · exact hchanged _ _ (by simp) (keepsPending_post _ s) hlive
      · rw [judgeCredit_covered hlive hzero (not_le.1 hdry)]; exact hstands
    · rw [judgeCredit_granted hlive hpos]
      split
      · exact hchanged _ s rfl (.of_attention rfl) hlive
      · exact hstands

end

/-! ### A top-up (R39) -/

/-- The account and the hold raised by a grant, not yet judged. -/
def grantHold (i : Fin 8) (role : HoldRole) (a : Fin 16) (s : State) : State :=
  (s.setAccount a { s.account a with held := (s.account a).held + topUpGrant (s.account a) }).setSession i
    ((s.session i).raiseHold role (topUpGrant (s.account a)))

theorem askTopUp_none {i : Fin 8} {role : HoldRole} {s : State} (h : (s.session i).accountOf role = none) :
    askTopUp i role s = s := by rw [askTopUp, h]

theorem askTopUp_some {i : Fin 8} {role : HoldRole} {s : State} {a : Fin 16} (h : (s.session i).accountOf role = some a) :
    askTopUp i role s = judgeCredit i role (topUpGrant (s.account a)) (grantHold i role a s) := by
  simp only [askTopUp, h]
  rfl

theorem grantHold_session (i : Fin 8) (role : HoldRole) (a : Fin 16) (s : State) :
    (grantHold i role a s).session i = (s.session i).raiseHold role (topUpGrant (s.account a)) := State.setSession_same _ i _

theorem grantHold_account (i : Fin 8) (role : HoldRole) (a b : Fin 16) (s : State) : (grantHold i role a s).account b =
    if a = b then { s.account a with held := (s.account a).held + topUpGrant (s.account a) } else s.account b :=
  State.setAccount_at s a b _

theorem Session.raiseHold_eq (r : Session) (role : HoldRole) (grant : Nat) : r.raiseHold role grant = { r with
    chargeHold := r.chargeHold + (if role = .charge then grant else 0)
    heatHold := r.heatHold.map (· + if role = .heat then grant else 0) } := by
  cases role with
  | charge => simp [Session.raiseHold]
  | heat => simp [Session.raiseHold]

theorem Session.raiseHold_zero (r : Session) (role : HoldRole) : r.raiseHold role 0 = r := by
  rw [Session.raiseHold_eq]
  simp

theorem judgeCredit_accounts (i : Fin 8) (role : HoldRole) (grant : Nat) (s : State) :
    (judgeCredit i role grant s).accounts = s.accounts := by simp

theorem account_of_accounts {s t : State} (h : t.accounts = s.accounts) (a : Fin 16) : t.account a = s.account a := by
  rw [State.account, h, ← State.account]

/-- The session that is topped up: holds, reasons and state may change. -/
theorem askTopUp_record {i : Fin 8} {role : HoldRole} {s : State} {a : Fin 16}
    (h : (s.session i).accountOf role = some a) : ∃ reasons st, (askTopUp i role s).session i =
      { (s.session i).raiseHold role (topUpGrant (s.account a)) with reasons := reasons, state := st } := by
  obtain ⟨⟨reasons, st, hrecord⟩, -, -⟩ := judgeCredit_record i role (topUpGrant (s.account a)) (grantHold i role a s)
  rw [grantHold_session] at hrecord
  exact ⟨reasons, st, by rw [askTopUp_some h, hrecord]⟩

theorem askTopUp_account {i : Fin 8} {role : HoldRole} {s : State} {a : Fin 16}
    (h : (s.session i).accountOf role = some a) (b : Fin 16) : (askTopUp i role s).account b =
      if a = b then { s.account a with held := (s.account a).held + topUpGrant (s.account a) } else s.account b := by
  rw [askTopUp_some h, account_of_accounts (judgeCredit_accounts _ _ _ _), grantHold_account]

theorem askTopUp_others (i : Fin 8) (role : HoldRole) (s : State) :
    OtherSessionsSame i s (askTopUp i role s) ∧ KeepsPending s (askTopUp i role s) := by
  cases h : (s.session i).accountOf role with
  | none => rw [askTopUp_none h]; exact ⟨otherSessionsSame_refl i s, .of_attention rfl⟩
  | some a =>
    obtain ⟨-, hothers, hpending⟩ := judgeCredit_record i role (topUpGrant (s.account a)) (grantHold i role a s)
    rw [askTopUp_some h]
    exact ⟨(otherSessionsSame_setSession (s.setAccount a _) i _).trans hothers, .trans (.of_attention rfl) hpending⟩

/-! ### Covered costs and the low-water level (R11, R40, R70) -/

theorem Session.coveredCost_charge (r : Session) : r.coveredCost .charge =
    if r.heatAccount = none then r.chargeCost + r.heatCost else r.chargeCost := by
  unfold Session.coveredCost
  cases r.heatAccount <;> rfl

theorem Session.holdsAboveCosts_iff (r : Session) : r.holdsAboveCosts = true ↔
    r.coveredCost .charge < r.chargeHold ∧ ∀ h ∈ r.heatHold, r.heatCost < h := by
  rw [Session.holdsAboveCosts, Bool.and_eq_true, decide_eq_true_eq]
  refine and_congr_right fun _ => ?_
  split
  · next hnone => rw [hnone]; exact iff_of_true rfl nofun
  · next h hsome =>
    rw [hsome, decide_eq_true_eq]
    exact ⟨fun hless _ heq => Option.some.inj heq ▸ hless, fun hall => hall h rfl⟩

theorem belowLowWater_iff (i : Fin 8) (role : HoldRole) (s : State) : belowLowWater i role s = true ↔
    ∃ a hold, (s.session i).accountOf role = some a ∧ (s.session i).holdOf role = some hold ∧
      hold < (s.session i).coveredCost role + (s.account a).holdStep / 4 := by
  unfold belowLowWater
  split
  · next a hold haccount hhold =>
    rw [decide_eq_true_eq]
    refine ⟨fun hlow => ⟨a, hold, haccount, hhold, by omega⟩, fun ⟨b, hold', hb, hh, hlow⟩ => ?_⟩
    rw [haccount] at hb
    rw [hhold] at hh
    obtain rfl := Option.some.inj hb
    obtain rfl := Option.some.inj hh
    omega
  · next hnone =>
    exact iff_of_false Bool.false_ne_true fun ⟨a, hold, haccount, hhold, _⟩ => hnone a hold haccount hhold

end Sys2Proof.Machine
end

section
/-! The statements about top-ups and ADJUST (R11, R32, R33, R39). -/

namespace Sys2Proof.Machine

/-! ### The grant (R39) -/

theorem topUpGrant_closed {a : Account} (h : a.state ≠ .opened) : topUpGrant a = 0 := if_pos h

theorem topUpGrant_bounded {a : Account} {v : Int} (hopened : a.state = .opened) (hsome : available a = some v) :
    topUpGrant a = min (if (a.holdStep : Int) ≤ v then a.holdStep else v.toNat) (549755813887 - a.held) := by
  rw [topUpGrant, if_neg (not_not_intro hopened), hsome]
  rfl

theorem topUpGrant_unbounded {a : Account} (hopened : a.state = .opened) (hnone : available a = none) :
    topUpGrant a = min a.holdStep (549755813887 - a.held) := by
  rw [topUpGrant, if_neg (not_not_intro hopened), hnone]
  rfl

/-! ### The judgement, for the session topped up (R11) -/

section
variable {i : Fin 8} {role : HoldRole} {a : Fin 16} {s : State} (haccount : (s.session i).accountOf role = some a)
include haccount

theorem askTopUp_costs : ((askTopUp i role s).session i).holdsAboveCosts =
    ((s.session i).raiseHold role (topUpGrant (s.account a))).holdsAboveCosts := by
  obtain ⟨reasons, st, hrecord⟩ := askTopUp_record haccount
  rw [hrecord]
  rfl

/-- A live session that is granted nothing while its hold is spent takes CREDIT. -/
theorem askTopUp_dry (hlive : (s.session i).state.isLive = true) (hgrant : topUpGrant (s.account a) = 0)
    (hdry : ((s.session i).holdOf role).getD 0 ≤ (s.session i).coveredCost role) :
    ((askTopUp i role s).session i).reasons = { (s.session i).reasons with credit := true } ∧
    ((s.session i).reasons.credit = false → (askTopUp i role s).attention.pendingCp.getLsbD 5 = true) := by
  have hsession : (grantHold i role a s).session i = s.session i := by
    rw [grantHold_session, hgrant, Session.raiseHold_zero]
  rw [askTopUp_some haccount, judgeCredit_dry (by rw [hsession]; exact hlive) hgrant (by rw [hsession]; exact hdry), hsession]
  generalize hu : (if (s.session i).reasons.credit then grantHold i role a s
    else post .creditLow (grantHold i role a s)) = u
  have husession : u.session i = s.session i := by
    rw [← hsession, ← hu]
    exact session_eq_of_sessions (by split <;> simp) i
  obtain ⟨st, hrecord⟩ := changeReasons_record (s := u) (fun p => { p with credit := true }) (by rw [husession]; exact hlive)
  refine ⟨by rw [hrecord, husession], fun hnew => ?_⟩
  refine keepsPending_changeReasons i _ u .cp 5 ?_
  rw [← hu, if_neg (by rw [hnew]; exact Bool.false_ne_true)]
  exact post_pending .cp .creditLow _

/-- A grant that leaves every hold above its cost takes CREDIT away. -/
theorem askTopUp_covers (hlive : (s.session i).state.isLive = true) (hgrant : 0 < topUpGrant (s.account a))
    (habove : ((askTopUp i role s).session i).holdsAboveCosts = true) :
    ((askTopUp i role s).session i).reasons = { (s.session i).reasons with credit := false } := by
  rw [askTopUp_costs haccount] at habove
  have hsession := grantHold_session i role a s
  have hstate : ((grantHold i role a s).session i).state.isLive = true := by rw [hsession]; simpa using hlive
  rw [askTopUp_some haccount, judgeCredit_granted hstate hgrant, if_pos (by rw [hsession]; exact habove)]
  obtain ⟨st, hrecord⟩ := changeReasons_record (fun p => { p with credit := false }) hstate
  rw [hrecord, hsession, Session.raiseHold_eq]

/-- Where nothing is judged only account and hold are raised. -/
theorem askTopUp_stands (h : (s.session i).state.isLive = false ∨
      (topUpGrant (s.account a) = 0 ∧ (s.session i).coveredCost role < ((s.session i).holdOf role).getD 0) ∨
      (0 < topUpGrant (s.account a) ∧ ((askTopUp i role s).session i).holdsAboveCosts = false)) :
    askTopUp i role s = grantHold i role a s := by
  have hsession := grantHold_session i role a s
  have hstate : ((grantHold i role a s).session i).state = (s.session i).state := by rw [hsession]; simp
  rw [askTopUp_costs haccount] at h
  rw [askTopUp_some haccount]
  cases hlive : (s.session i).state.isLive with
  | false => exact judgeCredit_dead (by rw [hstate]; exact hlive)
  | true =>
    rcases h with hdead | ⟨hzero, hcovered⟩ | ⟨hpos, hbelow⟩
    · rw [hlive] at hdead; cases hdead
    · refine judgeCredit_covered (by rw [hstate]; exact hlive) hzero ?_
      rw [hsession, hzero, Session.raiseHold_zero]
      exact hcovered
    · rw [judgeCredit_granted (by rw [hstate]; exact hlive) hpos, hsession, hbelow]
      rfl

end

/-! ### The credit retry (R33) -/

/-- One hold's part of the credit retry. -/
def retryHold (a : Fin 16) (i : Fin 8) (role : HoldRole) (s : State) : State :=
  if (s.session i).accountOf role = some a ∧ belowLowWater i role s = true then askTopUp i role s else s

/-- A session that asks for the retry: live, with CREDIT. -/
def Asks (s : State) (i : Fin 8) : Prop := (s.session i).state.isLive = true ∧ (s.session i).reasons.credit = true

theorem retrySession_asks {a : Fin 16} {s : State} {i : Fin 8} (h : Asks s i) :
    retrySession a s i = retryHold a i .heat (retryHold a i .charge s) := by
  have hone (role : HoldRole) (t : State) : (if (t.session i).accountOf role = some a then checkHold i role t else t) =
      retryHold a i role t := by
    unfold retryHold checkHold
    split
    · next haccount => simp only [haccount, true_and]
    · next hother => rw [if_neg fun hboth => hother hboth.1]
  simp only [retrySession, h.1, h.2, Bool.and_self, if_true, hone]

theorem retrySession_silent {a : Fin 16} {s : State} {i : Fin 8} (h : ¬ Asks s i) : retrySession a s i = s := by
  refine if_neg fun hboth => h ?_
  exact Bool.and_eq_true_iff.1 hboth

theorem retryHold_other {a : Fin 16} {i : Fin 8} {role : HoldRole} {s : State} (h : (s.session i).accountOf role ≠ some a) :
    retryHold a i role s = s := if_neg fun hboth => h hboth.1

/-- The session retried keeps its slot's place: other sessions stay. -/
theorem retrySession_others (a : Fin 16) (s : State) (i : Fin 8) : OtherSessionsSame i s (retrySession a s i) := by
  have hone (role : HoldRole) (t : State) : OtherSessionsSame i t (retryHold a i role t) := by
    unfold retryHold
    split
    · exact (askTopUp_others i role t).1
    · exact otherSessionsSame_refl i t
  by_cases h : Asks s i
  · rw [retrySession_asks h]; exact (hone .charge s).trans (hone .heat _)
  · rw [retrySession_silent h]; exact otherSessionsSame_refl i s

theorem foldl_retrySession_silent {a : Fin 16} {s : State} {l : List (Fin 8)} (h : ∀ i ∈ l, retrySession a s i = s) :
    l.foldl (retrySession a) s = s := by
  induction l with
  | nil => rfl
  | cons i rest ih =>
    obtain ⟨hi, hrest⟩ := List.forall_mem_cons.1 h
    rw [List.foldl_cons, hi, ih hrest]

/-- With one live session the retry is that session's part. -/
theorem creditRetry_alone {a : Fin 16} {s : State} {i : Fin 8} (halone : ∀ j, j ≠ i → (s.session j).state.isLive = false) :
    creditRetry a s = retrySession a s i := by
  have hsilent (t : State) (ht : ∀ j, j ≠ i → t.session j = s.session j) (j : Fin 8) (hj : j ≠ i) : retrySession a t j = t :=
    retrySession_silent fun hasks => by
      have hlive := hasks.1
      rw [ht j hj, halone j hj] at hlive
      cases hlive
  obtain ⟨front, back, hsplit⟩ := List.append_of_mem (List.mem_finRange i)
  have hnodup : (i :: (front ++ back)).Nodup := List.nodup_middle.1 (hsplit ▸ List.nodup_finRange 8)
  have hmem := (List.nodup_cons.1 hnodup).1
  have hne (j : Fin 8) (hj : j ∈ front ++ back) : j ≠ i := fun heq => hmem (heq ▸ hj)
  rw [creditRetry, hsplit, List.foldl_append, List.foldl_cons,
    foldl_retrySession_silent fun j hj => hsilent s (fun _ _ => rfl) j (hne j (List.mem_append_left _ hj))]
  exact foldl_retrySession_silent fun j hj => hsilent _ (retrySession_others a s i).1 j (hne j (List.mem_append_right _ hj))

/-- Settles O24: the grant by its cases, the judgement by the lemmas above, the retry for its one session. -/
theorem topUp : Obligations.TopUp := by
  refine ⟨fun a => ⟨topUpGrant_closed, fun v => topUpGrant_bounded, topUpGrant_unbounded⟩, fun i role a s haccount => ?_,
    fun i s => ?_, fun a s => ?_⟩
  · intro g t
    obtain ⟨reasons, st, hrecord⟩ := askTopUp_record haccount
    have hsession : t.session i = { (s.session i).raiseHold role g with reasons := reasons, state := st } := hrecord
    rw [Session.raiseHold_eq] at hsession
    have hcharge := congrArg Session.chargeHold hsession
    have hheat := congrArg Session.heatHold hsession
    refine ⟨(askTopUp_account haccount a).trans (if_pos rfl), fun b hb => (askTopUp_account haccount b).trans (if_neg hb.symm),
      hcharge, hheat, by rw [hsession], by rw [hsession], askTopUp_dry haccount,
      askTopUp_covers haccount, fun h => ?_⟩
    have hstands : t = grantHold i role a s := askTopUp_stands haccount h
    rw [hstands, grantHold_session, Session.raiseHold_eq]
    exact ⟨rfl, rfl, rfl, rfl, rfl⟩
  · intro r
    exact ⟨rfl, rfl, rfl, rfl, rfl, r.coveredCost_charge, r.holdsAboveCosts_iff, fun role => belowLowWater_iff i role s⟩
  · intro asks named
    refine ⟨fun hnone => foldl_retrySession_silent fun i _ => ?_, fun i hasks halone => ?_⟩
    · by_cases hasks : Asks s i
      · have hother := hnone i hasks
        have hcharge : retryHold a i .charge s = s := retryHold_other fun h => hother (.inl (Option.some.inj h))
        have hheat : retryHold a i .heat s = s := retryHold_other fun h => hother (.inr h)
        rw [retrySession_asks hasks, hcharge, hheat]
      · exact retrySession_silent hasks
    · intro low
      rw [creditRetry_alone halone]
      exact retrySession_asks hasks

/-! ### ADJUST (R32) -/

/-- From one state to the other only held amounts have risen, and those of account `a` alone. -/
def Raised (a : Fin 16) (s t : State) : Prop :=
  ∀ c, ∃ held, t.account c = { s.account c with held := held } ∧ (s.account c).held ≤ held ∧
    (c ≠ a → held = (s.account c).held)

theorem Raised.refl (a : Fin 16) (s : State) : Raised a s s := fun _ => ⟨_, rfl, le_refl _, fun _ => rfl⟩

theorem Raised.trans {a : Fin 16} {s t u : State} (h : Raised a s t) (h' : Raised a t u) : Raised a s u := by
  intro c
  obtain ⟨held, heq, hle, hother⟩ := h c
  obtain ⟨held', heq', hle', hother'⟩ := h' c
  rw [heq] at heq' hle' hother'
  exact ⟨held', heq', hle.trans hle', fun hc => (hother' hc).trans (hother hc)⟩

theorem raised_retryHold (a : Fin 16) (i : Fin 8) (role : HoldRole) (s : State) : Raised a s (retryHold a i role s) := by
  unfold retryHold
  split
  · next h =>
    intro c
    rw [askTopUp_account h.1]
    split
    · next hc => subst hc; exact ⟨_, rfl, Nat.le_add_right _ _, fun hne => absurd rfl hne⟩
    · exact ⟨_, rfl, le_refl _, fun _ => rfl⟩
  · exact .refl a s

theorem raised_creditRetry (a : Fin 16) (s : State) : Raised a s (creditRetry a s) := by
  refine foldl_keeps (P := Raised a s) (fun u i hu => hu.trans ?_) _ (.refl a s)
  by_cases h : Asks u i
  · rw [retrySession_asks h]; exact (raised_retryHold a i .charge u).trans (raised_retryHold a i .heat _)
  · rw [retrySession_silent h]; exact .refl a u

theorem flagC_eq (r : Account) : flagC r = match available r with | none => false | some v => decide (v < 0) := by
  unfold flagC
  cases available r <;> rfl

theorem adjustFlags_eq {r : Account} {sum : Int} (h : r.balance = saturateMoney sum) : adjustFlags r sum =
    mask [decide (saturateMoney sum = 0), decide (saturateMoney sum < 0), decide (saturateMoney sum ≠ sum), flagC r] := by
  have hz : flagZ r = decide (saturateMoney sum = 0) := by rw [← h]; rfl
  have hn : flagN r = decide (saturateMoney sum < 0) := by rw [← h]; rfl
  have hv : flagV sum = decide (saturateMoney sum ≠ sum) := by
    rw [Bool.eq_iff_iff, decide_eq_true_eq]; exact bne_iff_ne
  rw [adjustFlags, hz, hn, hv]

/-- The state that an ADJUST of account `a` to `balance` leaves. -/
def adjusted (a : Fin 16) (balance : Int) (s : State) : State :=
  if (s.account a).balance < balance then creditRetry a (s.setAccount a { s.account a with balance := balance })
  else s.setAccount a { s.account a with balance := balance }

theorem adjusted_raised (a : Fin 16) (balance : Int) (s : State) :
    Raised a (s.setAccount a { s.account a with balance := balance }) (adjusted a balance s) := by
  unfold adjusted
  split
  · exact raised_creditRetry a _
  · exact .refl a _

theorem requestAdjust_eq {b : Byte} {id : BitVec 32} {amount : BitVec 40} {a : Fin 16} {s : State}
    (hnamed : NamesAccount s b id a) : requestAdjust b id amount s =
      let sum := (s.account a).balance + amount.toInt
      let t := adjusted a (saturateMoney sum) s
      accept t (money (t.account a).balance ++ money (availableReport (t.account a)) ++
        byte (adjustFlags (t.account a) sum)) := by
  have hbalance (v : Int) : ((s.setAccount a { s.account a with balance := v }).account a).balance = v := by
    rw [State.setAccount_same]
  rw [requestAdjust, onAccount_of_named hnamed]
  simp only [adjustAccount, hbalance]
  rfl

/-- Settles O22: the balance and, where it rises, the credit retry, which raises held amounts alone. -/
theorem adjustMovesTheBalance : Obligations.AdjustMovesTheBalance := by
  intro s b id amount a hready hnamed sum
  have hraised := adjusted_raised a (saturateMoney sum) s
  have hbalance : ((adjusted a (saturateMoney sum) s).account a).balance = saturateMoney sum := by
    obtain ⟨held, heq, -, -⟩ := hraised a
    rw [heq, State.setAccount_same]
  refine ⟨adjusted a (saturateMoney sum) s, executes_accept hready rfl ?_, fun hle => if_neg hle.not_gt, fun hlt => if_pos hlt,
    fun c => ?_, ?_⟩
  · rw [serve, requestAdjust_eq hnamed]
    dsimp only
    rw [adjustFlags_eq hbalance, hbalance, flagC_eq] <;> rfl
  · obtain ⟨held, heq, hle, hother⟩ := hraised c
    rw [State.setAccount_at] at heq hle hother
    rw [heq]
    by_cases hc : a = c
    · subst hc
      rw [if_pos rfl] at hle hother ⊢
      exact ⟨(if_pos rfl).symm, rfl, rfl, rfl, rfl, rfl, rfl, hle, hother⟩
    · rw [if_neg hc] at hle hother ⊢
      exact ⟨(if_neg (Ne.symm hc)).symm, rfl, rfl, rfl, rfl, rfl, rfl, hle, hother⟩
  · unfold adjusted
    split <;> simp

end Sys2Proof.Machine
end

section
/-! Chains: the walk along next, its validation, and SEAL_CHAIN and UNSEAL_CHAIN (R50, R51; log 12). -/

namespace Sys2Proof.Machine

/-! ### The walk (R46, R50) -/

section
variable (t : TariffStore) (c : Fin 4) (head : Fin 32)

/-- The band reached after `j` steps along next. -/
def reachedBand (j : Nat) : Fin 32 := (fun b : Fin 32 => t.bands[b].next)^[j] head

/-- The band reached by step `j` is USED and tagged with the chain. -/
def WithinChain (j : Nat) : Prop :=
  t.bands[reachedBand t head j].state = .used ∧ t.bands[reachedBand t head j].tag = c

/-- Step `j` of `n` reaches a band not met before, the last step the head again. -/
def FreshStep (n j : Nat) : Prop :=
  if j = n then reachedBand t head j = head else ∀ k, k < j → reachedBand t head j ≠ reachedBand t head k

theorem reachedBand_succ (j : Nat) : reachedBand t head (j + 1) = t.bands[reachedBand t head j].next :=
  Function.iterate_succ_apply' _ j head

theorem reachedBand_add (i j : Nat) : reachedBand t (reachedBand t head i) j = reachedBand t head (i + j) := by
  rw [reachedBand, reachedBand, reachedBand, Nat.add_comm, Function.iterate_add_apply]

theorem walkBands_eq (n : Nat) : ∀ b, walkBands t.bands n b = (List.range n).map (reachedBand t b) := by
  induction n with
  | zero => exact fun _ => rfl
  | succ n ih =>
    intro b
    rw [walkBands, ih, List.range_succ_eq_map, List.map_cons, List.map_map]
    rfl

theorem isDescent_reached (j : Nat) : isDescent t (reachedBand t head j) =
    decide (t.bands[reachedBand t head (j + 1)].start ≤ t.bands[reachedBand t head j].start) := by
  simp only [isDescent, reachedBand_succ]

end

section
variable {t : TariffStore} {c : Fin 4} {head : Fin 32}

theorem cycleBands_eq (hhead : t.chains[c].head = some head) :
    cycleBands t c = (List.range t.chains[c].bandCount).map (reachedBand t head) := by
  rw [cycleBands, hhead]
  exact walkBands_eq t _ head

/-- The steps of the walk at which a descent begins. -/
def descentSteps (t : TariffStore) (head : Fin 32) (n : Nat) : List Nat :=
  (List.range n).filter fun j =>
    decide (t.bands[reachedBand t head (j + 1)].start ≤ t.bands[reachedBand t head j].start)

theorem descents_eq (hhead : t.chains[c].head = some head) :
    descents t c = (descentSteps t head t.chains[c].bandCount).map (reachedBand t head) := by
  rw [descents, cycleBands_eq hhead, List.filter_map, descentSteps]
  refine congrArg (List.map (reachedBand t head)) (List.filter_congr fun j _ => isDescent_reached t head j)

/-! ### The steps of the validation (R50) -/

/-- What one step of the validation finds. -/
theorem checkLinks_step {j m : Nat} {visited : List (Fin 32)}
    (hvisited : ∀ x, x ∈ visited ↔ ∃ k, k < j + 1 ∧ reachedBand t head k = x) :
    (¬ WithinChain t c head (j + 1) →
      checkLinks t c head (m + 1) visited (reachedBand t head j) = some (.linkOut, reachedBand t head j)) ∧
    (WithinChain t c head (j + 1) → ¬ FreshStep t head (j + (m + 1)) (j + 1) →
      checkLinks t c head (m + 1) visited (reachedBand t head j) = some (.loop, reachedBand t head j)) ∧
    (WithinChain t c head (j + 1) → FreshStep t head (j + (m + 1)) (j + 1) →
      checkLinks t c head (m + 1) visited (reachedBand t head j) =
        checkLinks t c head m (reachedBand t head (j + 1) :: visited) (reachedBand t head (j + 1))) := by
  have hnext := reachedBand_succ t head j
  have hmem : reachedBand t head (j + 1) ∈ visited ↔ ¬ ∀ k, k < j + 1 → reachedBand t head (j + 1) ≠ reachedBand t head k := by
    rw [hvisited]
    push Not
    exact exists_congr fun k => and_congr_right fun _ => eq_comm
  have hwithin : WithinChain t c head (j + 1) ↔ ¬ (t.bands[reachedBand t head (j + 1)].state ≠ .used ∨
      t.bands[reachedBand t head (j + 1)].tag ≠ c) := by
    rw [not_or, not_not, not_not, WithinChain]
  simp only [checkLinks, ← hnext]
  refine ⟨fun hout => if_pos (not_not.1 (mt hwithin.2 hout)), fun hin hstale => ?_, fun hin hfresh => ?_⟩
  · rw [if_neg (hwithin.1 hin)]
    rcases Nat.eq_zero_or_pos m with rfl | hm
    · rw [FreshStep, if_pos rfl] at hstale
      rw [if_pos rfl, if_neg hstale]
    · rw [FreshStep, if_neg (by omega)] at hstale
      rw [if_neg hm.ne', if_pos (hmem.2 hstale)]
  · rw [if_neg (hwithin.1 hin)]
    rcases Nat.eq_zero_or_pos m with rfl | hm
    · rw [FreshStep, if_pos rfl] at hfresh
      rw [if_pos rfl, if_pos hfresh]
      rfl
    · rw [FreshStep, if_neg (by omega)] at hfresh
      rw [if_neg hm.ne', if_neg fun h => hmem.1 h hfresh]

theorem mem_visited_succ {j : Nat} {visited : List (Fin 32)}
    (hvisited : ∀ x, x ∈ visited ↔ ∃ k, k < j + 1 ∧ reachedBand t head k = x) (x : Fin 32) :
    x ∈ reachedBand t head (j + 1) :: visited ↔ ∃ k, k < j + 1 + 1 ∧ reachedBand t head k = x := by
  rw [List.mem_cons, hvisited]
  constructor
  · rintro (rfl | ⟨k, hk, rfl⟩)
    · exact ⟨j + 1, by omega, rfl⟩
    · exact ⟨k, by omega, rfl⟩
  · rintro ⟨k, hk, rfl⟩
    rcases Nat.lt_or_ge k (j + 1) with hless | hge
    · exact .inr ⟨k, hless, rfl⟩
    · exact .inl (by rw [show k = j + 1 by omega])

/-- Steps that all pass leave no failure. -/
theorem checkLinks_passes {m : Nat} : ∀ {j : Nat} {visited : List (Fin 32)},
    (∀ x, x ∈ visited ↔ ∃ k, k < j + 1 ∧ reachedBand t head k = x) →
    (∀ k, j < k → k ≤ j + m → WithinChain t c head k ∧ FreshStep t head (j + m) k) →
    checkLinks t c head m visited (reachedBand t head j) = none := by
  induction m with
  | zero => exact fun _ _ => rfl
  | succ m ih =>
    intro j visited hvisited hgood
    obtain ⟨hin, hfresh⟩ := hgood (j + 1) (by omega) (by omega)
    rw [(checkLinks_step hvisited).2.2 hin hfresh]
    refine ih (mem_visited_succ hvisited) fun k hk hkm => ?_
    rw [show j + 1 + m = j + (m + 1) by omega]
    exact hgood k (by omega) (by omega)

/-- The first step that does not pass is the failure. -/
theorem checkLinks_fails {m : Nat} : ∀ {j k : Nat} {visited : List (Fin 32)},
    (∀ x, x ∈ visited ↔ ∃ k, k < j + 1 ∧ reachedBand t head k = x) → j < k → k ≤ j + m →
    (∀ i, j < i → i < k → WithinChain t c head i ∧ FreshStep t head (j + m) i) →
    (¬ WithinChain t c head k →
      checkLinks t c head m visited (reachedBand t head j) = some (.linkOut, reachedBand t head (k - 1))) ∧
    (WithinChain t c head k → ¬ FreshStep t head (j + m) k →
      checkLinks t c head m visited (reachedBand t head j) = some (.loop, reachedBand t head (k - 1))) := by
  induction m with
  | zero => intro j k visited _ hjk hk; omega
  | succ m ih =>
    intro j k visited hvisited hjk hk hgood
    obtain ⟨hout, hstale, hpass⟩ := checkLinks_step (c := c) (m := m) hvisited
    rcases Nat.lt_or_ge (j + 1) k with hless | hge
    · obtain ⟨hin, hfresh⟩ := hgood (j + 1) (by omega) hless
      rw [hpass hin hfresh, show j + (m + 1) = j + 1 + m by omega]
      refine ih (mem_visited_succ hvisited) hless (by omega) fun i hi hik => ?_
      rw [show j + 1 + m = j + (m + 1) by omega]
      exact hgood i (by omega) hik
    · obtain rfl : k = j + 1 := by omega
      exact ⟨hout, hstale⟩

theorem mem_visited_start (x : Fin 32) : x ∈ [head] ↔ ∃ k, k < 0 + 1 ∧ reachedBand t head k = x := by
  rw [List.mem_singleton]
  constructor
  · rintro rfl; exact ⟨0, by omega, rfl⟩
  · rintro ⟨k, hk, rfl⟩; rw [show k = 0 by omega]; rfl

/-- Every step from the head on passes. -/
def AllPass (t : TariffStore) (c : Fin 4) (head : Fin 32) (n : Nat) : Prop :=
  ∀ j, 1 ≤ j → j ≤ n → WithinChain t c head j ∧ FreshStep t head n j

theorem checkLinks_start {n : Nat} (h : AllPass t c head n) : checkLinks t c head n [head] head = none := by
  refine checkLinks_passes (j := 0) mem_visited_start fun k hk hkn => ?_
  rw [Nat.zero_add] at hkn ⊢
  exact h k hk hkn

theorem checkLinks_start_fails {n k : Nat} (hk : 1 ≤ k) (hkn : k ≤ n)
    (hgood : ∀ i, 1 ≤ i → i < k → WithinChain t c head i ∧ FreshStep t head n i) :
    (¬ WithinChain t c head k → checkLinks t c head n [head] head = some (.linkOut, reachedBand t head (k - 1))) ∧
    (WithinChain t c head k → ¬ FreshStep t head n k →
      checkLinks t c head n [head] head = some (.loop, reachedBand t head (k - 1))) := by
  have hfails := checkLinks_fails (t := t) (c := c) (head := head) (m := n) (j := 0) (k := k) mem_visited_start hk (by omega)
    (by rw [Nat.zero_add]; exact hgood)
  rw [Nat.zero_add] at hfails
  exact hfails

/-- A validation without a failing step has every step passing. -/
theorem allPass_of_none {n : Nat} (h : checkLinks t c head n [head] head = none) : AllPass t c head n := by
  intro j
  induction j using Nat.strong_induction_on with
  | _ j ih =>
    intro hj hjn
    by_contra hbad
    obtain ⟨hout, hstale⟩ := checkLinks_start_fails (t := t) (c := c) (head := head) hj hjn
      fun i hi hij => ih i hij hi (by omega)
    by_cases hin : WithinChain t c head j
    · have hfails := hstale hin fun hfresh => hbad ⟨hin, hfresh⟩
      rw [h] at hfails; cases hfails
    · have hfails := hout hin
      rw [h] at hfails; cases hfails

/-! ### The validation (R50) -/

theorem validateChain_failure (hhead : t.chains[c].head = some head) {failure : ChainFailure × Fin 32}
    (h : checkLinks t c head t.chains[c].bandCount [head] head = some failure) : validateChain t c = .inl failure := by
  simp only [validateChain, hhead, h]

section
variable (hhead : t.chains[c].head = some head) (hpass : AllPass t c head t.chains[c].bandCount)
include hhead hpass

theorem validateChain_one {j : Nat} (hone : descentSteps t head t.chains[c].bandCount = [j]) :
    validateChain t c = .inr (reachedBand t head (j + 1)) := by
  have hdescents : descents t c = [reachedBand t head j] := by rw [descents_eq hhead, hone]; rfl
  simp only [validateChain, hhead, checkLinks_start hpass, hdescents]
  rw [reachedBand_succ]

theorem validateChain_two {i j : Nat} {rest : List Nat}
    (htwo : descentSteps t head t.chains[c].bandCount = i :: j :: rest) :
    validateChain t c = .inl (.order, reachedBand t head j) := by
  have hdescents : descents t c = reachedBand t head i :: reachedBand t head j :: rest.map (reachedBand t head) := by
    rw [descents_eq hhead, htwo]; rfl
  simp only [validateChain, hhead, checkLinks_start hpass, hdescents]

theorem validateChain_zero (hzero : descentSteps t head t.chains[c].bandCount = []) :
    validateChain t c = .inl (.order, head) := by
  have hdescents : descents t c = [] := by rw [descents_eq hhead, hzero]; rfl
  simp only [validateChain, hhead, checkLinks_start hpass, hdescents]

end

/-- A chain that validates is a walk whose steps all pass, with one descent. -/
theorem validateChain_inr {h : Fin 32} (hvalid : validateChain t c = .inr h) : ∃ head d, t.chains[c].head = some head ∧
    AllPass t c head t.chains[c].bandCount ∧ descentSteps t head t.chains[c].bandCount = [d] ∧
    h = reachedBand t head (d + 1) := by
  cases hhead : t.chains[c].head with
  | none => simp only [validateChain, hhead] at hvalid; cases hvalid
  | some head =>
    cases hlinks : checkLinks t c head t.chains[c].bandCount [head] head with
    | some failure => rw [validateChain_failure hhead hlinks] at hvalid; cases hvalid
    | none =>
      have hpass := allPass_of_none hlinks
      cases hsteps : descentSteps t head t.chains[c].bandCount with
      | nil => rw [validateChain_zero hhead hpass hsteps] at hvalid; cases hvalid
      | cons i rest =>
        cases rest with
        | nil =>
          rw [validateChain_one hhead hpass hsteps] at hvalid
          exact ⟨head, i, rfl, hpass, hsteps, (Sum.inr.inj hvalid).symm⟩
        | cons j rest => rw [validateChain_two hhead hpass hsteps] at hvalid; cases hvalid

end

end Sys2Proof.Machine
end

section
/-! Chains: what a validated chain is, and SEAL_CHAIN and UNSEAL_CHAIN themselves (R50, R51; log 12). -/

namespace Sys2Proof.Machine

/-! ### One cycle, rising but for one step (R50) -/

section
variable {t : TariffStore} {c : Fin 4} {head : Fin 32} {n : Nat} (hpass : AllPass t c head n)
include hpass

theorem AllPass.closes (hpos : 1 ≤ n) : reachedBand t head n = head := by
  obtain ⟨-, hfresh⟩ := hpass n hpos le_rfl
  rwa [FreshStep, if_pos rfl] at hfresh

theorem AllPass.period (hpos : 1 ≤ n) (k : Nat) : reachedBand t head (n + k) = reachedBand t head k := by
  rw [← reachedBand_add, hpass.closes hpos]

theorem AllPass.distinct {i j : Nat} (hij : i < j) (hjn : j < n) : reachedBand t head j ≠ reachedBand t head i := by
  obtain ⟨-, hfresh⟩ := hpass j (by omega) hjn.le
  rw [FreshStep, if_neg hjn.ne] at hfresh
  exact hfresh i hij

theorem AllPass.nodup : ((List.range n).map (reachedBand t head)).Nodup := by
  refine List.pairwise_map.2 (List.pairwise_lt_range.imp_of_mem fun _ hj hij => ?_)
  exact (hpass.distinct hij (List.mem_range.1 hj)).symm

theorem AllPass.within {j : Nat} (hjn : j < n) : WithinChain t c head j := by
  rcases Nat.eq_zero_or_pos j with rfl | hj
  · obtain ⟨hlast, -⟩ := hpass n (by omega) le_rfl
    simp only [WithinChain, hpass.closes (show 1 ≤ n by omega)] at hlast
    exact hlast
  · exact (hpass j hj hjn.le).1

theorem AllPass.mem (hpos : 1 ≤ n) {j : Nat} (hj : j ≤ n) :
    reachedBand t head j ∈ (List.range n).map (reachedBand t head) := by
  rcases hj.lt_or_eq with hless | rfl
  · exact List.mem_map_of_mem (List.mem_range.2 hless)
  · rw [hpass.closes hpos]
    exact List.mem_map.2 ⟨0, List.mem_range.2 hpos, rfl⟩

/-- From the band after the only descent on, every step but the last of the round rises. -/
theorem AllPass.rises_after {d : Nat} (hone : descentSteps t head n = [d]) {j : Nat} (hj : j + 1 < n) :
    t.bands[reachedBand t (reachedBand t head (d + 1)) j].start <
      t.bands[reachedBand t (reachedBand t head (d + 1)) (j + 1)].start := by
  have hrises {k : Nat} (hk : k < n) (hkd : k ≠ d) :
      t.bands[reachedBand t head k].start < t.bands[reachedBand t head (k + 1)].start := by
    by_contra hnot
    have hmem : k ∈ descentSteps t head n :=
      List.mem_filter.2 ⟨List.mem_range.2 hk, decide_eq_true (not_lt.1 hnot)⟩
    rw [hone, List.mem_singleton] at hmem
    exact hkd hmem
  have hd : d < n := by
    have hmem : d ∈ descentSteps t head n := by rw [hone]; exact List.mem_singleton_self d
    exact List.mem_range.1 (List.mem_filter.1 hmem).1
  simp only [reachedBand_add]
  rcases Nat.lt_or_ge (d + 1 + j) n with hless | hge
  · exact hrises hless (by omega)
  · obtain ⟨k, hk⟩ := Nat.exists_eq_add_of_le hge
    have hround (i : Nat) : reachedBand t head (d + 1 + (j + i)) = reachedBand t head (k + i) := by
      rw [← Nat.add_assoc, hk, Nat.add_assoc, hpass.period (by omega)]
    simp only [hround 1, show reachedBand t head (d + 1 + j) = reachedBand t head k from hround 0]
    exact hrises (by omega) (by omega)

end

/-- What rises at every step rises from any earlier index to any later one. -/
theorem pairwise_range_of_steps {f : Nat → Nat} {n : Nat} (hsteps : ∀ j, j + 1 < n → f j < f (j + 1)) :
    (List.range n).Pairwise fun i j => f i < f j := by
  have hlater (i j : Nat) (hij : i + 1 ≤ j) (hjn : j < n) : f i < f j := by
    induction j, hij using Nat.le_induction with
    | base => exact hsteps i hjn
    | succ j hij ih => exact (ih (by omega)).trans (hsteps j hjn)
  exact List.pairwise_lt_range.imp_of_mem fun _ hj hij => hlater _ _ hij (List.mem_range.1 hj)

/-! ### The chain after SEAL_CHAIN (R50) -/

section
variable {t : TariffStore} {c : Fin 4} {h : Fin 32} (hvalid : validateChain t c = .inr h)
include hvalid

theorem validateChain_cycle : (cycleBands t c).Nodup ∧ (cycleBands t c).length = t.chains[c].bandCount ∧
    (∀ b ∈ cycleBands t c, t.bands[b].state = .used ∧ t.bands[b].tag = c ∧ t.bands[b].next ∈ cycleBands t c) ∧
    ∃ d, (cycleBands t c).filter (fun b => decide (t.bands[t.bands[b].next].start ≤ t.bands[b].start)) = [d] ∧
      h = t.bands[d].next := by
  obtain ⟨head, d, hhead, hpass, hone, rfl⟩ := validateChain_inr hvalid
  have hdescents : descents t c = [reachedBand t head d] := by rw [descents_eq hhead, hone]; rfl
  rw [cycleBands_eq hhead] at *
  refine ⟨hpass.nodup, by rw [List.length_map, List.length_range], fun b hb => ?_,
    reachedBand t head d, ?_, reachedBand_succ t head d⟩
  · obtain ⟨j, hj, rfl⟩ := List.mem_map.1 hb
    have hjn := List.mem_range.1 hj
    obtain ⟨hused, htag⟩ := hpass.within hjn
    refine ⟨hused, htag, ?_⟩
    rw [← reachedBand_succ]
    exact hpass.mem (by omega) hjn
  · rw [descents, cycleBands_eq hhead] at hdescents
    exact hdescents

/-- A chain headed by the band its validation gives is walked in rising starts. -/
theorem cycleBands_rise {u : TariffStore} (hbands : u.bands = t.bands) (hhead : u.chains[c].head = some h)
    (hcount : u.chains[c].bandCount = t.chains[c].bandCount) :
    (cycleBands u c).length = t.chains[c].bandCount ∧ h ∈ cycleBands u c ∧
      (cycleBands u c).Pairwise fun x y => u.bands[x].start < u.bands[y].start := by
  obtain ⟨head, d, -, hpass, hone, rfl⟩ := validateChain_inr hvalid
  have hpos : 0 < t.chains[c].bandCount := by
    have hmem : d ∈ descentSteps t head t.chains[c].bandCount := by rw [hone]; exact List.mem_singleton_self d
    exact (Nat.zero_le d).trans_lt (List.mem_range.1 (List.mem_filter.1 hmem).1)
  have hreached : reachedBand u (reachedBand t head (d + 1)) = reachedBand t (reachedBand t head (d + 1)) := by
    funext j; unfold reachedBand; rw [hbands]
  rw [cycleBands_eq hhead, hcount, hreached, hbands]
  refine ⟨by rw [List.length_map, List.length_range], List.mem_map.2 ⟨0, List.mem_range.2 hpos, rfl⟩, ?_⟩
  exact List.pairwise_map.2 (pairwise_range_of_steps fun j hj => hpass.rises_after hone hj)

end

/-! ### SEAL_CHAIN and UNSEAL_CHAIN (R50, R51) -/

theorem within?_id {id : BitVec 32} (hid : id ≠ 0) : within? 1 Config.countMax id.toNat = some id.toNat := by
  have hpos : id.toNat ≠ 0 := fun h => hid (BitVec.eq_of_toNat_eq h)
  exact within?_eq_some (Nat.pos_of_ne_zero hpos) (Nat.le_of_lt_succ id.isLt)

theorem chainRequests_bad {s : State} {c : Byte} {id : BitVec 32} (hbad : 4 ≤ c.toNat ∨ id = 0) :
    requestSealChain c id s = refuse s .badValue ∧ requestUnsealChain c id s = refuse s .badValue := by
  rcases hbad with hc | rfl
  · simp only [requestSealChain, requestUnsealChain, index?_eq_none hc, and_self]
  · have hzero : within? 1 Config.countMax (0 : BitVec 32).toNat = none := rfl
    simp only [requestSealChain, requestUnsealChain, hzero]
    cases index? 4 c <;> exact ⟨rfl, rfl⟩

section
variable {s : State} {c : Fin 4} {id : BitVec 32} (hid : id ≠ 0)
include hid

theorem requestSealChain_wrongState (hstate : (s.chain c).state ≠ .opened) :
    requestSealChain (index c.val) id s = refuse s .wrongState := by
  simp only [requestSealChain, index?_chain, within?_id hid, if_pos hstate]

theorem requestSealChain_badChain {k : ChainFailure} {b : Fin 32} (hstate : (s.chain c).state = .opened)
    (hvalid : validateChain s.tariff c = .inl (k, b)) :
    requestSealChain (index c.val) id s = ⟨s, .badChain, byte k.code ++ byte b.val⟩ := by
  simp only [requestSealChain, index?_chain, within?_id hid, if_neg (not_not.2 hstate), hvalid]

theorem requestSealChain_sealed {h : Fin 32} (hstate : (s.chain c).state = .opened)
    (hvalid : validateChain s.tariff c = .inr h) : requestSealChain (index c.val) id s = accept
      (s.setChain c { s.chain c with state := .sealed, id := some id.toNat, head := some h, lockCount := 0 })
      (byte 3 ++ byte h.val ++ byte (s.chain c).bandCount ++ quad id.toNat) := by
  simp only [requestSealChain, index?_chain, within?_id hid, if_neg (not_not.2 hstate), hvalid]
  rfl

theorem requestUnsealChain_eq : requestUnsealChain (index c.val) id s =
    if (s.chain c).state ≠ .sealed then refuse s .wrongState
    else if (s.chain c).id ≠ some id.toNat then refuse s .stale
    else if (s.chain c).lockCount ≠ 0 then refuse s .inUse
    else accept (s.setChain c { s.chain c with state := .opened, id := none })
      (byte (if (s.chain c).head.isSome then 1 else 0) ++ byte 1 ++ byte (((s.chain c).head.map Fin.val).getD 0)) := by
  simp only [requestUnsealChain, index?_chain, within?_id hid, mask_singleton]
  rfl

end

/-- The part of SealAndUnsealChain that speaks of the two requests. -/
theorem chainRequests_execute {s : State} {c : Fin 4} {id : BitVec 32} (hready : Ready .bp s) (hid : id ≠ 0) :
    ((s.chain c).state ≠ .opened → Executes .bp (.sealChain (index c.val) id) .wrongState [] s s) ∧
    (∀ k b, (s.chain c).state = .opened → validateChain s.tariff c = .inl (k, b) →
      Executes .bp (.sealChain (index c.val) id) .badChain (byte k.code ++ byte b.val) s s) ∧
    (∀ h, (s.chain c).state = .opened → validateChain s.tariff c = .inr h →
      Executes .bp (.sealChain (index c.val) id) .ok
        (byte 3 ++ byte h.val ++ byte (s.chain c).bandCount ++ quad id.toNat) s (s.setChain c
          { s.chain c with state := .sealed, id := some id.toNat, head := some h, lockCount := 0 })) :=
  ⟨fun hstate => executes_refuse hready rfl (requestSealChain_wrongState hid hstate),
    fun _ _ hstate hvalid => executes_of_serve (r := .sealChain (index c.val) id) hready rfl
      (requestSealChain_badChain hid hstate hvalid),
    fun _ hstate hvalid => executes_accept hready rfl (requestSealChain_sealed hid hstate hvalid)⟩

/-- Settles O26: the validation as a walk, and the answers of the two requests. -/
theorem sealAndUnsealChain : Obligations.SealAndUnsealChain := by
  refine ⟨?_, ?_, fun t c h => validateChain_cycle, ?_⟩
  · intro s c id hready hbad
    obtain ⟨hseal, hunseal⟩ := chainRequests_bad (s := s) hbad
    exact ⟨executes_refuse hready rfl hseal, executes_refuse hready rfl hunseal⟩
  · intro s c id hready hid r q u
    obtain ⟨hwrong, hbad, hseal⟩ := chainRequests_execute (c := c) hready hid
    refine ⟨hwrong, hbad, fun h hstate hvalid => ⟨hseal h hstate hvalid, ?_⟩, ?_⟩
    · have hchain := State.setChain_same s c
        { r with state := .sealed, id := some id.toNat, head := some h, lockCount := 0 }
      exact cycleBands_rise hvalid rfl (congrArg Chain.head hchain)
        (congrArg Chain.bandCount hchain :)
    · have hserve : serve .bp s u = _ := requestUnsealChain_eq hid
      split
      · next hstate => exact executes_refuse hready rfl (hserve.trans (if_pos hstate))
      next hstate =>
      rw [if_neg hstate] at hserve
      split
      · next hstale => exact executes_refuse hready rfl (hserve.trans (if_pos hstale))
      next hstale =>
      rw [if_neg hstale] at hserve
      split
      · next hlocked => exact executes_refuse hready rfl (hserve.trans (if_pos hlocked))
      next hlocked => exact executes_accept hready rfl (hserve.trans (if_neg hlocked))
  · intro t c head hhead n reached within fresh descents
    refine ⟨cycleBands_eq hhead, fun j hj hjn hgood => ?_, fun hpass => ?_⟩
    · obtain ⟨hout, hstale⟩ := checkLinks_start_fails (t := t) (c := c) hj hjn hgood
      exact ⟨fun h => validateChain_failure hhead (hout h), fun hin h => validateChain_failure hhead (hstale hin h)⟩
    · exact ⟨fun j => validateChain_one hhead hpass, fun i j rest => validateChain_two hhead hpass,
        fun hzero => ⟨head, validateChain_zero hhead hpass hzero⟩⟩

end Sys2Proof.Machine
end

section
/-! The minute event: what the ageing and the occupancy charge do to each session, account and chain, in either order
(R20, R54, R56, R73). -/

namespace Sys2Proof.Machine

/-! ### The ageing (R20) -/

/-- A session's record after the ageing of a minute event. -/
def Session.afterMinute (lifetime : Nat) (r : Session) : Session := if r.aged.expired lifetime then .free else r.aged

theorem Session.aged_of_ne {r : Session} (h : r.state ≠ .authorized) : r.aged = r := if_neg h

theorem Session.authorized_of_expired {lifetime : Nat} {r : Session} (h : r.expired lifetime = true) :
    r.state = .authorized := by
  simp only [Session.expired, Bool.and_eq_true, beq_iff_eq] at h
  exact h.1.1

theorem Session.expired_of_ne {lifetime : Nat} {r : Session} (h : r.state ≠ .authorized) : r.expired lifetime = false :=
  Bool.eq_false_iff.2 fun hexpired => h (Session.authorized_of_expired hexpired)

theorem Session.afterMinute_of_ne {lifetime : Nat} {r : Session} (h : r.state ≠ .authorized) :
    r.afterMinute lifetime = r := by
  rw [Session.afterMinute, Session.aged_of_ne h, Session.expired_of_ne h]
  exact if_neg Bool.false_ne_true

theorem voidSession_onlyChains (i : Fin 8) (s : State) : OnlyChains s (voidSession i s) := by
  rw [voidSession_eq]
  exact ⟨_, by rw [← atBoth_tariff _ _ _ _ s]; rfl⟩

theorem voidIfExpired_onlyChains (s : State) (i : Fin 8) : OnlyChains s (voidIfExpired s i) := by
  unfold voidIfExpired
  split
  · exact voidSession_onlyChains i s
  · exact .of_eq rfl

theorem OnlyChains.lifetime {s t : State} (h : OnlyChains s t) : t.tariff.lifetime = s.tariff.lifetime := by
  obtain ⟨_, heq⟩ := h; rw [heq]

theorem voidIfExpired_session (s : State) (i j : Fin 8) : (voidIfExpired s i).session j =
    if i = j ∧ (s.session j).expired s.tariff.lifetime = true then .free else s.session j := by
  rw [voidIfExpired]
  by_cases hexpired : (s.session i).expired s.tariff.lifetime = true
  · rw [if_pos hexpired, voidSession_session]
    exact if_congr ⟨fun hij => ⟨hij, hij ▸ hexpired⟩, fun h => h.1⟩ rfl rfl
  · rw [if_neg hexpired, if_neg]
    rintro ⟨rfl, hnow⟩
    exact hexpired hnow

theorem foldl_voidIfExpired_session (l : List (Fin 8)) (j : Fin 8) : ∀ s : State, (l.foldl voidIfExpired s).session j =
    if j ∈ l ∧ (s.session j).expired s.tariff.lifetime = true then .free else s.session j := by
  induction l with
  | nil => exact fun s => (if_neg fun h => absurd h.1 List.not_mem_nil).symm
  | cons i rest ih =>
    intro s
    have hone := voidIfExpired_session s i j
    rw [List.foldl_cons, ih, (voidIfExpired_onlyChains s i).lifetime]
    by_cases hnow : i = j ∧ (s.session j).expired s.tariff.lifetime = true
    · rw [if_pos hnow] at hone
      rw [hone, ite_self, if_pos ⟨List.mem_cons.2 (.inl hnow.1.symm), hnow.2⟩]
    · rw [if_neg hnow] at hone
      rw [hone]
      refine if_congr (and_congr_left fun hexpired => ?_) rfl rfl
      rw [List.mem_cons]
      exact (or_iff_right fun hj => hnow ⟨hj.symm, hexpired⟩).symm

/-- The AUTHORIZED sessions as they are once their minutes have risen. -/
def withAged (s : State) : State :=
  s.setSessions { s.sessions with records := mapIndexed (fun _ r => r.aged) s.sessions.records }

theorem ageSessions_eq (s : State) : ageSessions s = (List.finRange 8).foldl voidIfExpired (withAged s) := rfl

theorem withAged_session (s : State) (j : Fin 8) : (withAged s).session j = (s.session j).aged :=
  mapIndexed_get (fun _ (r : Session) => r.aged) s.sessions.records j

theorem ageSessions_session (s : State) (j : Fin 8) :
    (ageSessions s).session j = (s.session j).afterMinute s.tariff.lifetime := by
  rw [ageSessions_eq, foldl_voidIfExpired_session, withAged_session]
  exact if_congr (and_iff_right (List.mem_finRange j)) rfl rfl

theorem keepsPending_voidIfExpired (s : State) (i : Fin 8) : KeepsPending s (voidIfExpired s i) := by
  unfold voidIfExpired
  split
  · rw [voidSession_eq]
    refine .trans (.of_attention ?_) (keepsPending_post _ _)
    show (releasedBoth (s.session i) s).attention = _
    rw [releasedBoth, atBoth_eq]; rfl
  · exact .of_attention rfl

theorem keepsPending_foldl_voidIfExpired (l : List (Fin 8)) (s : State) : KeepsPending s (l.foldl voidIfExpired s) :=
  foldl_keeps (P := KeepsPending s) (fun u i hu => hu.trans (keepsPending_voidIfExpired u i)) l (.of_attention rfl)

/-- A void is posted. -/
theorem foldl_voidIfExpired_posts (l : List (Fin 8)) {j : Fin 8} (hj : j ∈ l) : ∀ s : State,
    (s.session j).expired s.tariff.lifetime = true →
    ((l.foldl voidIfExpired s).attention.pendingOf .cp).getLsbD 4 = true := by
  induction l with
  | nil => exact absurd hj List.not_mem_nil
  | cons i rest ih =>
    intro s hexpired
    rw [List.foldl_cons]
    by_cases hij : i = j
    · subst hij
      refine keepsPending_foldl_voidIfExpired rest _ .cp 4 ?_
      rw [voidIfExpired, if_pos hexpired, voidSession_eq]
      exact post_pending .cp .sessionVoid _
    · refine ih ((List.mem_cons.1 hj).resolve_left (Ne.symm hij)) _ ?_
      rw [voidIfExpired_session, if_neg fun h => hij h.1, (voidIfExpired_onlyChains s i).lifetime]
      exact hexpired

/-- No AUTHORIZED session names the account. -/
def NoneHolds (a : Fin 16) (s : State) : Prop :=
  ∀ i, (s.session i).state = .authorized → (s.session i).chargeAccount ≠ a ∧ (s.session i).heatAccount ≠ some a

/-- No AUTHORIZED session is bound to the chain. -/
def NoneBound (c : Fin 4) (s : State) : Prop := ∀ i, (s.session i).state = .authorized → (s.session i).chain ≠ c

theorem atBoth_unnamed {c : Fin 16} {heat : Option (Fin 16)} {a : Fin 16} (hc : c ≠ a) (hheat : heat ≠ some a)
    (f g : Account → Account) (s : State) : (atBoth c heat f g s).account a = s.account a := by
  cases heat with
  | none => rw [atBoth, atAccount_account, if_neg hc]
  | some h => rw [atBoth, atAccount_account, if_neg fun heq => hheat (congrArg some heq), atAccount_account, if_neg hc]

/-- Voids leave the account that no AUTHORIZED session names, and go on naming none. -/
theorem voidIfExpired_account {a : Fin 16} (s : State) (i : Fin 8) (h : NoneHolds a s) :
    (voidIfExpired s i).account a = s.account a ∧ NoneHolds a (voidIfExpired s i) := by
  refine ⟨?_, fun j => ?_⟩
  · unfold voidIfExpired
    split
    · next hexpired =>
      obtain ⟨hcharge, hheat⟩ := h i (Session.authorized_of_expired hexpired)
      rw [voidSession_account]
      exact atBoth_unnamed hcharge hheat _ _ s
    · rfl
  · rw [voidIfExpired_session]
    split
    · exact nofun
    · exact h j

theorem voidIfExpired_chain {c : Fin 4} (s : State) (i : Fin 8) (h : NoneBound c s) :
    (voidIfExpired s i).chain c = s.chain c ∧ NoneBound c (voidIfExpired s i) := by
  refine ⟨?_, fun j => ?_⟩
  · unfold voidIfExpired
    split
    · next hexpired =>
      rw [voidSession_chain, unlockChain_chain, if_neg (h i (Session.authorized_of_expired hexpired))]
    · rfl
  · rw [voidIfExpired_session]
    split
    · exact nofun
    · exact h j

theorem Session.aged_eq (r : Session) : ∃ q, r.aged = { r with queuedMinutes := q } := by
  unfold Session.aged
  split
  · exact ⟨_, rfl⟩
  · exact ⟨_, rfl⟩

theorem ageSessions_account {a : Fin 16} {s : State} (h : NoneHolds a s) : (ageSessions s).account a = s.account a := by
  rw [ageSessions_eq]
  refine (foldl_keeps (P := fun u => u.account a = s.account a ∧ NoneHolds a u) (s := withAged s)
    (fun u i hu => ?_) (List.finRange 8) ⟨rfl, fun j => ?_⟩).1
  · obtain ⟨haccount, hnone⟩ := voidIfExpired_account u i hu.2
    exact ⟨haccount.trans hu.1, hnone⟩
  · obtain ⟨q, hq⟩ := (s.session j).aged_eq
    show ((withAged s).session j).state = _ → ((withAged s).session j).chargeAccount ≠ a ∧ _
    rw [withAged_session, hq]
    exact h j

theorem ageSessions_chain {c : Fin 4} {s : State} (h : NoneBound c s) : (ageSessions s).chain c = s.chain c := by
  rw [ageSessions_eq]
  refine (foldl_keeps (P := fun u => u.chain c = s.chain c ∧ NoneBound c u) (s := withAged s)
    (fun u i hu => ?_) (List.finRange 8) ⟨rfl, fun j => ?_⟩).1
  · obtain ⟨hchain, hnone⟩ := voidIfExpired_chain u i hu.2
    exact ⟨hchain.trans hu.1, hnone⟩
  · obtain ⟨q, hq⟩ := (s.session j).aged_eq
    show ((withAged s).session j).state = _ → ((withAged s).session j).chain ≠ c
    rw [withAged_session, hq]
    exact h j

theorem ageSessions_onlyChains (s : State) : OnlyChains s (ageSessions s) :=
  foldl_keeps (P := OnlyChains s) (s := withAged s) (fun u i hu => hu.trans (voidIfExpired_onlyChains u i)) (List.finRange 8)
    (.of_eq rfl)

theorem voidSession_nextSerial (i : Fin 8) (s : State) :
    (voidSession i s).sessions.nextSerial = s.sessions.nextSerial := by rw [voidSession_eq]; rfl

theorem ageSessions_nextSerial (s : State) : (ageSessions s).sessions.nextSerial = s.sessions.nextSerial := by
  rw [ageSessions_eq]
  refine foldl_keeps (P := fun u => u.sessions.nextSerial = s.sessions.nextSerial) (s := withAged s) (fun u i hu => ?_)
    (List.finRange 8) rfl
  unfold voidIfExpired
  split
  · rw [voidSession_nextSerial, hu]
  · exact hu

theorem ageSessions_posts {s : State} {j : Fin 8} (h : (s.session j).aged.expired s.tariff.lifetime = true) :
    ((ageSessions s).attention.pendingOf .cp).getLsbD 4 = true :=
  foldl_voidIfExpired_posts _ (List.mem_finRange j) (withAged s) (by rw [withAged_session]; exact h)

end Sys2Proof.Machine
end

section
/-! The minute event: the occupancy charge, and the event as a whole in either order of its parts (R54, R56, R57, R73). -/

namespace Sys2Proof.Machine

/-! ### The occupancy charge (R73) -/

/-- Two records of one session that differ at most in holds, reasons and state. -/
def Touched (r r' : Session) : Prop := ∃ charge heat reasons st,
  r' = { r with chargeHold := charge, heatHold := heat, reasons := reasons, state := st }

theorem Touched.refl (r : Session) : Touched r r := ⟨_, _, _, _, rfl⟩

theorem Touched.trans {r r' r'' : Session} : Touched r r' → Touched r' r'' → Touched r r''
  | ⟨_, _, _, _, h⟩, ⟨_, _, _, _, h'⟩ => ⟨_, _, _, _, by rw [h', h]⟩

theorem askTopUp_touched (i : Fin 8) (role : HoldRole) (s : State) : Touched (s.session i) ((askTopUp i role s).session i) := by
  cases haccount : (s.session i).accountOf role with
  | none => rw [askTopUp_none haccount]; exact .refl _
  | some a =>
    obtain ⟨reasons, st, hrecord⟩ := askTopUp_record haccount
    rw [hrecord, Session.raiseHold_eq]
    exact ⟨_, _, _, _, rfl⟩

/-- Neither account of the session is this one. -/
def Session.NamesNot (r : Session) (a : Fin 16) : Prop := r.chargeAccount ≠ a ∧ r.heatAccount ≠ some a

theorem Touched.namesNot {r r' : Session} {a : Fin 16} (h : Touched r r') (hnot : r.NamesNot a) : r'.NamesNot a := by
  obtain ⟨_, _, _, _, rfl⟩ := h; exact hnot

theorem askTopUp_unnamed {i : Fin 8} {s : State} {a : Fin 16} (role : HoldRole) (hnot : (s.session i).NamesNot a) :
    (askTopUp i role s).account a = s.account a := by
  cases haccount : (s.session i).accountOf role with
  | none => rw [askTopUp_none haccount]
  | some b =>
    rw [askTopUp_account haccount, if_neg]
    rintro rfl
    cases role with
    | charge => exact hnot.1 (Option.some.inj haccount)
    | heat => exact hnot.2 haccount

/-- What one operation on behalf of session `i` leaves: its record but for holds, reasons and state, other sessions, and
the accounts it does not name. -/
structure OnlyTouches (i : Fin 8) (s t : State) : Prop where
  record : Touched (s.session i) (t.session i)
  others : OtherSessionsSame i s t
  account : ∀ a, (s.session i).NamesNot a → t.account a = s.account a
  pending : KeepsPending s t

theorem OnlyTouches.refl (i : Fin 8) (s : State) : OnlyTouches i s s :=
  ⟨.refl _, otherSessionsSame_refl i s, fun _ _ => rfl, .of_attention rfl⟩

theorem OnlyTouches.trans {i : Fin 8} {s t u : State} (h : OnlyTouches i s t) (h' : OnlyTouches i t u) :
    OnlyTouches i s u :=
  ⟨h.record.trans h'.record, h.others.trans h'.others,
    fun a hnot => (h'.account a (h.record.namesNot hnot)).trans (h.account a hnot), h.pending.trans h'.pending⟩

theorem checkHold_onlyTouches (i : Fin 8) (role : HoldRole) (s : State) : OnlyTouches i s (checkHold i role s) := by
  unfold checkHold
  split
  · obtain ⟨hothers, hpending⟩ := askTopUp_others i role s
    exact ⟨askTopUp_touched i role s, hothers, fun a => askTopUp_unnamed role, hpending⟩
  · exact .refl i s

theorem checkLowWater_onlyTouches (i : Fin 8) (s : State) : OnlyTouches i s (checkLowWater i s) :=
  (checkHold_onlyTouches i .charge s).trans (checkHold_onlyTouches i .heat _)

/-- A record with one minute of occupancy at a rate. -/
def Session.occupied (rate : Nat) (r : Session) : Session := { r.addCost .charge rate with
  occupancyMinutes := min (r.occupancyMinutes + 1) Config.countMax }

section
variable (i : Fin 8) (rate : Nat) (s : State)

theorem chargeOccupancy_record : Touched ((s.session i).occupied rate) ((chargeOccupancy i rate s).session i) := by
  have h := (checkLowWater_onlyTouches i (s.setSession i ((s.session i).occupied rate))).record
  rwa [State.setSession_same] at h

theorem chargeOccupancy_others : OtherSessionsSame i s (chargeOccupancy i rate s) :=
  (otherSessionsSame_setSession s i _).trans (checkLowWater_onlyTouches i _).others

theorem chargeOccupancy_account {a : Fin 16} (hnot : (s.session i).NamesNot a) :
    (chargeOccupancy i rate s).account a = s.account a := by
  refine (checkLowWater_onlyTouches i (s.setSession i ((s.session i).occupied rate))).account a ?_
  rw [State.setSession_same]
  exact hnot

theorem keepsPending_chargeOccupancy : KeepsPending s (chargeOccupancy i rate s) :=
  .trans (t := s.setSession i ((s.session i).occupied rate)) (.of_attention rfl) (checkLowWater_onlyTouches i _).pending

end

/-! ### Both parts, in either order (R54; log 6) -/

/-- The session owes no occupancy at this minute event. -/
def NotDue (due : Option (Fin 8 × Nat)) (j : Fin 8) : Prop := ∀ rate, due ≠ some (j, rate)

/-- One of the two orders of the parts of a minute event. -/
def MinuteParts (due : Option (Fin 8 × Nat)) (s t : State) : Prop :=
  t = payOccupancy due (ageSessions s) ∨ t = ageSessions (payOccupancy due s)

theorem takeMinute_parts {s : State} {m : Nat} (h : s.tariff.calendar = some m) :
    MinuteParts (occupancyDue s) (dropChoice (advanceCalendar m s)) (takeMinute s) := by
  simp only [takeMinute, h]
  rcases perm_pair (minuteOrder_perm s) with horder | horder <;>
    simp only [horder, List.foldl_cons, List.foldl_nil, takeMinutePart]
  · exact .inl rfl
  · exact .inr rfl

section
variable {due : Option (Fin 8 × Nat)} {s t : State}

theorem payOccupancy_session {j : Fin 8} (h : NotDue due j) (s : State) :
    (payOccupancy due s).session j = s.session j := by
  cases due with
  | none => rfl
  | some pair =>
    obtain ⟨i, rate⟩ := pair
    refine (chargeOccupancy_others i rate s).1 j ?_
    rintro rfl
    exact h rate rfl

theorem keepsPending_payOccupancy (due : Option (Fin 8 × Nat)) (s : State) : KeepsPending s (payOccupancy due s) := by
  cases due with
  | none => exact .of_attention rfl
  | some pair => exact keepsPending_chargeOccupancy pair.1 pair.2 s

theorem payOccupancy_account {a : Fin 16} (h : ∀ i rate, due = some (i, rate) → (s.session i).NamesNot a) :
    (payOccupancy due s).account a = s.account a := by
  cases due with
  | none => rfl
  | some pair => exact chargeOccupancy_account pair.1 pair.2 s (h pair.1 pair.2 rfl)

variable (hdue : DueAccrues due s)
include hdue

theorem notDue_of_authorized {j : Fin 8} (h : (s.session j).state = .authorized) : NotDue due j := by
  intro rate heq
  have haccrues := hdue j rate heq
  rw [h] at haccrues
  exact absurd haccrues (by decide)

/-- The AUTHORIZED sessions are those they were. -/
theorem payOccupancy_authorized {j : Fin 8} (h : ((payOccupancy due s).session j).state = .authorized) :
    (payOccupancy due s).session j = s.session j := by
  refine payOccupancy_session (fun rate heq => ?_) s
  have haccrues := (payOccupancy_acts hdue).accrues_eq j
  rw [hdue j rate heq, h] at haccrues
  exact absurd haccrues (by decide)

theorem ageSessions_due {i : Fin 8} {rate : Nat} (h : due = some (i, rate)) :
    (ageSessions s).session i = s.session i := by
  rw [ageSessions_session, Session.afterMinute_of_ne (SessionState.ne_authorized_of_accrues (hdue i rate h))]

variable (hparts : MinuteParts due s t)
include hparts

theorem MinuteParts.notDue {j : Fin 8} (h : NotDue due j) :
    t.session j = (s.session j).afterMinute s.tariff.lifetime := by
  rcases hparts with ht | ht <;> rw [ht]
  · rw [payOccupancy_session h, ageSessions_session]
  · rw [ageSessions_session, payOccupancy_session h, (payOccupancy_acts hdue).tariff_eq]

theorem MinuteParts.paid {i : Fin 8} {rate : Nat} (h : due = some (i, rate)) :
    Touched ((s.session i).occupied rate) (t.session i) := by
  rcases hparts with ht | ht
  · have hrecord := chargeOccupancy_record i rate (ageSessions s)
    rw [ageSessions_due hdue h] at hrecord
    rw [ht, h]
    exact hrecord
  · rw [ht, ageSessions_due ((payOccupancy_acts hdue).dueAccrues hdue) h, h]
    exact chargeOccupancy_record i rate s

theorem MinuteParts.account {a : Fin 16} (hnone : NoneHolds a s)
    (hpays : ∀ i rate, due = some (i, rate) → (s.session i).NamesNot a) : t.account a = s.account a := by
  rcases hparts with ht | ht <;> rw [ht]
  · rw [payOccupancy_account fun i rate h => by rw [ageSessions_due hdue h]; exact hpays i rate h, ageSessions_account hnone]
  · rw [ageSessions_account, payOccupancy_account hpays]
    intro j hj
    have hsame := payOccupancy_authorized hdue hj
    rw [hsame] at hj ⊢
    exact hnone j hj

theorem MinuteParts.chain {c : Fin 4} (hnone : NoneBound c s) : t.chain c = s.chain c := by
  have hpaid (u : State) : (payOccupancy due u).chain c = u.chain c := chain_of_tariff (by simp) c
  rcases hparts with ht | ht <;> rw [ht]
  · rw [hpaid, ageSessions_chain hnone]
  · rw [ageSessions_chain, hpaid]
    intro j hj
    have hsame := payOccupancy_authorized hdue hj
    rw [hsame] at hj ⊢
    exact hnone j hj

theorem MinuteParts.posts {j : Fin 8} (h : (s.session j).state = .authorized)
    (hexpired : (s.session j).aged.expired s.tariff.lifetime = true) : (t.attention.pendingOf .cp).getLsbD 4 = true := by
  rcases hparts with ht | ht <;> rw [ht]
  · exact keepsPending_payOccupancy due _ .cp 4 (ageSessions_posts hexpired)
  · refine ageSessions_posts (j := j) ?_
    rw [payOccupancy_session (notDue_of_authorized hdue h), (payOccupancy_acts hdue).tariff_eq]
    exact hexpired

omit hdue in
theorem MinuteParts.onlyChains : OnlyChains s t := by
  rcases hparts with ht | ht <;> rw [ht]
  · exact (ageSessions_onlyChains s).trans (.of_eq (by simp))
  · exact .trans (t := payOccupancy due s) (.of_eq (by simp)) (ageSessions_onlyChains _)

theorem MinuteParts.nextSerial : t.sessions.nextSerial = s.sessions.nextSerial := by
  rcases hparts with ht | ht <;> rw [ht]
  · rw [(payOccupancy_acts (ageSessions_dueAccrues hdue)).queue_eq.2, ageSessions_nextSerial]
  · rw [ageSessions_nextSerial, (payOccupancy_acts hdue).queue_eq.2]

end

/-! ### The calendar's advance (R54, R56) -/

/-- The band of the chain that a band steps to at a minute. -/
def stepOfBand (t : TariffStore) (m : Nat) (b : Fin 32) : Fin 32 :=
  if t.bands[t.bands[b].next].start = m ∧ t.bands[b].next ≠ b then t.bands[b].next else b

theorem steppedBand_eq (t : TariffStore) (m : Nat) (r : Session) :
    steppedBand t m r = r.currentBand.map (stepOfBand t m) := by
  unfold steppedBand stepOfBand
  cases r.currentBand with
  | none => rfl
  | some b => exact (apply_ite some _ _ _).symm

theorem nextMinute_eq (m : Nat) : nextMinute m = if m < 10079 then m + 1 else 0 :=
  if_congr Nat.succ_lt_succ_iff rfl rfl

/-- The record of a session once the bands have stepped. -/
theorem advanceCalendar_session (m : Nat) (s : State) (i : Fin 8) : (advanceCalendar m s).session i =
    if (s.session i).state.accrues then { s.session i with
      currentBand := (s.session i).currentBand.map (stepOfBand s.tariff (nextMinute m)) } else s.session i := by
  have hrecord := mapIndexed_get (fun _ (r : Session) => if r.state.accrues then
    { r with currentBand := steppedBand (advanceCalendar m s).tariff (nextMinute m) r } else r) s.sessions.records i
  rw [steppedBand_eq] at hrecord
  exact hrecord

end Sys2Proof.Machine
end

section
/-! The statement about minute events, assembled from their parts (R20, R54, R56, R57, R73). -/

namespace Sys2Proof.Machine

theorem foldl_eq_of_keeps {α : Type} {P : State → Prop} {f g : State → α → State} (hfg : ∀ u x, P u → f u x = g u x)
    (hg : ∀ u x, P u → P (g u x)) (l : List α) : ∀ {u : State}, P u → l.foldl f u = l.foldl g u := by
  induction l with
  | nil => exact fun _ => rfl
  | cons x rest ih => intro u hu; rw [List.foldl_cons, List.foldl_cons, hfg u x hu, ih (hg u x hu)]

theorem occupancyDue_eq_some {s : State} {i : Fin 8} {rate : Nat} : occupancyDue s = some (i, rate) ↔
    (liveSlot s = some i ∧ (s.session i).state = .complete) ∧ occupancyRate (s.session i) s = rate := by
  unfold occupancyDue
  cases hslot : liveSlot s with
  | none => exact iff_of_false nofun fun ⟨⟨h, _⟩, _⟩ => nomatch h
  | some j =>
    constructor
    · intro h
      obtain ⟨hcomplete, heq⟩ := Option.ite_none_right_eq_some.1 h
      obtain ⟨rfl, rfl⟩ := Prod.mk.inj (Option.some.inj heq)
      exact ⟨⟨rfl, hcomplete⟩, rfl⟩
    · rintro ⟨⟨hj, hcomplete⟩, rfl⟩
      obtain rfl := Option.some.inj hj
      exact if_pos hcomplete

theorem Session.expired_eq (lifetime : Nat) (r : Session) : r.expired lifetime =
    decide (r.state = .authorized ∧ lifetime ≠ 0 ∧ lifetime ≤ r.queuedMinutes.getD 0) := by
  rw [Bool.eq_iff_iff, decide_eq_true_eq]
  simp only [Session.expired, Bool.and_eq_true, beq_iff_eq, bne_iff_ne, decide_eq_true_eq, and_assoc]

/-- The state in which the two parts of a minute event begin. -/
def minuteStart (m : Nat) (s : State) : State :=
  dropChoice (advanceCalendar m (passTime (s.tariff.minuteTimer.getD 0) s))

theorem exec_minuteEvent {s : State} {m : Nat} (h : s.tariff.calendar = some m) :
    ∃ t, exec .minuteEvent s = .next t ∧ MinuteParts (occupancyDue s) (minuteStart m s) t :=
  ⟨_, rfl, takeMinute_parts (s := passTime (s.tariff.minuteTimer.getD 0) s) h⟩

theorem minuteStart_tariff (m : Nat) (s : State) : (minuteStart m s).tariff =
    { s.tariff with calendar := some (nextMinute m), minuteTimer := some Config.minutePeriod } := rfl

theorem minuteStart_session (m : Nat) (s : State) (i : Fin 8) : (minuteStart m s).session i =
    if (s.session i).state.accrues then { s.session i with
      currentBand := (s.session i).currentBand.map (stepOfBand s.tariff (nextMinute m)) } else s.session i :=
  advanceCalendar_session m (passTime (s.tariff.minuteTimer.getD 0) s) i

/-- The bands step and nothing else of a record changes. -/
theorem minuteStart_record (m : Nat) (s : State) (i : Fin 8) :
    ∃ band, (minuteStart m s).session i = { s.session i with currentBand := band } := by
  rw [minuteStart_session]
  split
  · exact ⟨_, rfl⟩
  · exact ⟨_, rfl⟩

section
variable {s t : State} {m : Nat} (hparts : MinuteParts (occupancyDue s) (minuteStart m s) t)

theorem minuteStart_dueAccrues (m : Nat) (s : State) : DueAccrues (occupancyDue s) (minuteStart m s) :=
  advanceCalendar_dueAccrues (s := passTime (s.tariff.minuteTimer.getD 0) s) m (occupancyDue_accrues s)

include hparts

theorem minute_authorized {i : Fin 8} (h : (s.session i).state = .authorized) :
    ((s.session i).aged.expired s.tariff.lifetime = true → t.session i = .free ∧ t.attention.pendingCp.getLsbD 4 = true) ∧
    ((s.session i).aged.expired s.tariff.lifetime = false → t.session i = (s.session i).aged) := by
  have hstart : (minuteStart m s).session i = s.session i := by
    rw [minuteStart_session, if_neg fun haccrues => SessionState.ne_authorized_of_accrues haccrues h]
  have hstate : ((minuteStart m s).session i).state = .authorized := by rw [hstart]; exact h
  have hrecord := hparts.notDue (minuteStart_dueAccrues m s) (notDue_of_authorized (minuteStart_dueAccrues m s) hstate)
  have hposts := hparts.posts (minuteStart_dueAccrues m s) hstate
  rw [hstart] at hrecord hposts
  exact ⟨fun hexpired => ⟨hrecord.trans (if_pos hexpired), hposts hexpired⟩,
    fun hyoung => hrecord.trans (if_neg (Bool.eq_false_iff.1 hyoung))⟩

/-- The COMPLETE live session pays; any other session that is not AUTHORIZED stands. -/
theorem minute_others {i : Fin 8} (hnot : (s.session i).state ≠ .authorized) :
    (t.session i).currentBand = ((minuteStart m s).session i).currentBand ∧
    (liveSlot s = some i ∧ (s.session i).state = .complete →
      Touched (((minuteStart m s).session i).occupied (occupancyRate (s.session i) s)) (t.session i)) ∧
    (¬ (liveSlot s = some i ∧ (s.session i).state = .complete) → t.session i = (minuteStart m s).session i) := by
  have hpaid (h : liveSlot s = some i ∧ (s.session i).state = .complete) :=
    hparts.paid (minuteStart_dueAccrues m s) (occupancyDue_eq_some.2 ⟨h, rfl⟩)
  have hstands (h : ¬ (liveSlot s = some i ∧ (s.session i).state = .complete)) :
      t.session i = (minuteStart m s).session i := by
    rw [hparts.notDue (minuteStart_dueAccrues m s) fun rate heq => h (occupancyDue_eq_some.1 heq).1]
    obtain ⟨band, hband⟩ := minuteStart_record m s i
    exact Session.afterMinute_of_ne (by rw [hband]; exact hnot)
  refine ⟨?_, hpaid, hstands⟩
  by_cases h : liveSlot s = some i ∧ (s.session i).state = .complete
  · obtain ⟨_, _, _, _, heq⟩ := hpaid h
    rw [heq]; rfl
  · rw [hstands h]

theorem minute_account {a : Fin 16}
    (h : ∀ i, (s.session i).state = .authorized ∨ (liveSlot s = some i ∧ (s.session i).state = .complete) →
      (s.session i).chargeAccount ≠ a ∧ (s.session i).heatAccount ≠ some a) : t.account a = s.account a := by
  have hstarted (i : Fin 8) (hi : (s.session i).NamesNot a) : ((minuteStart m s).session i).NamesNot a := by
    obtain ⟨band, hband⟩ := minuteStart_record m s i
    rw [hband]; exact hi
  refine (hparts.account (minuteStart_dueAccrues m s) (fun i hi => hstarted i (h i (.inl ?_)))
    fun i rate hi => hstarted i (h i (.inr (occupancyDue_eq_some.1 hi).1))).trans ?_
  · obtain ⟨band, hband⟩ := minuteStart_record m s i
    rw [hband] at hi; exact hi
  · exact account_of_accounts (by simp [minuteStart]) a

theorem minute_chain {c : Fin 4} (h : ∀ i, (s.session i).state = .authorized → (s.session i).chain ≠ c) :
    t.chain c = s.chain c := by
  refine (hparts.chain (minuteStart_dueAccrues m s) fun i hi => ?_).trans rfl
  obtain ⟨band, hband⟩ := minuteStart_record m s i
  rw [hband] at hi ⊢
  exact h i hi

end

/-- The parts leave calendar, timer, lifetime and bands as the advance of the calendar left them. -/
theorem minute_tariff {s t : State} {m : Nat} (hparts : MinuteParts (occupancyDue s) (minuteStart m s) t) :
    t.tariff.calendar = some (nextMinute m) ∧ t.tariff.minuteTimer = some 60000000 ∧
    t.tariff.lifetime = s.tariff.lifetime ∧ t.tariff.bands = s.tariff.bands := by
  obtain ⟨chains, htariff⟩ := hparts.onlyChains
  rw [htariff, minuteStart_tariff]
  exact ⟨rfl, rfl, rfl, rfl⟩

/-- Settles O28: the parts of a minute event in either order, and what they leave of each session, account and chain. -/
theorem minuteEvents : Obligations.MinuteEvents := by
  refine ⟨fun s h => congrArg Host.Outcome.next (takeMinute_unset h), ?_⟩
  intro s m hcalendar m' passed stepped banded start runOut voided older aged occupied ageing
  have hm : nextMinute m = m' := nextMinute_eq m
  have hstart : start = minuteStart m s := by
    simp only [minuteStart, advanceCalendar, updateBands, mapIndexed, steppedBand_eq, hm]
    rfl
  have hrunOut (r : Session) : runOut r = r.expired s.tariff.lifetime := (r.expired_eq _).symm
  have hvoided (u : State) (i : Fin 8) (hu : u.tariff.lifetime = s.tariff.lifetime) : voided u i = voidIfExpired u i := by
    rw [voidIfExpired, hu, ← hrunOut]
    refine if_congr Iff.rfl ?_ rfl
    unfold voidSession
    cases hheat : (u.session i).heatAccount <;> simp only [hheat] <;> rfl
  have hageing (u : State) (hu : u.tariff.lifetime = s.tariff.lifetime) : ageing u = ageSessions u :=
    foldl_eq_of_keeps (P := fun v => v.tariff.lifetime = s.tariff.lifetime) (fun v i hv => hvoided v i hv)
      (fun v i hv => (voidIfExpired_onlyChains v i).lifetime.trans hv) (List.finRange 8) hu
  have hoccupied (u : State) : occupied u = payOccupancy (occupancyDue s) u := by
    simp only [occupied, occupancyDue]
    cases liveSlot s with
    | none => rfl
    | some i =>
      by_cases hcomplete : (s.session i).state = .complete
      · simp only [if_pos hcomplete]; rfl
      · simp only [if_neg hcomplete]; rfl
  obtain ⟨t, hexec, hparts⟩ := exec_minuteEvent hcalendar
  obtain ⟨hnow, htimer, hlife, hbands⟩ := minute_tariff hparts
  have hframe : t = takeMinute passed := (Host.Outcome.next.inj hexec).symm
  have holder {i : Fin 8} (h : (s.session i).state = .authorized) : (s.session i).aged = older (s.session i) := if_pos h
  have horder : t = occupied (ageing start) ∨ t = ageing (occupied start) := by
    have hadvanced : (minuteStart m s).tariff.lifetime = s.tariff.lifetime := by rw [minuteStart_tariff]
    have hpaid : (payOccupancy (occupancyDue s) (minuteStart m s)).tariff.lifetime = s.tariff.lifetime := by
      rw [(payOccupancy_frame _ _).1, hadvanced]
    rw [hstart, hageing _ hadvanced, hoccupied, hoccupied, hageing _ hpaid]
    exact hparts
  clear_value start ageing occupied
  refine ⟨t, hexec, horder, hnow.trans (congrArg some hm), htimer, hlife, hbands, ?_, ?_, ?_, ?_, ?_, ?_, ?_,
    (hparts.nextSerial (minuteStart_dueAccrues m s)).trans rfl, fun i hi => ?_, fun i b hi hb => ?_, fun i b hslot hcomplete hb => ?_,
    fun i hi hnot => ?_, fun a ha => minute_account hparts ha, fun c hc => minute_chain hparts hc⟩
  · rw [hframe]; simp
  · rw [hframe]; simp
  · rw [hframe]; simp [passed]
  · rw [hframe]; simp [passed]
  · rw [hframe]; simp [passed]
  · rw [hframe]; simp [passed]
  · rw [hframe]; simp [passed]
  · rw [hrunOut, ← holder hi]
    exact minute_authorized hparts hi
  · obtain ⟨hband, -, -⟩ := minute_others hparts (SessionState.ne_authorized_of_accrues hi)
    rw [hband, minuteStart_session, if_pos hi, hb, hm]
    rfl
  · have haccrues : (s.session i).state.accrues = true := by rw [hcomplete]; rfl
    obtain ⟨-, hpaid, -⟩ := minute_others hparts (SessionState.ne_authorized_of_accrues haccrues)
    obtain ⟨_, _, _, _, hrecord⟩ := hpaid ⟨hslot, hcomplete⟩
    have hrate : occupancyRate (s.session i) s = (s.band b).occupancyRate := by rw [occupancyRate, hb]
    obtain ⟨band, hstarted⟩ := minuteStart_record m s i
    rw [hrecord, hstarted, hrate]
    exact ⟨rfl, rfl⟩
  · obtain ⟨-, -, hstands⟩ := minute_others hparts hi
    obtain ⟨band, hstarted⟩ := minuteStart_record m s i
    rw [hstands (not_and_or.2 hnot), hstarted]
    exact ⟨rfl, rfl, rfl⟩

end Sys2Proof.Machine
end

section
/-! SUPPORT. The takers of an event other than the accrual leave every session's energies, and which sessions accrue
(R62 to R68, R82). -/

namespace Sys2Proof.Machine

theorem SameEnergies.refl (r : Session) : SameEnergies r r := ⟨rfl, rfl, rfl, rfl, rfl⟩

theorem SameEnergies.trans {r r' r'' : Session} : SameEnergies r r' → SameEnergies r' r'' → SameEnergies r r''
  | ⟨h1, h2, h3, h4, h5⟩, ⟨g1, g2, g3, g4, g5⟩ => ⟨g1.trans h1, g2.trans h2, g3.trans h3, g4.trans h4, g5.trans h5⟩

/-- Every session keeps its energies, and accrues where it did. -/
def Steady (s t : State) : Prop :=
  ∀ j, SameEnergies (s.session j) (t.session j) ∧ (t.session j).state.accrues = (s.session j).state.accrues

theorem Steady.of_sessions {s t : State} (h : t.sessions = s.sessions) : Steady s t := fun j => by
  rw [session_eq_of_sessions h]
  exact ⟨.refl _, rfl⟩

theorem Steady.refl (s : State) : Steady s s := .of_sessions rfl

theorem Steady.trans {s t u : State} (h : Steady s t) (h' : Steady t u) : Steady s u :=
  fun j => ⟨(h j).1.trans (h' j).1, (h' j).2.trans (h j).2⟩

theorem Steady.accruingSlot {s t : State} (h : Steady s t) : accruingSlot t = accruingSlot s := by
  unfold Machine.accruingSlot
  exact congrArg (fun q => (List.finRange 8).find? q) (funext fun j => (h j).2)

/-! ### Changes of the pause reasons (R9) -/

theorem withReasons_steady {r : Session} (hlive : r.state.isLive = true) (p : PauseReasons) :
    SameEnergies r (r.withReasons p) ∧ (r.withReasons p).state.accrues = r.state.accrues := by
  rw [withReasons_eq hlive, SessionState.accrues_of_isLive hlive]
  refine ⟨⟨rfl, rfl, rfl, rfl, rfl⟩, ?_⟩
  dsimp only
  split
  · rfl
  · split <;> rfl

theorem setSession_steady {s : State} {i : Fin 8} {r : Session} (h : SameEnergies (s.session i) r)
    (haccrues : r.state.accrues = (s.session i).state.accrues) : Steady s (s.setSession i r) := by
  intro j
  rw [State.setSession_at]
  split
  · next hij => exact hij ▸ ⟨h, haccrues⟩
  · exact ⟨.refl _, rfl⟩

theorem changeReasonsQuietly_steady (i : Fin 8) (f : PauseReasons → PauseReasons) (s : State) :
    Steady s (changeReasonsQuietly i f s) := by
  unfold changeReasonsQuietly
  dsimp only
  split
  · exact .refl s
  · next h =>
    have hlive : (s.session i).state.isLive = true := Bool.not_eq_false _ ▸ (not_or.1 h).1
    obtain ⟨hsame, haccrues⟩ := withReasons_steady hlive (f (s.session i).reasons)
    refine (setSession_steady hsame haccrues).trans (.of_sessions ?_)
    rw [(plannerSessionChanged_frame _ _).1]
    split <;> rfl

theorem changeReasons_steady (i : Fin 8) (f : PauseReasons → PauseReasons) (s : State) : Steady s (changeReasons i f s) := by
  unfold changeReasons
  dsimp only
  split
  · exact (changeReasonsQuietly_steady i f s).trans (.of_sessions (localizerSessionLeft_sessions _))
  · exact changeReasonsQuietly_steady i f s

theorem changeLive_steady (f : PauseReasons → PauseReasons) (s : State) : Steady s (changeLive f s) := by
  unfold changeLive
  split
  · exact .refl s
  · exact changeReasons_steady _ f s

theorem changeLiveQuietly_steady (f : PauseReasons → PauseReasons) (s : State) : Steady s (changeLiveQuietly f s) := by
  unfold changeLiveQuietly
  split
  · exact .refl s
  · exact changeReasonsQuietly_steady _ f s

theorem handIsolation_steady (before : Bool) (s : State) : Steady s (handIsolation before s) := by
  unfold handIsolation
  split
  · exact .refl s
  · exact changeLiveQuietly_steady _ s

/-! ### The Localizer and the Isolation Monitor (R82, R145, R163) -/

theorem deliverVerdict_steady (v : Verdict) (s : State) : Steady s (deliverVerdict v s) := by
  by_cases hv : v = .charger
  · subst hv
    cases htarget : s.localizer.target with
    | none => exact .of_sessions (by simp [deliverVerdict, verdictEffect, htarget])
    | some rail =>
      refine .trans (t := writeVerdict rail .charger s) ?_ (.of_sessions (by simp [deliverVerdict, verdictEffect, htarget]))
      exact .trans (t := s.setFault (warnKey rail) ((s.fault (warnKey rail)).withVerdict .charger)) (.of_sessions rfl)
        (handIsolation_steady _ _)
  · exact .of_sessions (deliverVerdict_sessions hv s)

theorem abortDwell_steady (s : State) : Steady s (abortDwell s) := by
  unfold abortDwell
  split
  · exact deliverVerdict_steady _ s
  · exact .refl s

theorem evaluateStep_steady (s : State) : Steady s (evaluateStep s) := by
  unfold evaluateStep
  split
  · exact .refl s
  · split
    · exact deliverVerdict_steady _ s
    · exact Steady.of_sessions (advanceSuspect_sessions s)

theorem localizerFrame_steady (f : MeterFrame) (s : State) : Steady s (localizerFrame f s) := by
  unfold localizerFrame
  split
  · next rail _ _ =>
    have hcounted : Steady s (s.setLocalizer (s.localizer.counted (f.reading rail))) := .of_sessions rfl
    split
    · dsimp only
      split
      · exact hcounted.trans (evaluateStep_steady _)
      · exact hcounted
    · exact .refl s
  · exact .refl s

theorem haltPlanner_sessions (s : State) : (haltPlanner s).sessions = s.sessions := by simp

theorem confirmedHandOff_steady (k : CompareKind) (r : Rail) (before : Bool) (s : State) :
    Steady s (confirmedHandOff k r before s) := by
  cases k with
  | warning =>
    refine .of_sessions ?_
    simp only [confirmedHandOff, warningConfirmed, startLocalization]
    split
    · exact nextStep_sessions _
    · rfl
  | trip =>
    refine .trans (t := haltPlanner s) (.of_sessions (haltPlanner_sessions s)) ?_
    exact (handIsolation_steady before _).trans (abortDwell_steady _)

theorem comparatorWork_steady (k : CompareKind) (r : Rail) (reading : Nat) (s : State) :
    Steady s (comparatorWork k r reading s) := by
  unfold comparatorWork
  dsimp only
  refine .trans (.of_sessions rfl) ?_
  unfold actOnRecord
  dsimp only
  split
  · split
    · exact .of_sessions (by simp)
    · exact .refl _
  · split
    · exact .trans (.of_sessions (by simp)) (confirmedHandOff_steady k r _ _)
    · exact .refl _

theorem judgeVotes_sessions (s : State) (z : Fin 6) : (judgeVotes s z).sessions = s.sessions := by
  unfold judgeVotes
  split
  · simp
  · rfl

theorem mismatchWork_sessions (f : MeterFrame) (ended : Option PlanEntry) (s : State) :
    (mismatchWork f ended s).sessions = s.sessions := by
  unfold mismatchWork
  split
  · rfl
  · split
    · rfl
    · exact foldl_reads State.sessions _ judgeVotes_sessions _ _

theorem isolationFrame_steady (f : MeterFrame) (ended : Option PlanEntry) (s : State) :
    Steady s (isolationFrame f ended s) := by
  unfold isolationFrame railWork
  refine .trans ?_ (.of_sessions (mismatchWork_sessions f ended _))
  split
  · refine .trans (.trans ?_ (comparatorWork_steady .trip .pos _ _))
      (.trans (comparatorWork_steady .warning .neg _ _) (comparatorWork_steady .trip .neg _ _))
    exact comparatorWork_steady .warning .pos _ s
  · exact .refl s

/-! ### The planner's part (R110, R111) -/

theorem evaluateAdmission_steady (s : State) : Steady s (evaluateAdmission s) := by
  refine .trans (t := storeAdmission s) (.of_sessions rfl) ?_
  refine .trans (t := judgeCold (storeAdmission s)) ?_ (.of_sessions (recomputeDemands_frame _).1)
  unfold judgeCold
  split
  · exact changeLive_steady _ _
  · split
    · exact .refl _
    · split
      · exact changeLive_steady _ _
      · exact .refl _

theorem cycleBoundary_steady (s : State) : Steady s (cycleBoundary s) := by
  refine (evaluateAdmission_steady s).trans (.of_sessions ?_)
  simp [cycleBoundary]

theorem endSlot_steady (s : State) : Steady s (endSlot s) := by
  unfold endSlot
  split
  · exact .refl s
  · split
    · exact .of_sessions rfl
    · exact cycleBoundary_steady s

theorem plannerAccepted_steady (f : MeterFrame) (halted entered : Bool) (s : State) :
    Steady s (plannerAccepted f halted entered s) := by
  unfold plannerAccepted
  dsimp only
  refine .trans (t := s.setPlanner { s.planner with derate := nextDerate s.planner.derate f.inlet.toInt }) (.of_sessions rfl) ?_
  split
  · split
    · exact .of_sessions (by simp)
    · exact .refl _
  · split
    · exact cycleBoundary_steady _
    · exact .refl _
  · split
    · exact cycleBoundary_steady _
    · split
      · exact (endSlot_steady _).trans (.of_sessions (by simp))
      · exact endSlot_steady _

theorem plannerHeld_steady (s : State) : Steady s (plannerHeld s) := by
  rw [plannerHeld_eq]
  split
  · exact endSlot_steady s
  · exact .refl s

/-- Every taker of an accepted event but the accrual. -/
theorem takeAccepted_steady (f : MeterFrame) (a : Arrival) (entered : Bool) (s : State) {x : Taker} (hx : x ≠ .accrual) :
    Steady s (takeAccepted f a entered s x) := by
  cases x with
  | accrual => exact absurd rfl hx
  | heat => exact .of_sessions (heatFrame_frame f s).1
  | planner => exact plannerAccepted_steady f _ _ s
  | isolation => exact isolationFrame_steady f _ s
  | localizer => exact localizerFrame_steady f s
  | occupancy | ageing => exact .refl s

theorem takeHeld_steady (a : Arrival) (s : State) {x : Taker} (hx : x ≠ .accrual) : Steady s (takeHeld a s x) := by
  cases x with
  | accrual => exact absurd rfl hx
  | planner => exact plannerHeld_steady s
  | heat | isolation | localizer | occupancy | ageing => exact .refl s

theorem enterSynced_steady (s : State) : Steady s (enterSynced s) := by
  refine .trans (t := post .meterState (s.setMeter { s.meter with lost := none })) (.of_sessions rfl) ?_
  exact .trans (t := sessionsSynced _) (changeLive_steady _ _) (.of_sessions (clearFault_frame _ _).1)

end Sys2Proof.Machine
end

section
/-! Accepted and held events: the energies, the pricing and the completion (R61 to R74). -/

namespace Sys2Proof.Machine

/-! ### The record after an event (R65, R67) -/

/-- The event leaves the session's energies: they stand already, or it would carry the supply energy past its range. -/
def Stands (r : Session) (p : Powers) : Prop := r.energyFrozen = true ∨ pastRange p r = true

theorem stands_iff (r : Session) (p : Powers) :
    Stands r p ↔ r.energyFrozen = true ∨ 4294967295 < (r.supplyEnergy.plus p.supply).wh := by
  rw [Stands, pastRange, decide_eq_true_eq]
  rfl

/-- Every session keeps its energies. -/
def EnergiesStand (s t : State) : Prop := ∀ j, SameEnergies (s.session j) (t.session j)

theorem EnergiesStand.refl (s : State) : EnergiesStand s s := fun _ => .refl _

theorem EnergiesStand.trans {s t u : State} (h : EnergiesStand s t) (h' : EnergiesStand t u) : EnergiesStand s u :=
  fun j => (h j).trans (h' j)

theorem Steady.energiesStand {s t : State} (h : Steady s t) : EnergiesStand s t := fun j => (h j).1

theorem EnergiesStand.of_sessions {s t : State} (h : t.sessions = s.sessions) : EnergiesStand s t :=
  (Steady.of_sessions h).energiesStand

theorem setSession_energiesStand {s : State} {i : Fin 8} {r : Session} (h : SameEnergies (s.session i) r) :
    EnergiesStand s (s.setSession i r) := by
  intro j
  rw [State.setSession_at]
  split
  · next hij => exact hij ▸ h
  · exact .refl _

theorem OnlyTouches.energiesStand {i : Fin 8} {s t : State} (h : OnlyTouches i s t) : EnergiesStand s t := by
  intro j
  by_cases hj : j = i
  · subst hj
    obtain ⟨_, _, _, _, heq⟩ := h.record
    rw [heq]
    exact ⟨rfl, rfl, rfl, rfl, rfl⟩
  · rw [h.others.1 j hj]; exact .refl _

theorem priceOne_energiesStand (i : Fin 8) (role : HoldRole) (s : State) : EnergiesStand s (priceOne i role s) :=
  (setSession_energiesStand (Session.addCost_editOf _ role _).sameEnergies).trans
    (checkLowWater_onlyTouches i _).energiesStand

theorem priceMany_eq (i : Fin 8) (role : HoldRole) (n : Nat) : ∀ s, priceMany i role n s = (priceOne i role)^[n] s := by
  induction n with
  | zero => exact fun _ => rfl
  | succ n ih => exact fun s => ih _

theorem priceMany_energiesStand (i : Fin 8) (role : HoldRole) (n : Nat) (s : State) :
    EnergiesStand s (priceMany i role n s) := by
  rw [priceMany_eq]
  induction n with
  | zero => exact .refl s
  | succ n ih => rw [Function.iterate_succ_apply']; exact ih.trans (priceOne_energiesStand i role _)

theorem judgeCompletion_eq (i : Fin 8) (s : State) : judgeCompletion i s =
    if ((s.session i).state = .active ∨ (s.session i).state = .paused) ∧ (s.session i).targetReached = true then
      sessionChanged (decide ((s.session i).state = .active)) (s.setSession i { s.session i with state := .complete })
    else s := by rw [← enterComplete_eq]; rfl

theorem judgeCompletion_energiesStand (i : Fin 8) (s : State) : EnergiesStand s (judgeCompletion i s) := by
  rw [judgeCompletion_eq]
  split
  · refine .trans (t := s.setSession i { s.session i with state := .complete }) ?_
      (.of_sessions (sessionChanged_sessions _ _))
    exact setSession_energiesStand ⟨rfl, rfl, rfl, rfl, rfl⟩
  · exact .refl s

theorem endClosing_energiesStand (s : State) : EnergiesStand s (endClosing s) := by
  have hlive (u : State) : EnergiesStand u (goLive u) := by
    intro j
    cases hqueue : u.sessions.queue with
    | nil => rw [goLive_empty hqueue]; exact .refl _
    | cons i rest =>
      rw [goLive_session hqueue]
      split
      · next hij => subst hij; exact Session.gone_sameEnergies u _
      · exact .refl _
  cases hslot : closingSlot s with
  | none => rw [endClosing_none hslot]; exact .refl s
  | some i =>
    rw [endClosing_some hslot]
    have hclosed : EnergiesStand s (closeRecord .stoppedControl i s) := by
      intro j
      rw [closeRecord_session]
      split
      · next hij => subst hij; exact ⟨rfl, rfl, rfl, rfl, rfl⟩
      · exact .refl _
    unfold handOver
    split
    · exact hclosed
    · exact hclosed.trans (hlive _)

/-! ### The accrual (R61) -/

section
variable {held : Bool} {p : Powers} {i : Fin 8} {s : State}

/-- What the event does to the record of the session that accrues, pricing and completion left out. -/
theorem accrueEnergy_record (i : Fin 8) (p : Powers) (held : Bool) (s : State) :
    (Stands (s.session i) p →
      EnergiesStand (s.setSession i { s.session i with energyFrozen := true }) (accrueEnergy i p held s)) ∧
    (¬ Stands (s.session i) p → EnergiesStand (s.setSession i ((s.session i).accrued p held)) (accrueEnergy i p held s) ∧
      (s.session i).energyFrozen = false) := by
  refine ⟨fun h => ?_, fun h => ?_⟩
  · rw [accrueEnergy_stands i p held s h]; exact .refl _
  · obtain ⟨hmark, hrange⟩ := not_or.1 h
    have hmark := Bool.eq_false_iff.2 hmark
    rw [(accrueEnergy_accrues i p held s hmark (Bool.eq_false_iff.2 hrange)).1]
    exact ⟨(priceMany_energiesStand i .charge _ _).trans (priceMany_energiesStand i .heat _ _), hmark⟩

end

/-- What an event with these powers makes of all energies: of the accruing session's, and none else. -/
structure AccruesBy (held : Bool) (p : Powers) (s t : State) : Prop where
  adds : ∀ i, accruingSlot s = some i → ¬ Stands (s.session i) p →
    SameEnergies ((s.session i).accrued p held) (t.session i) ∧ (s.session i).energyFrozen = false
  stands : ∀ i, accruingSlot s = some i → Stands (s.session i) p →
    SameEnergies { s.session i with energyFrozen := true } (t.session i)
  others : ∀ i, accruingSlot s ≠ some i → SameEnergies (s.session i) (t.session i)

theorem AccruesBy.trans {held : Bool} {p : Powers} {s t u : State} (h : AccruesBy held p s t) (h' : EnergiesStand t u) :
    AccruesBy held p s u := by
  refine ⟨fun i hi hadds => ?_, fun i hi hstands => (h.stands i hi hstands).trans (h' i),
    fun i hi => (h.others i hi).trans (h' i)⟩
  obtain ⟨hsame, hmark⟩ := h.adds i hi hadds
  exact ⟨hsame.trans (h' i), hmark⟩

theorem SameEnergies.stands_iff {r r' : Session} (h : SameEnergies r r') (p : Powers) : Stands r' p ↔ Stands r p := by
  obtain ⟨hmark, hsupply, -, -, -⟩ := h
  rw [Stands, Stands, hmark, pastRange, pastRange, hsupply]

theorem SameEnergies.accrued {r r' : Session} (h : SameEnergies r r') (p : Powers) (held : Bool) :
    SameEnergies (r.accrued p held) (r'.accrued p held) := by
  obtain ⟨hmark, hsupply, hcharge, hheat, hframes⟩ := h
  refine ⟨hmark, ?_, ?_, ?_, ?_⟩
  · simp only [Session.accrued, hsupply]
  · simp only [Session.accrued, hcharge]
  · simp only [Session.accrued, hheat]
  · simp only [Session.accrued, hframes]

theorem SameEnergies.marked {r r' : Session} (h : SameEnergies r r') :
    SameEnergies { r with energyFrozen := true } { r' with energyFrozen := true } := by
  obtain ⟨-, hsupply, hcharge, hheat, hframes⟩ := h
  exact ⟨rfl, hsupply, hcharge, hheat, hframes⟩

/-- The event after takers that leave the energies and the accruing session. -/
theorem AccruesBy.after {held : Bool} {p : Powers} {s t u : State} (h : Steady s t) (h' : AccruesBy held p t u) :
    AccruesBy held p s u := by
  refine ⟨fun i hi hadds => ?_, fun i hi hstands => ?_, fun i hi => ?_⟩
  · rw [← h.accruingSlot] at hi
    rw [← (h i).1.stands_iff p] at hadds
    obtain ⟨hsame, hmark⟩ := h'.adds i hi hadds
    exact ⟨((h i).1.accrued p held).trans hsame, (h i).1.1.symm.trans hmark⟩
  · rw [← h.accruingSlot] at hi
    rw [← (h i).1.stands_iff p] at hstands
    exact (h i).1.marked.trans (h'.stands i hi hstands)
  · rw [← h.accruingSlot] at hi
    exact (h i).1.trans (h'.others i hi)

theorem accrue_idle {held : Bool} {source : Option BudgetSource} {s : State}
    (h : accruingSlot s = none ∨ s.meter.frame = none) : accrue held source s = s := by
  unfold accrue
  rcases h with h | h
  · simp only [h]
  · cases accruingSlot s <;> simp only [h]

theorem accrue_some {held : Bool} {source : Option BudgetSource} {s : State} {i : Fin 8} {f : MeterFrame}
    (hslot : accruingSlot s = some i) (hframe : s.meter.frame = some f) :
    accrue held source s = judgeCompletion i (accrueEnergy i (powersOf f source) held s) := by
  simp only [accrue, hslot, hframe]

theorem accrue_accruesBy {held : Bool} {source : Option BudgetSource} {s : State} {f : MeterFrame}
    (hframe : s.meter.frame = some f) : AccruesBy held (powersOf f source) s (accrue held source s) := by
  cases hslot : accruingSlot s with
  | none =>
    rw [accrue_idle (.inl hslot)]
    exact ⟨fun i hi => (nomatch hslot.symm.trans hi), fun i hi => (nomatch hslot.symm.trans hi), fun i _ => .refl _⟩
  | some k =>
    have hsame {i : Fin 8} (hi : accruingSlot s = some i) : k = i := Option.some.inj (hslot.symm.trans hi)
    obtain ⟨hstands, hadds⟩ := accrueEnergy_record k (powersOf f source) held s
    rw [accrue_some hslot hframe]
    refine AccruesBy.trans ⟨fun i hi h => ?_, fun i hi h => ?_, fun i hi => ?_⟩ (judgeCompletion_energiesStand k _)
    · obtain rfl := hsame hi
      obtain ⟨hrecord, hmark⟩ := hadds h
      refine ⟨?_, hmark⟩
      have hadded := hrecord k
      rwa [State.setSession_same] at hadded
    · obtain rfl := hsame hi
      have hmarked := hstands h k
      rwa [State.setSession_same] at hmarked
    · have hne : k ≠ i := fun heq => hi (hslot.trans (congrArg some heq))
      by_cases h : Stands (s.session k) (powersOf f source)
      · have hother := hstands h i
        rwa [State.setSession_other _ _ _ _ hne] at hother
      · have hother := (hadds h).1 i
        rwa [State.setSession_other _ _ _ _ hne] at hother

/-! ### The accrual among the takers of an event (R82) -/

theorem foldl_accruesBy {g : State → Taker → State} {held : Bool} {source : Option BudgetSource} {f : MeterFrame}
    {order : List Taker} {s : State} (hmem : Taker.accrual ∈ order) (hnodup : order.Nodup)
    (hsteady : ∀ u x, x ≠ .accrual → Steady u (g u x)) (hmeter : ∀ u x, (g u x).meter = u.meter)
    (haccrual : ∀ u, g u .accrual = endClosing (accrue held source u)) (hframe : s.meter.frame = some f) :
    AccruesBy held (powersOf f source) s (order.foldl g s) := by
  have hothers (l : List Taker) (hl : Taker.accrual ∉ l) (u : State) : Steady u (l.foldl g u) := by
    induction l generalizing u with
    | nil => exact .refl u
    | cons x rest ih =>
      obtain ⟨hx, hrest⟩ := not_or.1 (mt List.mem_cons.2 hl)
      exact (hsteady u x (Ne.symm hx)).trans (ih hrest _)
  obtain ⟨front, back, hsplit⟩ := List.append_of_mem hmem
  have hnone : Taker.accrual ∉ front ++ back := by
    rw [hsplit] at hnodup
    exact (List.nodup_cons.1 (List.nodup_middle.1 hnodup)).1
  obtain ⟨hfront, hback⟩ := not_or.1 (mt List.mem_append.2 hnone)
  rw [hsplit, List.foldl_append, List.foldl_cons, haccrual]
  have hread : (front.foldl g s).meter.frame = some f := by rw [foldl_reads State.meter g hmeter front s]; exact hframe
  refine AccruesBy.after (hothers front hfront s) ?_
  exact (accrue_accruesBy hread).trans ((endClosing_energiesStand _).trans (hothers back hback _).energiesStand)

theorem acceptFrame_accruesBy (f : MeterFrame) (s : State) :
    AccruesBy false (powersOf f (arrivalOf s.planner).source) s (acceptFrame f s) := by
  have hperm := acceptedOrder_perm (arrivalOf s.planner) s
  have hready : ∃ ready, Steady s ready ∧ ready.meter.frame = some f ∧ acceptFrame f s =
      (acceptedOrder (arrivalOf s.planner) s).foldl (takeAccepted f (arrivalOf s.planner) (entersSynced s.meter)) ready := by
    refine ⟨_, ?_, ?_, rfl⟩
    · refine .trans ?_ (.of_sessions (dropChoice_frame _).1)
      split
      · exact .trans (t := s.setMeter (s.meter.accepted f)) (.of_sessions rfl) (enterSynced_steady _)
      · exact .of_sessions rfl
    · split
      · simp [enterSynced, MeterLink.accepted]
      · rfl
  obtain ⟨ready, hsteady, hframe, heq⟩ := hready
  rw [heq]
  refine AccruesBy.after hsteady ?_
  exact foldl_accruesBy (hperm.mem_iff.2 (by decide)) (hperm.nodup_iff.2 (by decide))
    (fun u x hx => takeAccepted_steady f _ _ u hx) (takeAccepted_meter f _ _) (fun _ => rfl) hframe

theorem heldEvent_accruesBy {f : MeterFrame} {s : State} (hframe : s.meter.frame = some f) :
    AccruesBy true (powersOf f (arrivalOf s.planner).source) s (heldEvent s) := by
  have hperm := heldOrder_perm (arrivalOf s.planner) s
  have hmeter (u : State) (x : Taker) : (takeHeld (arrivalOf s.planner) u x).meter = u.meter := by simp
  exact AccruesBy.after (.of_sessions (dropChoice_frame s).1)
    (foldl_accruesBy (hperm.mem_iff.2 (by decide)) (hperm.nodup_iff.2 (by decide))
      (fun u x hx => takeHeld_steady _ u hx) hmeter (fun _ => rfl) hframe)

end Sys2Proof.Machine
end

section
/-! The statement about the energies of an event, assembled (R61 to R74). -/

namespace Sys2Proof.Machine

/-- The events that accrue, as the statement asks for them, of whatever powers. -/
theorem AccruesBy.stated {held : Bool} {p : Powers} {s t : State} (h : AccruesBy held p s t) :
    (∀ i, accruingSlot s = some i → ¬ Stands (s.session i) p →
      (t.session i).supplyEnergy = (s.session i).supplyEnergy.plus p.supply ∧
      (t.session i).heatEnergy = (s.session i).heatEnergy.plus p.heat ∧
      (t.session i).chargeEnergy = (s.session i).chargeEnergy.plus p.charge ∧
      (t.session i).heldFrames =
        (if held then min ((s.session i).heldFrames + 1) 4294967295 else (s.session i).heldFrames) ∧
      (t.session i).energyFrozen = false) ∧
    (∀ i, accruingSlot s = some i → Stands (s.session i) p → (t.session i).energyFrozen = true) ∧
    (∀ i, accruingSlot s ≠ some i → (t.session i).energyFrozen = (s.session i).energyFrozen) ∧
    ∀ i, (accruingSlot s ≠ some i ∨ Stands (s.session i) p) →
      (t.session i).supplyEnergy = (s.session i).supplyEnergy ∧
      (t.session i).heatEnergy = (s.session i).heatEnergy ∧
      (t.session i).chargeEnergy = (s.session i).chargeEnergy ∧ (t.session i).heldFrames = (s.session i).heldFrames := by
  refine ⟨fun i hi hadds => ?_, fun i hi hstands => (h.stands i hi hstands).1, fun i hi => (h.others i hi).1, fun i hi => ?_⟩
  · obtain ⟨⟨hmark, hsupply, hcharge, hheat, hframes⟩, hrunning⟩ := h.adds i hi hadds
    exact ⟨hsupply, hheat, hcharge, hframes, hmark.trans hrunning⟩
  · by_cases hslot : accruingSlot s = some i
    · obtain ⟨-, hsupply, hcharge, hheat, hframes⟩ := h.stands i hslot (hi.resolve_left (not_not.2 hslot))
      exact ⟨hsupply, hheat, hcharge, hframes⟩
    · obtain ⟨-, hsupply, hcharge, hheat, hframes⟩ := h.others i hslot
      exact ⟨hsupply, hheat, hcharge, hframes⟩

/-- One carried Wh: the cost rises by the current band's rate and the holds are checked, the charge hold first. -/
theorem priceOne_eq (i : Fin 8) (role : HoldRole) (t : State) : priceOne i role t = checkHold i .heat (checkHold i .charge
    (t.setSession i ((t.session i).addCost role (currentRate role (t.session i) t)))) := rfl

theorem accrueEnergy_iterates {i : Fin 8} {p : Powers} {s : State} (held : Bool) (h : ¬ Stands (s.session i) p) :
    accrueEnergy i p held s = (priceOne i .heat)^[(s.session i).heatEnergy.carry p.heat]
      ((priceOne i .charge)^[(s.session i).chargeEnergy.carry p.charge] (s.setSession i ((s.session i).accrued p held))) := by
  obtain ⟨hmark, hrange⟩ := not_or.1 h
  rw [(accrueEnergy_accrues i p held s (Bool.eq_false_iff.2 hmark) (Bool.eq_false_iff.2 hrange)).1, priceMany_eq,
    priceMany_eq]

/-- Settles O30: the energies by the accrual's place among the takers, the pricing by its iteration. -/
theorem acceptedFrameEnergies : Obligations.AcceptedFrameEnergies := by
  unfold Obligations.AcceptedFrameEnergies
  intro plus stands accrued
  have hstands (r : Session) (p : Powers) : stands r p ↔ Stands r p := (stands_iff r p).symm
  have haccrued {held : Bool} {f : MeterFrame} {s t : State}
      (h : AccruesBy held (powersOf f (arrivalOf s.planner).source) s t) : accrued held f s t := by
    obtain ⟨hadds, hmarks, hkept, hstill⟩ := h.stated
    simp only [← hstands] at hadds hmarks hstill
    exact ⟨hadds, hmarks, hkept, hstill⟩
  refine ⟨fun s ws w f hassembly hlength hgood => ?_, fun s f hframe hlink => ?_, fun held source s => accrue_idle, ?_⟩
  · refine ⟨_, congrArg Host.Outcome.next (takeDataWord_accepted w hassembly hlength hgood), haccrued ?_⟩
    have hframe := acceptFrame_accruesBy f (s.setMeter { s.meter with assembly := none })
    exact AccruesBy.after (t := s.setMeter { s.meter with assembly := none }) (.of_sessions rfl) hframe
  · obtain ⟨u, hplanner, hstart, hheld⟩ := overdueExpiry_held hlink
    have hsessions : u.sessions = s.sessions := congrArg (fun v => v.sessions) hstart
    have hread : u.meter.frame = some f := (congrArg (fun v => v.meter.frame) hstart).trans hframe
    refine ⟨_, congrArg Host.Outcome.next hheld, haccrued ?_⟩
    rw [← hplanner]
    exact AccruesBy.after (.of_sessions hsessions) (heldEvent_accruesBy hread)
  · intro held source s i f hslot hframe r p checked priced accounted t reached
    have hpriced (role : HoldRole) : priced role = priceOne i role := by
      funext u
      refine congrArg (fun v => checkHold i .heat (checkHold i .charge (u.setSession i v))) ?_
      cases role <;> simp only [Session.addCost, currentRate] <;> cases (u.session i).currentBand <;> rfl
    have haccounted : t = accrueEnergy i p held s := by
      by_cases h : Stands r p
      · exact (if_pos ((hstands r p).2 h)).trans (accrueEnergy_stands i p held s h).symm
      · refine (if_neg (mt (hstands r p).1 h)).trans (Eq.trans ?_ (accrueEnergy_iterates held h).symm)
        simp only [accounted, hpriced]
        rfl
    have hreached : reached ↔ ((t.session i).state = .active ∨ (t.session i).state = .paused) ∧
        (t.session i).targetReached = true := and_congr_right fun _ => (targetReached_iff _).symm
    rw [accrue_some hslot hframe, ← haccounted, judgeCompletion_eq, hreached]
    exact ⟨fun h => if_neg h, fun h => if_pos h⟩

end Sys2Proof.Machine
end

section
/-! SUPPORT. The end of a CLOSING session, with its handover, and the entry to LOST, taken apart (R22, R24, R86, R166). -/

namespace Sys2Proof.Machine

/-! ### The end of a CLOSING session (R22, R24) -/

theorem keepsPending_closeRecord (reason : CloseReason) (i : Fin 8) (s : State) :
    KeepsPending s (closeRecord reason i s) := by
  rw [closeRecord_eq]
  refine .trans (.of_attention ?_) (keepsPending_post _ _)
  show (settledBoth (s.session i) s).attention = _
  rw [settledBoth, atBoth_eq]
  rfl

theorem keepsPending_goLive (s : State) : KeepsPending s (goLive s) := by
  unfold goLive
  split
  · exact .of_attention rfl
  · refine .trans (.of_attention ?_) (keepsPending_post _ _)
    rfl

theorem keepsPending_handOver (s : State) : KeepsPending s (handOver s) := by
  unfold handOver
  split
  · exact .of_attention rfl
  · exact keepsPending_goLive s

theorem keepsPending_endClosing (s : State) : KeepsPending s (endClosing s) := by
  cases hslot : closingSlot s with
  | none => rw [endClosing_none hslot]; exact .of_attention rfl
  | some i =>
    rw [endClosing_some hslot]
    exact (keepsPending_closeRecord _ i s).trans (keepsPending_handOver _)

/-- A handover moves the head of the queue and no other session. -/
theorem handOver_session {s : State} {i : Fin 8} (h : i ∉ s.sessions.queue) : (handOver s).session i = s.session i := by
  unfold handOver
  split
  · rfl
  · cases hqueue : s.sessions.queue with
    | nil => rw [goLive_empty hqueue]
    | cons j rest =>
      rw [goLive_session hqueue, if_neg]
      rintro rfl
      exact h (by rw [hqueue]; exact List.mem_cons_self)

/-- A handover leaves a record or goes live with it. -/
theorem handOver_cases (s : State) (i : Fin 8) :
    (handOver s).session i = s.session i ∨ (handOver s).session i = (s.session i).gone s := by
  unfold handOver
  split
  · exact .inl rfl
  · cases hqueue : s.sessions.queue with
    | nil => rw [goLive_empty hqueue]; exact .inl rfl
    | cons j rest =>
      rw [goLive_session hqueue]
      split
      · next hij => subst hij; exact .inr rfl
      · exact .inl rfl

theorem endClosing_closes {s : State} {i : Fin 8} (hslot : closingSlot s = some i) (hqueue : i ∉ s.sessions.queue) :
    (endClosing s).session i = (s.session i).closedRecord .stoppedControl s := by
  rw [endClosing_some hslot, handOver_session (by rwa [closeRecord_queue]), closeRecord_session, if_pos rfl]

/-- The end of a CLOSING session leaves a session that is not CLOSING, or goes live with it. -/
theorem endClosing_other {s : State} {i : Fin 8} (h : (s.session i).state ≠ .closing) :
    (endClosing s).session i = s.session i ∨
      ∃ u, u.meter = s.meter ∧ (endClosing s).session i = (s.session i).gone u := by
  cases hslot : closingSlot s with
  | none => rw [endClosing_none hslot]; exact .inl rfl
  | some j =>
    have hne : j ≠ i := by rintro rfl; exact h (closingSlot_some hslot)
    have hkept : (closeRecord .stoppedControl j s).session i = s.session i := by rw [closeRecord_session, if_neg hne]
    rw [endClosing_some hslot]
    rcases handOver_cases (closeRecord .stoppedControl j s) i with heq | heq
    · exact .inl (heq.trans hkept)
    · refine .inr ⟨closeRecord .stoppedControl j s, by simp, ?_⟩
      rw [heq, hkept]

/-- What else the end of a CLOSING session leaves. -/
theorem endClosing_blocks (s : State) : (endClosing s).planner = s.planner ∧ (endClosing s).isolation = s.isolation ∧
    (endClosing s).localizer = s.localizer ∧ (endClosing s).supply = s.supply := by
  cases hslot : closingSlot s with
  | none => rw [endClosing_none hslot]; exact ⟨rfl, rfl, rfl, rfl⟩
  | some i => rw [endClosing_some hslot]; simp

/-! ### The CLOSING session at a held event (R22, R84) -/

/-- From one state to the other the CLOSING session, the queue and the CLOSED sessions stay. -/
structure ClosingKept (s t : State) : Prop where
  slot : closingSlot t = closingSlot s
  queue : t.sessions.queue = s.sessions.queue
  closed : ∀ i, (s.session i).state = .closed → (t.session i).state = .closed

theorem Acts.closingKept {s t : State} (h : Acts s t) : ClosingKept s t := by
  refine ⟨?_, h.queue_eq.1, fun i => ((h.phase i).eq_iff rfl).2⟩
  unfold closingSlot
  refine congrArg (fun q => (List.finRange 8).find? q) (funext fun i => ?_)
  rw [Bool.eq_iff_iff, beq_iff_eq, beq_iff_eq]
  exact (h.phase i).eq_iff rfl

theorem ClosingKept.of_sessions {s t : State} (h : t.sessions = s.sessions) : ClosingKept s t :=
  ⟨by simp only [closingSlot, State.session, h], by rw [h], fun i => by rw [session_eq_of_sessions h]; exact id⟩

theorem ClosingKept.trans {s t u : State} (h : ClosingKept s t) (h' : ClosingKept t u) : ClosingKept s u :=
  ⟨h'.slot.trans h.slot, h'.queue.trans h.queue, fun i hi => h'.closed i (h.closed i hi)⟩

theorem plannerHeld_closingKept (s : State) : ClosingKept s (plannerHeld s) := by
  rw [plannerHeld_eq]
  split
  · cases hslot : s.planner.slot with
    | none => rw [endSlot_none hslot]; exact .of_sessions rfl
    | some k =>
      rw [endSlot_some hslot]
      split
      · refine (evaluateAdmission_acts s).closingKept.trans (.of_sessions ?_)
        simp [cycleBoundary]
      · exact .of_sessions rfl
  · exact .of_sessions rfl

/-- A held event closes the CLOSING session, in either order of its takers. -/
theorem heldEvent_closes {s : State} {i : Fin 8} (hslot : closingSlot s = some i) (hqueue : i ∉ s.sessions.queue) :
    ((heldEvent s).session i).state = .closed := by
  obtain ⟨order, horder, -, heq⟩ := heldEvent_order s
  have hdropped : ClosingKept s (dropChoice s) := .of_sessions (dropChoice_frame s).1
  have hcloses {u : State} (hu : ClosingKept s u) :
      ((endClosing (accrue true (arrivalOf s.planner).source u)).session i).state = .closed := by
    have hkept := hu.trans (accrue_acts true (arrivalOf s.planner).source u).closingKept
    rw [endClosing_closes (hkept.slot.trans hslot) (by rw [hkept.queue]; exact hqueue)]
    rfl
  rw [heq]
  rcases horder with rfl | rfl <;> rw [List.foldl_cons, List.foldl_cons, List.foldl_nil]
  · exact (plannerHeld_closingKept _).closed i (hcloses hdropped)
  · exact hcloses (hdropped.trans (plannerHeld_closingKept _))

/-! ### The entry to LOST (R86) -/

/-- METER joins the reasons. -/
def PauseReasons.withMeter (q : PauseReasons) : PauseReasons := { q with meter := true }

/-- The entry to LOST but for the abort of a dwell. -/
def lostHalted (v : State) : State :=
  confirmFault 10 none (changeLiveQuietly PauseReasons.withMeter (haltPlanner (post .meterState v)))

theorem enterLost_eq (s : State) : enterLost s = abortDwell (lostHalted (s.setMeter { s.meter with
    state := .lost, heldCount := 5, lost := some Config.lostPeriod })) := rfl

theorem changeReasonsQuietly_record {s : State} {i : Fin 8} {f : PauseReasons → PauseReasons}
    (hlive : (s.session i).state.isLive = true) (hchange : f (s.session i).reasons ≠ (s.session i).reasons) :
    (changeReasonsQuietly i f s).session i = (s.session i).withReasons (f (s.session i).reasons) := by
  unfold changeReasonsQuietly
  dsimp only
  rw [if_neg (not_or.2 ⟨by simp [hlive], hchange⟩)]
  refine (session_eq_of_sessions (plannerSessionChanged_frame _ _).1 i).trans ?_
  split
  · exact State.setSession_same s i _
  · exact State.setSession_same s i _

theorem confirmFault_other {k j : Fin 12} (hj : j ≠ k) (reading : Option Nat) (s : State) :
    (confirmFault k reading s).fault j = s.fault j := by
  by_cases h : (s.fault k).state = .active
  · rw [confirmFault_active h]
  · rw [confirmFault_fault h, if_neg hj.symm]

theorem keepsPending_confirmFault (k : Fin 12) (reading : Option Nat) (s : State) :
    KeepsPending s (confirmFault k reading s) := by
  by_cases h : (s.fault k).state = .active
  · rw [confirmFault_active h]; exact .of_attention rfl
  · rw [confirmFault_raised h]
    exact .trans (t := s.setFault k _) (.of_attention rfl) (keepsPending_post _ _)

theorem keepsPending_changeLiveQuietly (f : PauseReasons → PauseReasons) (s : State) :
    KeepsPending s (changeLiveQuietly f s) := by
  unfold changeLiveQuietly
  split
  · exact .of_attention rfl
  · exact keepsPending_changeReasonsQuietly _ f s

theorem withMeter_ne_empty (q : PauseReasons) : q.withMeter ≠ .empty := fun h =>
  Bool.false_ne_true (congrArg PauseReasons.meter h).symm

section
variable (v : State)

theorem lostHalted_works : Acts (haltPlanner (post .meterState v)) (lostHalted v) :=
  (changeLiveQuietly_acts _ _).trans (confirmFault_acts (fun r => by cases r <;> decide) _ _)

theorem lostHalted_halted : (lostHalted v).planner.state = .halted :=
  (lostHalted_works v).plantKept.withdraws.keeps.1.trans (haltPlanner_state _)

theorem lostHalted_outputs (h : v.planner.state ≠ .halted) : OutputsOff (lostHalted v) :=
  outputsOff_congr (lostHalted_works v).plantKept (haltPlanner_outputs (s := post .meterState v) h)

theorem lostHalted_frame : (lostHalted v).localizer = v.localizer ∧ (lostHalted v).accounts = v.accounts ∧
    (lostHalted v).tariff = v.tariff ∧ (lostHalted v).meter = v.meter := by
  simp [lostHalted]

theorem lostHalted_fault_other {k : Fin 12} (hk : k ≠ 10) : (lostHalted v).fault k = v.fault k := by
  rw [lostHalted, confirmFault_other hk]
  exact fault_of_isolation (by simp) k

theorem lostHalted_posts (p : Port) : ((lostHalted v).attention.pendingOf p).getLsbD 9 = true := by
  refine keepsPending_confirmFault _ _ _ p 9 (keepsPending_changeLiveQuietly _ _ p 9 ?_)
  have hattention : (haltPlanner (post .meterState v)).attention = (post .meterState v).attention := by simp
  rw [hattention]
  exact post_pending p .meterState v

section
variable {v} {i : Fin 8} (hlive : liveSlot v = some i)
include hlive

theorem lostHalted_session : (lostHalted v).session i =
    (changeReasonsQuietly i PauseReasons.withMeter (haltPlanner (post .meterState v))).session i := by
  have hslot : liveSlot (haltPlanner (post .meterState v)) = some i := (liveSlot_of_sessions (by simp)).trans hlive
  have hsame : (lostHalted v).sessions =
      (changeLiveQuietly PauseReasons.withMeter (haltPlanner (post .meterState v))).sessions :=
    (confirmFault_frame _ _ _).1
  rw [session_eq_of_sessions hsame, changeLiveQuietly, hslot]

theorem lostHalted_meterReason : ((lostHalted v).session i).reasons.meter = true := by
  have hsession : (haltPlanner (post .meterState v)).session i = v.session i := session_eq_of_sessions (by simp) i
  rw [lostHalted_session hlive, changeReasonsQuietly_reasons _ (by rw [hsession]; exact liveSlot_some hlive)]
  rfl

theorem lostHalted_record (hmeter : (v.session i).reasons.meter = false) : (lostHalted v).session i =
    { v.session i with
      reasons := { (v.session i).reasons with meter := true }
      state := if (v.session i).state = .complete then .complete else .paused } := by
  have hsession : (haltPlanner (post .meterState v)).session i = v.session i := session_eq_of_sessions (by simp) i
  have hchange : (v.session i).reasons.withMeter ≠ (v.session i).reasons := fun h => by
    have hsame := congrArg PauseReasons.meter h
    rw [hmeter] at hsame
    exact Bool.false_ne_true hsame.symm
  rw [lostHalted_session hlive, changeReasonsQuietly_record (by rw [hsession]; exact liveSlot_some hlive)
    (by rw [hsession]; exact hchange), hsession, withReasons_eq (liveSlot_some hlive), if_neg (withMeter_ne_empty _)]
  rfl

end
end

/-! ### The abort of a dwell (R166) -/

/-- The zone that an aborted step had under test is back, its demand computed again. -/
theorem deliverVerdict_unresolved_zone {s : State} {rail : Rail} {z : Fin 6} (htarget : s.localizer.target = some rail)
    (hsuspect : s.localizer.suspect = some (.zone z)) :
    let restored := { s.zone z with underTest := false }
    (deliverVerdict .unresolved s).zone z =
      { restored with demand := demandOf (liveCold s) s.heating.preheat restored } := by
  intro restored
  rw [deliverVerdict_target htarget, writeVerdict_eq Verdict.noConfusion, verdictEffect,
    releaseSuspect_eq (x := .zone z) (s := s.setFault _ _) hsuspect]
  exact released_zone z _

theorem abortDwell_sessions (s : State) : (abortDwell s).sessions = s.sessions := by
  rcases abortDwell_cases s with ⟨-, heq⟩ | ⟨-, heq⟩
  · rw [heq]
  · rw [heq]; exact deliverVerdict_sessions Verdict.noConfusion s

theorem abortDwell_planner (s : State) : (abortDwell s).planner = s.planner := by
  rcases abortDwell_cases s with ⟨-, heq⟩ | ⟨-, heq⟩
  · rw [heq]
  · rw [heq]; exact (deliverVerdict_unresolved s).1

theorem abortDwell_idles (s : State) : (abortDwell s).localizer.state = .idle := by
  rcases abortDwell_cases s with ⟨hidle, heq⟩ | ⟨-, heq⟩
  · rw [heq, hidle]
  · rw [heq]; exact (deliverVerdict_record .unresolved s).1

theorem keepsPending_abortDwell (s : State) : KeepsPending s (abortDwell s) := by
  rcases abortDwell_cases s with ⟨-, heq⟩ | ⟨-, heq⟩
  · rw [heq]; exact .of_attention rfl
  · rw [heq]; exact keepsPending_deliverVerdict Verdict.noConfusion s

theorem abortDwell_fault {s : State} {k : Fin 12} (hk : ∀ r, k ≠ warnKey r) : (abortDwell s).fault k = s.fault k := by
  rcases abortDwell_cases s with ⟨-, heq⟩ | ⟨-, heq⟩
  · rw [heq]
  · rw [heq]; exact deliverVerdict_fault_other hk

end Sys2Proof.Machine
end

section
/-! The overdue and the lost timer (R22, R23, R83, R84, R86, R88). -/

namespace Sys2Proof.Machine

/-! ### An overdue expiry by link state (R83) -/

/-- The link record after an overdue expiry. -/
def MeterLink.afterExpiry (m : MeterLink) : MeterLink :=
  match m.state with
  | .synced => { m with overdue := 20000, state := .holding, heldCount := 1 }
  | .holding =>
    if m.heldCount < 4 then { m with overdue := 20000, heldCount := m.heldCount + 1 }
    else { m with overdue := 20000, state := .lost, heldCount := 5, lost := some 10000000 }
  | .recovering => { m with overdue := 20000, goodCount := 0 }
  | .searching => { m with overdue := 20000 }
  | .lost => { m with overdue := 20000 }

section
variable {u : State}

theorem takeOverdue_held (h : u.meter.state = .synced ∨ (u.meter.state = .holding ∧ u.meter.heldCount < 4)) :
    takeOverdue u = heldEvent (u.setMeter u.meter.afterExpiry) := by
  have hrearmed : (rearmOverdue u).meter.state = u.meter.state := rfl
  rcases h with hsynced | ⟨hholding, hless⟩
  · simp only [takeOverdue, MeterLink.afterExpiry, hrearmed, hsynced]
    rfl
  · have hcount : (rearmOverdue u).meter.heldCount < 4 := hless
    simp only [takeOverdue, MeterLink.afterExpiry, hrearmed, hholding, if_pos hless, if_pos hcount]
    rfl

theorem takeOverdue_quiet (h : u.meter.state = .searching ∨ u.meter.state = .lost ∨ u.meter.state = .recovering) :
    takeOverdue u = endClosing (u.setMeter u.meter.afterExpiry) := by
  have hrearmed : (rearmOverdue u).meter.state = u.meter.state := rfl
  rcases h with hstate | hstate | hstate <;>
    · simp only [takeOverdue, MeterLink.afterExpiry, hrearmed, hstate]
      rw [← hstate]
      rfl

theorem takeOverdue_lost (hholding : u.meter.state = .holding) (hfull : 4 ≤ u.meter.heldCount) :
    takeOverdue u = endClosing (abortDwell (lostHalted (u.setMeter u.meter.afterExpiry))) := by
  have hrearmed : (rearmOverdue u).meter.state = u.meter.state := rfl
  have hcount : ¬ (rearmOverdue u).meter.heldCount < 4 := Nat.not_lt.2 hfull
  simp only [takeOverdue, MeterLink.afterExpiry, hrearmed, hholding, if_neg (Nat.not_lt.2 hfull), if_neg hcount, lostEvent,
    enterLost_eq]
  rfl

theorem afterExpiry_lost (hholding : u.meter.state = .holding) (hfull : 4 ≤ u.meter.heldCount) :
    u.meter.afterExpiry.state = .lost := by
  simp only [MeterLink.afterExpiry, hholding, if_neg (Nat.not_lt.2 hfull)]

/-- Every expiry is of one of three kinds. -/
theorem overdue_kinds (m : MeterLink) : (m.state = .synced ∨ (m.state = .holding ∧ m.heldCount < 4)) ∨
    (m.state = .searching ∨ m.state = .lost ∨ m.state = .recovering) ∨ (m.state = .holding ∧ 4 ≤ m.heldCount) := by
  cases hstate : m.state with
  | synced => exact .inl (.inl rfl)
  | searching => exact .inr (.inl (.inl rfl))
  | lost => exact .inr (.inl (.inr (.inl rfl)))
  | recovering => exact .inr (.inl (.inr (.inr rfl)))
  | holding =>
    rcases Nat.lt_or_ge m.heldCount 4 with hless | hge
    · exact .inl (.inr ⟨rfl, hless⟩)
    · exact .inr (.inr ⟨rfl, hge⟩)

theorem takeOverdue_meter (u : State) : (takeOverdue u).meter = u.meter.afterExpiry := by
  rcases overdue_kinds u.meter with hheld | hquiet | ⟨hholding, hfull⟩
  · rw [takeOverdue_held hheld, heldEvent_meter]; rfl
  · rw [takeOverdue_quiet hquiet, (endClosing_frame _).1]; rfl
  · rw [takeOverdue_lost hholding hfull, (endClosing_frame _).1, (abortDwell_frame _).2.2.1, (lostHalted_frame _).2.2.2]
    rfl

/-- Whatever the link, the CLOSING session ends. -/
theorem takeOverdue_closes {i : Fin 8} (hslot : closingSlot u = some i) (hqueue : i ∉ u.sessions.queue) :
    ((takeOverdue u).session i).state = .closed := by
  rcases overdue_kinds u.meter with hheld | hquiet | ⟨hholding, hfull⟩
  · rw [takeOverdue_held hheld]; exact heldEvent_closes hslot hqueue
  · rw [takeOverdue_quiet hquiet, endClosing_closes (s := u.setMeter u.meter.afterExpiry) hslot hqueue]; rfl
  · rw [takeOverdue_lost hholding hfull]
    have hkept : ClosingKept u (abortDwell (lostHalted (u.setMeter u.meter.afterExpiry))) := by
      refine .trans (t := lostHalted (u.setMeter u.meter.afterExpiry)) ?_ (.of_sessions (abortDwell_sessions _))
      refine .trans (.of_sessions ?_) (lostHalted_works _).closingKept
      simp
    rw [endClosing_closes (hkept.slot.trans hslot) (by rw [hkept.queue]; exact hqueue)]
    rfl

end

/-! ### What the entry to LOST leaves (R86) -/

section
variable {v : State}

/-- What an aborted dwell leaves of the entry to LOST. -/
theorem lostAborted (r : Rail) (hdwell : v.localizer.state = .dwell) (htarget : v.localizer.target = some r) :
    EndsLocalization r .unresolved (lostHalted v) (abortDwell (lostHalted v)) ∧
    (abortDwell (lostHalted v)).sessions = (lostHalted v).sessions ∧
    (abortDwell (lostHalted v)).planner = (lostHalted v).planner ∧
    ∀ z, v.localizer.suspect = some (.zone z) →
      let restored := { (lostHalted v).zone z with underTest := false }
      (abortDwell (lostHalted v)).zone z =
        { restored with demand := demandOf (liveCold (lostHalted v)) (lostHalted v).heating.preheat restored } := by
  have hlocalizer := (lostHalted_frame v).1
  have htarget' : (lostHalted v).localizer.target = some r := by rw [hlocalizer, htarget]
  refine ⟨?_, abortDwell_sessions _, abortDwell_planner _, fun z hz => ?_⟩
  · rw [abortDwell_dwell _ (by rw [hlocalizer, hdwell])]
    exact endsLocalization_deliverVerdict htarget' .unresolved
  · rw [abortDwell_dwell _ (by rw [hlocalizer, hdwell])]
    exact deliverVerdict_unresolved_zone htarget' (by rw [hlocalizer, hz])

/-- What the end of a CLOSING session leaves of the entry to LOST. -/
theorem endClosing_leaves {a t : State} (ht : t = endClosing a) :
    t.planner = a.planner ∧ t.supply = a.supply ∧ (∀ k, t.fault k = a.fault k) ∧ t.localizer = a.localizer ∧
    KeepsPending a t ∧ ∀ i, (a.session i).state.isLive = true → a.meter.state.isGood = false →
      (a.session i).reasons.meter = true → (t.session i).reasons.meter = true := by
  subst ht
  obtain ⟨hplanner, hisolation, hlocalizer, hsupply⟩ := endClosing_blocks a
  refine ⟨hplanner, hsupply, fault_of_isolation hisolation, hlocalizer, keepsPending_endClosing a, fun i hlive hlink hmeter => ?_⟩
  have hother : (a.session i).state ≠ .closing := by
    intro hclosing
    rw [hclosing] at hlive
    cases hlive
  rcases endClosing_other hother with heq | ⟨u, hsame, heq⟩
  · rw [heq]; exact hmeter
  · have hreason : ((a.session i).gone u).reasons.meter = !u.meter.state.isGood := rfl
    rw [heq, hreason, hsame, hlink]
    rfl

/-- What the whole event of an entry to LOST leaves. -/
theorem lostEvent_leaves {t : State} (hlost : v.meter.state = .lost) (ht : t = endClosing (abortDwell (lostHalted v))) :
    t.planner.state = .halted ∧ (v.planner.state ≠ .halted → OutputsOff t) ∧ (t.fault 10).state = .active ∧
    t.localizer.state = .idle ∧ t.attention.pendingCp.getLsbD 9 = true ∧
    ∀ i, liveSlot v = some i → (t.session i).reasons.meter = true := by
  obtain ⟨hplanner, hsupply, hfault, hlocalizer, hpending, hreasons⟩ := endClosing_leaves ht
  have hstopped : t.planner = (lostHalted v).planner := hplanner.trans (abortDwell_planner _)
  refine ⟨by rw [hstopped, lostHalted_halted], fun hrunning => ?_, ?_, ?_, ?_, fun i hlive => ?_⟩
  · obtain ⟨hlines, hcommand, hrequest⟩ := lostHalted_outputs v hrunning
    have hline : t.supply = (lostHalted v).supply := hsupply.trans (abortDwell_frame _).2.2.2.1
    rw [OutputsOff, hstopped, hline]
    exact ⟨hlines, hcommand, hrequest⟩
  · rw [hfault, abortDwell_fault fun r => by cases r <;> decide]
    exact confirmFault_state 10 none _
  · rw [hlocalizer]; exact abortDwell_idles _
  · exact hpending .cp 9 (keepsPending_abortDwell _ .cp 9 (lostHalted_posts v .cp))
  · have hsession := session_eq_of_sessions (abortDwell_sessions (lostHalted v)) i
    have hlink : (abortDwell (lostHalted v)).meter.state = .lost := by
      rw [(abortDwell_frame _).2.2.1, (lostHalted_frame v).2.2.2, hlost]
    have hstarted : (haltPlanner (post .meterState v)).session i = v.session i := session_eq_of_sessions (by simp) i
    refine hreasons i ?_ (by rw [hlink]; rfl) (by rw [hsession]; exact lostHalted_meterReason hlive)
    rw [hsession, (lostHalted_works v).isLive_eq, hstarted]
    exact liveSlot_some hlive

end

/-! ### The lost timer (R23, R88) -/

theorem takeLostExpiry_none {s : State} (h : s.meter.lost = none) : takeLostExpiry s = s := by
  simp only [takeLostExpiry, h]

theorem takeLostExpiry_some {s : State} {us : Nat} (h : s.meter.lost = some us) :
    takeLostExpiry s = sessionsMeterLost (s.setMeter { s.meter with lost := none }) := by
  simp only [takeLostExpiry, h]

theorem sessionsMeterLost_none {s : State} (h : liveSlot s = none) : sessionsMeterLost s = s := by
  simp only [sessionsMeterLost, h]

theorem leftActive_closeRecord (reason : CloseReason) (i : Fin 8) (s : State) :
    leftActive i s (closeRecord reason i s) = decide ((s.session i).state = .active) := by
  rw [leftActive, closeRecord_session, if_pos rfl, Bool.eq_iff_iff]
  simp [Session.closedRecord]

theorem sessionsMeterLost_some {s : State} {i : Fin 8} (h : liveSlot s = some i) : sessionsMeterLost s =
    handOver (sessionChanged (decide ((s.session i).state = .active)) (closeRecord .meterLost i s)) := by
  simp only [sessionsMeterLost, h, closeSession, if_pos (liveSlot_some h), leftActive_closeRecord]

/-- What is left of a live session whose link is lost, its change handed on and the head of the queue live. -/
theorem closed_handedOver {reason : CloseReason} {left : Bool} {i : Fin 8} {s t : State}
    (ht : t = handOver (sessionChanged left (closeRecord reason i s))) :
    t.meter = s.meter ∧ t.attention.pendingCp.getLsbD 3 = true ∧
    (i ∉ s.sessions.queue → t.session i = (s.session i).closedRecord reason s) := by
  subst ht
  refine ⟨by simp, ?_, fun hqueue => ?_⟩
  · refine keepsPending_handOver _ .cp 3 (keepsPending_sessionChanged left _ .cp 3 ?_)
    rw [closeRecord_eq]
    exact post_pending .cp .sessionClosed _
  · have hqueue' : i ∉ (sessionChanged left (closeRecord reason i s)).sessions.queue := by
      rw [sessionChanged_sessions, closeRecord_queue]; exact hqueue
    rw [handOver_session hqueue', session_eq_of_sessions (sessionChanged_sessions left _), closeRecord_session, if_pos rfl]

/-- Settles O33: the expiry by its three kinds, the entry to LOST piece by piece, the lost timer by its live session. -/
theorem overdueAndLostExpiry : Obligations.OverdueAndLostExpiry := by
  unfold Obligations.OverdueAndLostExpiry
  intro handed ended
  have hended (v : State) : endClosing v = ended v := by
    show _ = match closingSlot v with
      | none => v
      | some i => handOver (closeRecord .stoppedControl i v)
    cases hslot : closingSlot v with
    | none => exact endClosing_none hslot
    | some i => exact endClosing_some hslot
  refine ⟨fun s => ⟨_, rfl, ?_⟩, fun s hnone => ?_, fun s us hsome => ?_⟩
  · intro u link
    have hlink : u.meter.afterExpiry = link := rfl
    clear_value link
    subst hlink
    have hsame : liveSlot (u.setMeter u.meter.afterExpiry) = liveSlot s := liveSlot_of_sessions rfl
    refine ⟨takeOverdue_meter u, fun hquiet => ?_, fun hholding hfull => ?_, fun hholding hfull => ?_,
      fun i hslot hqueue => takeOverdue_closes (u := u) hslot hqueue⟩
    · exact (takeOverdue_quiet (u := u) hquiet).trans (hended _)
    · have htaken := takeOverdue_lost (u := u) hholding hfull
      obtain ⟨hlocalizer, haccounts, htariff, -⟩ := lostHalted_frame (u.setMeter u.meter.afterExpiry)
      rw [hended] at htaken
      refine ⟨lostHalted (u.setMeter u.meter.afterExpiry), abortDwell (lostHalted (u.setMeter u.meter.afterExpiry)), htaken,
        rfl, lostHalted_halted _, ?_, ?_, ?_, hlocalizer, haccounts, htariff, ?_, ?_, ?_⟩
      · exact fun hrunning => lostHalted_outputs (u.setMeter u.meter.afterExpiry) hrunning
      · exact confirmFault_state 10 none _
      · exact fun k hk => lostHalted_fault_other (u.setMeter u.meter.afterExpiry) hk
      · exact fun i hlive hmeter => lostHalted_record (v := u.setMeter u.meter.afterExpiry) (hsame.trans hlive) hmeter
      · exact fun hidle => abortDwell_idle _ ((congrArg Localizer.state hlocalizer).trans hidle)
      · intro r hdwell htarget
        exact lostAborted (v := u.setMeter u.meter.afterExpiry) r hdwell htarget
    · obtain ⟨hstate, houtputs, hfault, hidle, hposts, hreasons⟩ :=
        lostEvent_leaves (afterExpiry_lost (u := u) hholding hfull) (takeOverdue_lost (u := u) hholding hfull)
      exact ⟨hstate, houtputs, hfault, hidle, hposts, fun i hlive => hreasons i (hsame.trans hlive)⟩
  · have hpassed : (passTime (s.meter.lost.getD 0) s).meter.lost = none := by
      show s.meter.lost.map _ = none
      rw [hnone]; rfl
    have hexec : exec .lostTimerExpiry s = .next (takeLostExpiry (passTime (s.meter.lost.getD 0) s)) := rfl
    rw [hexec, takeLostExpiry_none hpassed, hnone]
    rfl
  · intro u stopped
    have hexec : exec .lostTimerExpiry s = .next (sessionsMeterLost stopped) := by
      have hrun : exec .lostTimerExpiry s = .next (takeLostExpiry (passTime (s.meter.lost.getD 0) s)) := rfl
      have hleft : u.meter.lost = some (us - us) := by
        show s.meter.lost.map _ = _
        rw [hsome]; rfl
      rw [hrun, hsome]
      exact congrArg Host.Outcome.next (takeLostExpiry_some hleft)
    refine ⟨fun hnone => by rw [hexec, sessionsMeterLost_none (s := stopped) hnone], fun i hlive => ?_⟩
    have hlost := sessionsMeterLost_some (s := stopped) hlive
    obtain ⟨hmeter, hposts, hclosed⟩ := closed_handedOver hlost
    refine ⟨sessionsMeterLost stopped, hlost, hexec, hmeter, hposts, fun hqueue => ?_⟩
    rw [hclosed hqueue]
    exact ⟨rfl, rfl⟩

end Sys2Proof.Machine
end

section
/-! SUPPORT. What none of the takers of an accepted frame changes but the planner the derate and the Heat Controller the
readings: derate, zone settings and readings, isolation settings, the METER_LOST record, and pending causes (R82). -/

namespace Sys2Proof.Machine

/-! ### The relation -/

/-- Two zone records with the same settings and readings. -/
def SameSetup (r r' : Zone) : Prop :=
  r'.mode = r.mode ∧ r'.drive = r.drive ∧ r'.target = r.target ∧ r'.rated = r.rated ∧
  r'.temperature = r.temperature ∧ r'.streak = r.streak

theorem SameSetup.refl (r : Zone) : SameSetup r r := ⟨rfl, rfl, rfl, rfl, rfl, rfl⟩

theorem SameSetup.trans {a b c : Zone} : SameSetup a b → SameSetup b c → SameSetup a c
  | ⟨h1, h2, h3, h4, h5, h6⟩, ⟨g1, g2, g3, g4, g5, g6⟩ =>
    ⟨g1.trans h1, g2.trans h2, g3.trans h3, g4.trans h4, g5.trans h5, g6.trans h6⟩

theorem Zone.Tested.sameSetup {r r' : Zone} (h : r.Tested r') : SameSetup r r' := by
  rw [h]; exact ⟨rfl, rfl, rfl, rfl, rfl, rfl⟩

/-- What a taker leaves that writes neither derate nor readings. -/
structure Leaves (s t : State) : Prop where
  derate : t.planner.derate = s.planner.derate
  zones : ∀ z, SameSetup (s.zone z) (t.zone z)
  settings : t.isolation.settings = s.isolation.settings
  lost : t.fault 10 = s.fault 10
  pending : KeepsPending s t

theorem Leaves.refl (s : State) : Leaves s s := ⟨rfl, fun _ => .refl _, rfl, rfl, .of_attention rfl⟩

theorem Leaves.trans {s t u : State} (h : Leaves s t) (h' : Leaves t u) : Leaves s u :=
  ⟨h'.derate.trans h.derate, fun z => (h.zones z).trans (h'.zones z), h'.settings.trans h.settings, h'.lost.trans h.lost,
    h.pending.trans h'.pending⟩

theorem Leaves.ite {s t u : State} {c : Prop} [Decidable c] (ht : Leaves s t) (hu : Leaves s u) :
    Leaves s (if c then t else u) := by
  split
  · exact ht
  · exact hu

theorem foldl_leaves {α : Type} {f : State → α → State} (hf : ∀ s x, Leaves s (f s x)) (l : List α) (s : State) :
    Leaves s (l.foldl f s) := foldl_keeps (P := Leaves s) (fun _ x h => h.trans (hf _ x)) l (.refl s)

theorem Withdraws.derate {p q : Planner} (h : Withdraws p q) : q.derate = p.derate := by
  induction h with
  | refl => rfl
  | trans _ _ ih ih' => exact ih'.trans ih
  | cut budget p => rw [Planner.cut_eq]
  | charger p => rw [Planner.withdrawCharger, mapNotBegun_eq]
  | zone y p => rw [Planner.withdrawZone, mapNotBegun_eq]
  | zoneAtOnce y p => rw [Planner.withdrawAtOnce, mapFromRunning_eq]

section
variable {s t : State}

/-- Work that does not reach heating and monitor. -/
theorem Leaves.of_plan (hderate : t.planner.derate = s.planner.derate) (hheating : t.heating = s.heating)
    (hisolation : t.isolation = s.isolation) (hpending : KeepsPending s t) : Leaves s t :=
  ⟨hderate, fun z => by rw [zone_of_heating hheating]; exact .refl _, by rw [hisolation], fault_of_isolation hisolation 10,
    hpending⟩

/-- Work that reaches none of the blocks in question. -/
theorem Leaves.of_same (hplanner : t.planner = s.planner) (hheating : t.heating = s.heating)
    (hisolation : t.isolation = s.isolation) (hattention : t.attention = s.attention) : Leaves s t :=
  .of_plan (by rw [hplanner]) hheating hisolation (.of_attention hattention)

theorem Acts.leaves (h : Acts s t) (hheating : t.heating = s.heating) (hisolation : t.isolation = s.isolation)
    (hpending : KeepsPending s t) : Leaves s t :=
  .of_plan h.plantKept.withdraws.derate hheating hisolation hpending

end

theorem leaves_post (c : Cause) (s : State) : Leaves s (post c s) := .of_plan rfl rfl rfl (keepsPending_post c s)

theorem leaves_setZone {s : State} {z : Fin 6} {r : Zone} (h : SameSetup (s.zone z) r) : Leaves s (s.setZone z r) := by
  refine ⟨rfl, fun y => ?_, rfl, rfl, .of_attention rfl⟩
  rw [State.setZone_at]
  split
  · next hzy => exact hzy ▸ h
  · exact .refl _

theorem leaves_setPlanner {s : State} {q : Planner} (h : q.derate = s.planner.derate) : Leaves s (s.setPlanner q) :=
  .of_plan h rfl rfl (.of_attention rfl)

theorem leaves_setFault {s : State} {k : Fin 12} (hk : k ≠ 10) (f : FaultRecord) : Leaves s (s.setFault k f) :=
  ⟨rfl, fun _ => .refl _, rfl, State.setFault_other s k 10 f hk, .of_attention rfl⟩

theorem leaves_setIsolation {s : State} {m : IsolationMonitor} (hfaults : m.faults = s.isolation.faults)
    (hsettings : m.settings = s.isolation.settings) : Leaves s (s.setIsolation m) := by
  refine ⟨rfl, fun _ => .refl _, hsettings, ?_, .of_attention rfl⟩
  show m.faults[(10 : Fin 12)] = _
  rw [hfaults]
  rfl

theorem ZonesTested.leaves {s t : State} (h : ZonesTested s t) (hplanner : t.planner = s.planner)
    (hisolation : t.isolation = s.isolation) (hattention : t.attention = s.attention) : Leaves s t :=
  ⟨by rw [hplanner], fun z => (h.2 z).sameSetup, by rw [hisolation], fault_of_isolation hisolation 10,
    .of_attention hattention⟩

theorem lostKey_ne_warnKey (r : Rail) : (10 : Fin 12) ≠ warnKey r := by cases r <;> decide
theorem feedKey_ne_lostKey (k : CompareKind) (r : Rail) : feedKey k r ≠ 10 := by cases k <;> cases r <;> decide
theorem heaterKey_ne_lostKey (z : Fin 6) : heaterKey z ≠ 10 := by
  intro h
  have hval : z.val + 4 = 10 := congrArg Fin.val h
  omega

/-! ### Fault records and reasons (R9, R147) -/

theorem leaves_confirmFault {k : Fin 12} (hk : k ≠ 10) (reading : Option Nat) (s : State) :
    Leaves s (confirmFault k reading s) := by
  by_cases h : (s.fault k).state = .active
  · rw [confirmFault_active h]; exact .refl s
  · rw [confirmFault_raised h]; exact (leaves_setFault hk _).trans (leaves_post _ _)

theorem leaves_clearFault {k : Fin 12} (hk : k ≠ 10) (s : State) : Leaves s (clearFault k s) := by
  unfold clearFault
  split
  · exact (leaves_setFault hk _).trans (leaves_post _ _)
  · exact .refl s

theorem leaves_changeReasonsQuietly (i : Fin 8) (f : PauseReasons → PauseReasons) (s : State) :
    Leaves s (changeReasonsQuietly i f s) :=
  (changeReasonsQuietly_acts i f s).leaves (by simp) (by simp) (keepsPending_changeReasonsQuietly i f s)

theorem leaves_handIsolation (before : Bool) (s : State) : Leaves s (handIsolation before s) :=
  (handIsolation_acts before s).leaves (by simp) (by simp) (keepsPending_handIsolation before s)

/-! ### The Localizer (R162 to R167) -/

theorem leaves_writeVerdict (rail : Rail) (v : Verdict) (s : State) : Leaves s (writeVerdict rail v s) :=
  (leaves_setFault (lostKey_ne_warnKey rail).symm _).trans (leaves_handIsolation _ _)

theorem leaves_clearUnderTest (z : Fin 6) (s : State) : Leaves s (clearUnderTest z s) := by
  rw [clearUnderTest_eq]
  exact leaves_setZone ⟨rfl, rfl, rfl, rfl, rfl, rfl⟩

theorem leaves_excludeZone (z : Fin 6) (s : State) : Leaves s (excludeZone z s) := by
  cases h : (s.zone z).excluded with
  | true => rw [excludeZone_excluded h]; exact .refl s
  | false =>
    rw [excludeZone_eq h]
    refine .trans (t := s.setIsolation { s.isolation with votes := s.isolation.votes.set z 0 })
      (leaves_setIsolation rfl rfl) ?_
    refine .trans (leaves_setZone (z := z) ?_) (leaves_setPlanner (Withdraws.zoneAtOnce z _).derate)
    exact ⟨rfl, rfl, rfl, rfl, rfl, rfl⟩

theorem leaves_releaseSuspect (s : State) : Leaves s (releaseSuspect s) :=
  (zonesTested_releaseSuspect s).leaves (by simp) (by simp) (by simp)

theorem leaves_deliverVerdict (v : Verdict) (s : State) : Leaves s (deliverVerdict v s) := by
  have heffect (u : State) : Leaves u (verdictEffect v u) := by
    cases v with
    | zone z => exact (leaves_excludeZone z u).trans (leaves_clearUnderTest z _)
    | charger | packSide => exact .refl u
    | unresolved => exact leaves_releaseSuspect u
  have hended (u : State) : Leaves u (post .localizeDone ((verdictEffect v u).setLocalizer
      ((verdictEffect v u).localizer.ended v))) := by
    refine (heffect u).trans (.trans (t := (verdictEffect v u).setLocalizer _) ?_ (leaves_post _ _))
    exact .of_same rfl rfl rfl rfl
  unfold deliverVerdict
  refine .trans ?_ (hended _)
  split
  · exact leaves_writeVerdict _ v s
  · exact .refl s

theorem beginStep_derate (x : Suspect) (rest : List Suspect) (s : State) :
    (beginStep x rest s).planner.derate = s.planner.derate := by
  cases x with
  | zone z => rw [beginStep_zone]; exact (Withdraws.zoneAtOnce z s.planner).derate
  | charger => exact (Withdraws.charger s.planner).derate

theorem leaves_beginStep (x : Suspect) (rest : List Suspect) (s : State) : Leaves s (beginStep x rest s) :=
  ⟨beginStep_derate x rest s, fun z => ((zonesTested_beginStep x rest s).2 z).sameSetup, by simp,
    fault_of_isolation (by simp) 10, .of_attention (by simp)⟩

theorem leaves_nextStep (s : State) : Leaves s (nextStep s) := by
  rcases takeSuspect_cases s.localizer.stack.reverse s with ⟨-, heq⟩ | ⟨-, x, below, -, -, -, heq⟩
  · rw [nextStep, heq]
    exact .trans (t := s.setLocalizer { s.localizer with stack := [] }) (.of_same rfl rfl rfl rfl)
      (leaves_deliverVerdict .packSide _)
  · rw [nextStep, heq]
    exact leaves_beginStep x _ s

theorem leaves_advanceSuspect (s : State) : Leaves s (advanceSuspect s) :=
  (leaves_releaseSuspect s).trans (leaves_nextStep _)

theorem leaves_localizerSessionLeft (s : State) : Leaves s (localizerSessionLeft s) :=
  .ite (leaves_advanceSuspect s) (.refl s)

theorem leaves_localizerZoneOff (z : Fin 6) (s : State) : Leaves s (localizerZoneOff z s) :=
  .ite (leaves_advanceSuspect s) (.refl s)

theorem leaves_startLocalization (rail : Rail) (s : State) : Leaves s (startLocalization rail s) :=
  .trans (t := s.setLocalizer { s.localizer with target := some rail, stack := suspectStack s }) (.of_same rfl rfl rfl rfl)
    (leaves_nextStep _)

theorem leaves_abortDwell (s : State) : Leaves s (abortDwell s) := .ite (leaves_deliverVerdict _ s) (.refl s)

theorem leaves_localizerFrame (f : MeterFrame) (s : State) : Leaves s (localizerFrame f s) := by
  have hevaluated (u : State) : Leaves u (evaluateStep u) := by
    unfold evaluateStep
    split
    · exact .refl u
    · split
      · exact leaves_deliverVerdict _ u
      · exact leaves_advanceSuspect u
  unfold localizerFrame
  split
  · next rail _ _ =>
    have hcounted : Leaves s (s.setLocalizer (s.localizer.counted (f.reading rail))) := .of_same rfl rfl rfl rfl
    split
    · dsimp only
      split
      · exact hcounted.trans (hevaluated _)
      · exact hcounted
    · exact .refl s
  · exact .refl s

theorem leaves_changeReasons (i : Fin 8) (f : PauseReasons → PauseReasons) (s : State) : Leaves s (changeReasons i f s) :=
  .ite ((leaves_changeReasonsQuietly i f s).trans (leaves_localizerSessionLeft _)) (leaves_changeReasonsQuietly i f s)

theorem leaves_changeLive (f : PauseReasons → PauseReasons) (s : State) : Leaves s (changeLive f s) := by
  unfold changeLive
  split
  · exact .refl s
  · exact leaves_changeReasons _ f s

theorem leaves_sessionChanged (left : Bool) (s : State) : Leaves s (sessionChanged left s) := by
  have hplanned : Leaves s (plannerSessionChanged left s) :=
    (plannerSessionChanged_acts left s).leaves (by simp) (by simp) (.of_attention (by simp))
  exact .ite (hplanned.trans (leaves_localizerSessionLeft _)) hplanned

end Sys2Proof.Machine
end

section
/-! SUPPORT. What each taker of an accepted frame leaves of derate, readings, settings and pending causes (R82). -/

namespace Sys2Proof.Machine

/-! ### The accrual (R61 to R74) -/

theorem leaves_judgeCredit (i : Fin 8) (role : HoldRole) (grant : Nat) (s : State) :
    Leaves s (judgeCredit i role grant s) := by
  unfold judgeCredit
  dsimp only
  split
  · exact .refl s
  · split
    · split
      · refine .trans ?_ (leaves_changeReasons _ _ _)
        exact .ite (.refl s) (leaves_post _ s)
      · exact .refl s
    · exact .ite (leaves_changeReasons _ _ s) (.refl s)

theorem leaves_checkHold (i : Fin 8) (role : HoldRole) (s : State) : Leaves s (checkHold i role s) := by
  unfold checkHold
  split
  · cases haccount : (s.session i).accountOf role with
    | none => rw [askTopUp_none haccount]; exact .refl s
    | some a =>
      rw [askTopUp_some haccount]
      refine .trans (t := grantHold i role a s) ?_ (leaves_judgeCredit i role _ _)
      exact .of_same rfl rfl rfl rfl
  · exact .refl s

theorem leaves_priceMany (i : Fin 8) (role : HoldRole) (n : Nat) (s : State) : Leaves s (priceMany i role n s) := by
  have hone (u : State) : Leaves u (priceOne i role u) := by
    rw [priceOne_eq]
    refine .trans (t := u.setSession i ((u.session i).addCost role (currentRate role (u.session i) u))) ?_ ?_
    · exact .of_same rfl rfl rfl rfl
    · exact (leaves_checkHold i .charge _).trans (leaves_checkHold i .heat _)
  rw [priceMany_eq]
  induction n with
  | zero => exact .refl s
  | succ n ih => rw [Function.iterate_succ_apply']; exact ih.trans (hone _)

theorem leaves_accrueEnergy (i : Fin 8) (p : Powers) (held : Bool) (s : State) : Leaves s (accrueEnergy i p held s) := by
  unfold accrueEnergy
  dsimp only
  split
  · exact .of_same rfl rfl rfl rfl
  · refine .trans (t := s.setSession i ((s.session i).accrued p held)) (.of_same rfl rfl rfl rfl) ?_
    exact (leaves_priceMany i .charge _ _).trans (leaves_priceMany i .heat _ _)

theorem leaves_judgeCompletion (i : Fin 8) (s : State) : Leaves s (judgeCompletion i s) := by
  rw [judgeCompletion_eq]
  split
  · refine .trans (t := s.setSession i { s.session i with state := .complete }) ?_ (leaves_sessionChanged _ _)
    exact .of_same rfl rfl rfl rfl
  · exact .refl s

theorem leaves_accrue (held : Bool) (source : Option BudgetSource) (s : State) : Leaves s (accrue held source s) := by
  unfold accrue
  split
  · exact (leaves_accrueEnergy _ _ held s).trans (leaves_judgeCompletion _ _)
  · exact .refl s

theorem endClosing_heating (s : State) : (endClosing s).heating = s.heating := by
  cases hslot : closingSlot s with
  | none => rw [endClosing_none hslot]
  | some i => rw [endClosing_some hslot]; simp

theorem leaves_endClosing (s : State) : Leaves s (endClosing s) := by
  obtain ⟨hplanner, hisolation, -, -⟩ := endClosing_blocks s
  exact .of_plan (by rw [hplanner]) (endClosing_heating s) hisolation (keepsPending_endClosing s)

/-! ### The Isolation Monitor (R144 to R153) -/

theorem leaves_haltPlanner (s : State) : Leaves s (haltPlanner s) := by
  by_cases h : s.planner.state = .halted
  · rw [haltPlanner_of_halted h]; exact .refl s
  · rw [haltPlanner_of_not_halted h]
    refine ⟨rfl, fun z => ?_, rfl, rfl, .of_attention rfl⟩
    have hzone := clearGrants_zone (s.setPlanner (s.planner.allOff .halted)) z
    refine (show SameSetup (s.zone z) ((clearGrants (s.setPlanner (s.planner.allOff .halted))).zone z) from ?_)
    rw [hzone]
    exact ⟨rfl, rfl, rfl, rfl, rfl, rfl⟩

theorem leaves_confirmedHandOff (k : CompareKind) (r : Rail) (before : Bool) (s : State) :
    Leaves s (confirmedHandOff k r before s) := by
  cases k with
  | warning => exact .ite (leaves_startLocalization r s) (.refl s)
  | trip =>
    exact (leaves_haltPlanner s).trans ((leaves_handIsolation before _).trans (leaves_abortDwell _))

theorem leaves_comparatorWork (k : CompareKind) (r : Rail) (reading : Nat) (s : State) :
    Leaves s (comparatorWork k r reading s) := by
  have hacts (u : State) : Leaves u (actOnRecord k r reading u) := by
    unfold actOnRecord
    dsimp only
    split
    · exact .ite (leaves_clearFault (feedKey_ne_lostKey k r) u) (.refl u)
    · refine .ite ?_ (.refl u)
      exact (leaves_confirmFault (feedKey_ne_lostKey k r) _ u).trans (leaves_confirmedHandOff k r _ _)
  unfold comparatorWork
  dsimp only
  refine .trans ?_ (hacts _)
  refine .trans (t := s.setIsolation (s.isolation.setComparator k r _)) ?_ (leaves_setFault (feedKey_ne_lostKey k r) _)
  exact leaves_setIsolation (setComparator_faults k r _ _) (setComparator_settings k r _ _)

theorem leaves_judgeVotes (s : State) (z : Fin 6) : Leaves s (judgeVotes s z) := by
  by_cases h : s.isolation.votes[z] = 8
  · rw [judgeVotes_excludes h]
    refine .trans (t := noted s z) ?_ ((leaves_excludeZone z _).trans (leaves_localizerZoneOff z _))
    exact (leaves_confirmFault (heaterKey_ne_lostKey z) none s).trans (leaves_setIsolation rfl rfl)
  · rw [judgeVotes_stands h]; exact .refl s

theorem leaves_mismatchWork (f : MeterFrame) (ended : Option PlanEntry) (s : State) :
    Leaves s (mismatchWork f ended s) := by
  unfold mismatchWork
  split
  · exact .refl s
  · next e =>
    refine .ite (.refl s) ?_
    refine .trans (t := countVotes e _ s) ?_ (foldl_leaves leaves_judgeVotes _ _)
    exact leaves_setIsolation rfl rfl

theorem leaves_isolationFrame (f : MeterFrame) (ended : Option PlanEntry) (s : State) :
    Leaves s (isolationFrame f ended s) := by
  have hrail (r : Rail) (reading : Nat) (u : State) : Leaves u (railWork r reading u) :=
    (leaves_comparatorWork .warning r reading u).trans (leaves_comparatorWork .trip r reading _)
  refine .trans ?_ (leaves_mismatchWork f ended _)
  exact .ite ((hrail .pos _ s).trans (hrail .neg _ _)) (.refl s)

/-! ### The planner (R110 to R118) -/

theorem leaves_evaluateAdmission (s : State) : Leaves s (evaluateAdmission s) := by
  have hjudged (u : State) : Leaves u (judgeCold u) := by
    unfold judgeCold
    split
    · exact leaves_changeLive _ u
    · split
      · exact .refl u
      · exact .ite (leaves_changeLive _ u) (.refl u)
  refine .trans (t := storeAdmission s) ⟨rfl, fun _ => .refl _, rfl, rfl, .of_attention rfl⟩ ((hjudged _).trans ?_)
  exact (zonesTested_recomputeDemands _).leaves (by simp) (by simp) (by simp)

theorem leaves_buildPlan (s : State) : Leaves s (buildPlan s) := by
  have hzone (z : Fin 6) : ∃ granted deferred,
      (buildPlan s).zone z = { s.zone z with granted := granted, deferred := deferred } := by
    refine ⟨_, _, mapIndexed_get (fun k (r : Zone) => { r with
      granted := (placeZones (cycleBudget s) (heaterCapOf s) s.heating.zones).granted[k]
      deferred := (placeZones (cycleBudget s) (heaterCapOf s) s.heating.zones).deferred[k] }) s.heating.zones z⟩
  refine ⟨rfl, fun z => ?_, by simp, fault_of_isolation (by simp) 10, .of_attention (by simp)⟩
  obtain ⟨granted, deferred, heq⟩ := hzone z
  rw [heq]
  exact ⟨rfl, rfl, rfl, rfl, rfl, rfl⟩

theorem leaves_cycleBoundary (s : State) : Leaves s (cycleBoundary s) :=
  (leaves_evaluateAdmission s).trans ((leaves_buildPlan _).trans (leaves_setPlanner rfl))

theorem leaves_endSlot (s : State) : Leaves s (endSlot s) := by
  cases hslot : s.planner.slot with
  | none => rw [endSlot_none hslot]; exact .refl s
  | some k =>
    rw [endSlot_some hslot]
    exact .ite (leaves_cycleBoundary s) (leaves_setPlanner rfl)

theorem leaves_cutBudget (s : State) : Leaves s (cutBudget s) := leaves_setPlanner (Withdraws.cut _ _).derate

theorem leaves_releasePlanner (s : State) : Leaves s (releasePlanner s) := .ite (leaves_setPlanner rfl) (.refl s)

/-- The planner takes the frame: the derate is the next one, the rest is left. -/
theorem leaves_plannerAccepted (f : MeterFrame) (halted entered : Bool) (s : State) :
    Leaves (s.setPlanner { s.planner with derate := nextDerate s.planner.derate f.inlet.toInt })
      (plannerAccepted f halted entered s) := by
  unfold plannerAccepted
  dsimp only
  generalize s.setPlanner { s.planner with derate := nextDerate s.planner.derate f.inlet.toInt } = u
  split
  · exact .ite (leaves_releasePlanner u) (.refl u)
  · exact .ite (leaves_cycleBoundary u) (.refl u)
  · refine .ite (leaves_cycleBoundary u) ?_
    exact .ite ((leaves_endSlot u).trans (leaves_cutBudget _)) (leaves_endSlot u)

end Sys2Proof.Machine
end

section
/-! An accepted frame: the link record, the readings, the derate, and what its takers leave (R80 to R87, R118, R130). -/

namespace Sys2Proof.Machine

/-! ### One taker among the others -/

/-- What taker `x` does to the state that the others only carry on. -/
theorem foldl_once {P Q : State → State → Prop} {g : State → Taker → State} {x : Taker} {order : List Taker} {s : State}
    (hrefl : ∀ u, P u u) (htrans : ∀ u v w, P u v → P v w → P u w) (hothers : ∀ u y, y ≠ x → P u (g u y))
    (hx : ∀ u, Q u (g u x)) (hbefore : ∀ u v w, P u v → Q v w → Q u w) (hafter : ∀ u v w, Q u v → P v w → Q u w)
    (hmem : x ∈ order) (hnodup : order.Nodup) : Q s (order.foldl g s) := by
  have hrest (l : List Taker) (hl : x ∉ l) (u : State) : P u (l.foldl g u) := by
    induction l generalizing u with
    | nil => exact hrefl u
    | cons y rest ih =>
      obtain ⟨hy, hrest⟩ := not_or.1 (mt List.mem_cons.2 hl)
      exact htrans _ _ _ (hothers u y (Ne.symm hy)) (ih hrest _)
  obtain ⟨front, back, hsplit⟩ := List.append_of_mem hmem
  have hnone : x ∉ front ++ back := by
    rw [hsplit] at hnodup
    exact (List.nodup_cons.1 (List.nodup_middle.1 hnodup)).1
  obtain ⟨hfront, hback⟩ := not_or.1 (mt List.mem_append.2 hnone)
  rw [hsplit, List.foldl_append, List.foldl_cons]
  exact hbefore _ _ _ (hrest front hfront s) (hafter _ _ _ (hx _) (hrest back hback _))

/-! ### The temperatures (R130) -/

/-- A zone record that has taken its word. -/
def Zone.taken (reading : Int) (r : Zone) : Zone :=
  if reading = -32768 then { r with
    streak := min (r.streak + 1) 16, temperature := if r.streak < 15 then r.temperature else none }
  else { r with streak := 0, temperature := some reading }

theorem takeTemperature_eq (w : Word) (r : Zone) : takeTemperature w r = r.taken w.toInt := by
  refine if_congr Iff.rfl ?_ rfl
  by_cases hshort : r.streak < 15
  · rw [if_pos hshort, if_pos hshort, min_eq_left (by omega)]
  · rw [if_neg hshort, if_neg hshort, min_eq_right (by omega)]

theorem heatFrame_zone (f : MeterFrame) (u : State) (z : Fin 6) : (heatFrame f u).zone z =
    { (u.zone z).taken f.zoneTemps[z].toInt with
      demand := demandOf (liveCold u) u.heating.preheat ((u.zone z).taken f.zoneTemps[z].toInt) } := by
  have hread := mapIndexed_get (fun k r => takeTemperature f.zoneTemps[k] r) u.heating.zones z
  rw [takeTemperature_eq] at hread
  exact (mapIndexed_get _ _ z).trans (congrArg (Zone.recomputed (liveCold u) u.heating.preheat) hread)

/-- From `r` to `r'` a zone has taken its word, its settings as they were. -/
def Reads (reading : Int) (r r' : Zone) : Prop :=
  (r'.mode = r.mode ∧ r'.drive = r.drive ∧ r'.target = r.target ∧ r'.rated = r.rated) ∧
  (reading = -32768 → r'.streak = min (r.streak + 1) 16 ∧
    r'.temperature = if r.streak < 15 then r.temperature else none) ∧
  (reading ≠ -32768 → r'.streak = 0 ∧ r'.temperature = some reading)

theorem heatFrame_reads (f : MeterFrame) (u : State) (z : Fin 6) :
    Reads f.zoneTemps[z].toInt (u.zone z) ((heatFrame f u).zone z) := by
  rw [heatFrame_zone, Zone.taken]
  by_cases h : f.zoneTemps[z].toInt = -32768
  · rw [if_pos h]
    exact ⟨⟨rfl, rfl, rfl, rfl⟩, fun _ => ⟨rfl, rfl⟩, fun hne => absurd h hne⟩
  · rw [if_neg h]
    exact ⟨⟨rfl, rfl, rfl, rfl⟩, fun heq => absurd heq h, fun _ => ⟨rfl, rfl⟩⟩

theorem Reads.before {reading : Int} {a b c : Zone} (h : SameSetup a b) (h' : Reads reading b c) : Reads reading a c := by
  obtain ⟨hmode, hdrive, htarget, hrated, htemperature, hstreak⟩ := h
  rw [Reads, hmode, hdrive, htarget, hrated, htemperature, hstreak] at h'
  exact h'

theorem Reads.after {reading : Int} {a b c : Zone} (h : Reads reading a b) (h' : SameSetup b c) : Reads reading a c := by
  obtain ⟨hmode, hdrive, htarget, hrated, htemperature, hstreak⟩ := h'
  rw [Reads, hmode, hdrive, htarget, hrated, htemperature, hstreak]
  exact h

/-! ### What a taker leaves -/

section
variable (f : MeterFrame) (a : Arrival) (entered : Bool) (u : State)

theorem takeAccepted_leaves {x : Taker} (hheat : x ≠ .heat) (hplanner : x ≠ .planner) :
    Leaves u (takeAccepted f a entered u x) := by
  cases x with
  | accrual => exact (leaves_accrue false a.source u).trans (leaves_endClosing _)
  | heat => exact absurd rfl hheat
  | planner => exact absurd rfl hplanner
  | isolation => exact leaves_isolationFrame f a.ended u
  | localizer => exact leaves_localizerFrame f u
  | occupancy | ageing => exact .refl u

/-- Settings, the METER_LOST record and pending causes stay with every taker. -/
theorem takeAccepted_keeps (x : Taker) : (takeAccepted f a entered u x).isolation.settings = u.isolation.settings ∧
    (takeAccepted f a entered u x).fault 10 = u.fault 10 ∧ KeepsPending u (takeAccepted f a entered u x) := by
  by_cases hheat : x = .heat
  · subst hheat
    have hisolation := (heatFrame_acts f u).plantKept
    exact ⟨by simp [takeAccepted], fault_of_isolation (by simp [takeAccepted]) 10, .of_attention (by simp [takeAccepted])⟩
  by_cases hplanner : x = .planner
  · subst hplanner
    have h := leaves_plannerAccepted f a.halted entered u
    exact ⟨h.settings, h.lost, h.pending⟩
  · have h := takeAccepted_leaves f a entered u hheat hplanner
    exact ⟨h.settings, h.lost, h.pending⟩

theorem takeAccepted_derate {x : Taker} (hplanner : x ≠ .planner) :
    (takeAccepted f a entered u x).planner.derate = u.planner.derate := by
  by_cases hheat : x = .heat
  · subst hheat; exact congrArg Planner.derate (by simp [takeAccepted])
  · exact (takeAccepted_leaves f a entered u hheat hplanner).derate

theorem takeAccepted_setup {x : Taker} (hheat : x ≠ .heat) (z : Fin 6) :
    SameSetup (u.zone z) ((takeAccepted f a entered u x).zone z) := by
  by_cases hplanner : x = .planner
  · subst hplanner; exact (leaves_plannerAccepted f a.halted entered u).zones z
  · exact (takeAccepted_leaves f a entered u hheat hplanner).zones z

variable {order : List Taker} (hperm : order.Perm acceptedTakers)
include hperm

theorem foldl_takeAccepted_derate : (order.foldl (takeAccepted f a entered) u).planner.derate =
    nextDerate u.planner.derate f.inlet.toInt :=
  foldl_once (P := fun v w => w.planner.derate = v.planner.derate)
    (Q := fun v w => w.planner.derate = nextDerate v.planner.derate f.inlet.toInt) (fun _ => rfl)
    (fun _ _ _ h h' => h'.trans h) (fun v _ hy => takeAccepted_derate f a entered v hy)
    (fun v => (leaves_plannerAccepted f a.halted entered v).derate) (fun _ _ _ h h' => by rw [h', h])
    (fun _ _ _ h h' => h'.trans h) (hperm.mem_iff.2 (by decide)) (hperm.nodup_iff.2 (by decide))

theorem foldl_takeAccepted_reads (z : Fin 6) :
    Reads f.zoneTemps[z].toInt (u.zone z) ((order.foldl (takeAccepted f a entered) u).zone z) :=
  foldl_once (P := fun v w => SameSetup (v.zone z) (w.zone z))
    (Q := fun v w => Reads f.zoneTemps[z].toInt (v.zone z) (w.zone z)) (fun _ => .refl _)
    (fun _ _ _ h h' => h.trans h') (fun v _ hy => takeAccepted_setup f a entered v hy z)
    (fun v => heatFrame_reads f v z) (fun _ _ _ h h' => h'.before h) (fun _ _ _ h h' => h.after h')
    (hperm.mem_iff.2 (by decide)) (hperm.nodup_iff.2 (by decide))

omit hperm in
theorem foldl_takeAccepted_keeps (l : List Taker) :
    (l.foldl (takeAccepted f a entered) u).isolation.settings = u.isolation.settings ∧
    (l.foldl (takeAccepted f a entered) u).fault 10 = u.fault 10 ∧
    KeepsPending u (l.foldl (takeAccepted f a entered) u) := by
  refine foldl_keeps (P := fun v => v.isolation.settings = u.isolation.settings ∧ v.fault 10 = u.fault 10 ∧
    KeepsPending u v) (fun v x h => ?_) l ⟨rfl, rfl, .of_attention rfl⟩
  obtain ⟨hsettings, hlost, hpending⟩ := takeAccepted_keeps f a entered v x
  exact ⟨hsettings.trans h.1, hlost.trans h.2.1, h.2.2.trans hpending⟩

end

/-! ### The link (R85, R87) -/

/-- The frame brings the link to SYNCED or leaves it there. -/
def MeterLink.goodNext (m : MeterLink) : Bool :=
  match m.state with
  | .recovering => decide (2 ≤ m.goodCount)
  | .synced => true
  | .holding => true
  | .searching => false
  | .lost => false

theorem linkAfterFrame_eq (m : MeterLink) : linkAfterFrame m =
    (if m.goodNext then .synced else .recovering,
      if m.goodNext then 0 else if m.state = .recovering then m.goodCount + 1 else 1) := by
  cases hstate : m.state with
  | recovering =>
    have hgood : m.goodNext = decide (2 ≤ m.goodCount) := by simp only [MeterLink.goodNext, hstate]
    by_cases hfew : m.goodCount < 2
    · have hnot : ¬ 2 ≤ m.goodCount := Nat.not_le.2 hfew
      simp only [linkAfterFrame, hstate, hgood, if_pos hfew, decide_eq_false hnot, Bool.false_eq_true, if_false, if_true]
    · have hmany : 2 ≤ m.goodCount := Nat.le_of_not_lt hfew
      simp only [linkAfterFrame, hstate, hgood, if_neg hfew, decide_eq_true hmany, if_true]
  | synced | holding | searching | lost =>
    simp only [linkAfterFrame, MeterLink.goodNext, hstate]
    rfl

theorem entersSynced_iff (m : MeterLink) : entersSynced m = true ↔ m.goodNext = true ∧ m.state ≠ .synced := by
  rw [entersSynced, linkAfterFrame_eq, Bool.and_eq_true, bne_iff_ne, beq_iff_eq, and_comm]
  refine and_congr_left fun _ => ?_
  cases m.goodNext with
  | true => exact iff_of_true rfl rfl
  | false => exact iff_of_false LinkState.noConfusion Bool.false_ne_true

/-- The link record that an accepted frame leaves. -/
theorem acceptFrame_link (f : MeterFrame) (s : State) : (acceptFrame f s).meter = { s.meter with
    frame := some f, frameAge := 0, overdue := 30000, heldCount := 0
    state := if s.meter.goodNext then .synced else .recovering
    goodCount := if s.meter.goodNext then 0 else if s.meter.state = .recovering then s.meter.goodCount + 1 else 1
    lost := if s.meter.goodNext = true ∧ s.meter.state ≠ .synced then none else s.meter.lost } := by
  rw [acceptFrame_meter]
  by_cases h : entersSynced s.meter = true
  · rw [if_pos h, if_pos ((entersSynced_iff _).1 h), MeterLink.accepted, linkAfterFrame_eq]
    rfl
  · rw [if_neg h, if_neg (mt (entersSynced_iff _).2 h), MeterLink.accepted, linkAfterFrame_eq]
    rfl

/-- The state in which the takers of an accepted frame find the blocks. -/
def frameStart (f : MeterFrame) (s : State) : State :=
  if entersSynced s.meter then enterSynced (s.setMeter (s.meter.accepted f)) else s.setMeter (s.meter.accepted f)

theorem acceptFrame_order (f : MeterFrame) (s : State) : ∃ order : List Taker, order.Perm acceptedTakers ∧
    ((arrivalOf s.planner).boundary = true → order.getLast? = some .planner) ∧ acceptFrame f s =
      order.foldl (takeAccepted f (arrivalOf s.planner) (entersSynced s.meter)) (dropChoice (frameStart f s)) :=
  ⟨_, acceptedOrder_perm _ s, fun h => acceptedOrder_boundary h s, rfl⟩

theorem clearFault_state (k : Fin 12) (s : State) : ((clearFault k s).fault k).state ≠ .active := by
  unfold clearFault
  split
  · show ((s.setFault k _).fault k).state ≠ _
    rw [State.setFault_at, if_pos rfl]
    exact FaultState.noConfusion
  · next h =>
    intro hactive
    exact absurd hactive h

theorem keepsPending_clearFault (k : Fin 12) (s : State) : KeepsPending s (clearFault k s) := by
  unfold clearFault
  split
  · exact .trans (t := s.setFault k _) (.of_attention rfl) (keepsPending_post _ _)
  · exact .of_attention rfl

/-- The hand-offs of an entry to SYNCED. -/
theorem enterSynced_leaves (s : State) : (enterSynced s).planner.derate = s.planner.derate ∧
    (∀ z, SameSetup (s.zone z) ((enterSynced s).zone z)) ∧
    (enterSynced s).isolation.settings = s.isolation.settings ∧
    ((enterSynced s).attention.pendingOf .cp).getLsbD 9 = true ∧ ((enterSynced s).fault 10).state ≠ .active := by
  obtain ⟨u, hu⟩ : ∃ u, u = post .meterState (s.setMeter { s.meter with lost := none }) := ⟨_, rfl⟩
  have hchanged : Leaves u (sessionsSynced u) := leaves_changeLive _ u
  have hsynced : enterSynced s = clearFault meterLostKey (sessionsSynced u) := by rw [hu]; rfl
  have hposted : (u.attention.pendingOf .cp).getLsbD 9 = true := by rw [hu]; exact post_pending .cp .meterState _
  have hsame : u.planner = s.planner ∧ u.heating = s.heating ∧ u.isolation = s.isolation := by
    rw [hu]; exact ⟨rfl, rfl, rfl⟩
  obtain ⟨hplanner, hheating, hisolation⟩ := hsame
  obtain ⟨_, _, hsettings⟩ := onlyRecords_clearFault meterLostKey (sessionsSynced u)
  rw [hsynced]
  refine ⟨?_, fun z => ?_, ?_, keepsPending_clearFault _ _ .cp 9 (hchanged.pending .cp 9 hposted), clearFault_state _ _⟩
  · rw [(clearFault_frame _ _).2.2.2.2.2.1, hchanged.derate, hplanner]
  · have hzone := hchanged.zones z
    rw [zone_of_heating hheating] at hzone
    rw [zone_of_heating (clearFault_frame _ _).2.2.2.2.2.2.1]
    exact hzone
  · rw [hsettings]
    exact hchanged.settings.trans (by rw [hisolation])

theorem frameStart_leaves (f : MeterFrame) (s : State) : (frameStart f s).planner.derate = s.planner.derate ∧
    (∀ z, SameSetup (s.zone z) ((frameStart f s).zone z)) ∧
    (frameStart f s).isolation.settings = s.isolation.settings ∧ (entersSynced s.meter = true →
      ((frameStart f s).attention.pendingOf .cp).getLsbD 9 = true ∧ ((frameStart f s).fault 10).state ≠ .active) := by
  unfold frameStart
  split
  · next h =>
    obtain ⟨hderate, hzones, hsettings, hposts⟩ := enterSynced_leaves (s.setMeter (s.meter.accepted f))
    exact ⟨hderate, hzones, hsettings, fun _ => hposts⟩
  · next h => exact ⟨rfl, fun _ => .refl _, rfl, fun hentered => absurd hentered h⟩

end Sys2Proof.Machine
end

section
/-! The statement about an accepted frame, assembled (R80 to R87, R110, R118, R125, R130). -/

namespace Sys2Proof.Machine

/-! ### The planner's part (R110, R118, R125) -/

theorem isStepDown_iff (before after : Derate) : isStepDown before after = true ↔
    (before = .full ∧ after ≠ .full) ∨ (before = .half ∧ after = .zero) := by
  cases before <;> cases after <;> decide

section
variable {f : MeterFrame} {halted entered : Bool} {s : State}

/-- The planner with the derate of the frame. -/
def derated (f : MeterFrame) (s : State) : State :=
  s.setPlanner { s.planner with derate := nextDerate s.planner.derate f.inlet.toInt }

theorem plannerAccepted_halted (h : s.planner.state = .halted) : plannerAccepted f halted entered s =
    if halted && entered then releasePlanner (derated f s) else derated f s := by
  unfold plannerAccepted
  dsimp only
  split
  · rfl
  · next hother => exact absurd (h.symm.trans hother) PlannerState.noConfusion
  · next hother => exact absurd (h.symm.trans hother) PlannerState.noConfusion

theorem plannerAccepted_idle (h : s.planner.state = .idle) : plannerAccepted f halted entered s =
    if halted = false ∧ s.meter.state = .synced ∧ tripHeld s = false then cycleBoundary (derated f s)
    else derated f s := by
  unfold plannerAccepted
  dsimp only
  split
  · next hother => exact absurd (h.symm.trans hother) PlannerState.noConfusion
  · rfl
  · next hother => exact absurd (h.symm.trans hother) PlannerState.noConfusion

theorem plannerAccepted_running (h : s.planner.state = .running) : plannerAccepted f halted entered s =
    if atLastSlot s.planner then cycleBoundary (derated f s)
    else if isStepDown s.planner.derate (nextDerate s.planner.derate f.inlet.toInt) then cutBudget (endSlot (derated f s))
    else endSlot (derated f s) := by
  unfold plannerAccepted
  dsimp only
  split
  · next hother => exact absurd (h.symm.trans hother) PlannerState.noConfusion
  · next hother => exact absurd (h.symm.trans hother) PlannerState.noConfusion
  · rfl

theorem plannerAccepted_slotless (h : s.planner.state = .running) (hslot : s.planner.slot = none) :
    plannerAccepted f halted entered s =
      if isStepDown s.planner.derate (nextDerate s.planner.derate f.inlet.toInt) then cutBudget (derated f s)
      else derated f s := by
  have hlast : ¬ atLastSlot s.planner = true := by simp [atLastSlot, hslot]
  rw [plannerAccepted_running h, if_neg hlast, endSlot_none (s := derated f s) hslot]

theorem plannerAccepted_slot {k : Fin 16} (h : s.planner.state = .running) (hslot : s.planner.slot = some k) :
    plannerAccepted f halted entered s = if k = 15 then cycleBoundary (derated f s)
      else
        let begun := (derated f s).setPlanner ((derated f s).planner.startSlot (k + 1))
        if isStepDown s.planner.derate (nextDerate s.planner.derate f.inlet.toInt) then cutBudget begun else begun := by
  have hlast : atLastSlot s.planner = true ↔ k = 15 := by
    simp [atLastSlot, hslot]
  rw [plannerAccepted_running h, endSlot_some (s := derated f s) hslot]
  by_cases hk : k = 15
  · rw [if_pos (hlast.2 hk), if_pos hk]
  · rw [if_neg (mt hlast.1 hk), if_neg hk, if_neg hk]

end

/-! ### The event -/

theorem arrivalOf_boundary_iff (p : Planner) :
    (arrivalOf p).boundary = true ↔ p.state = .idle ∨ (p.state = .running ∧ p.slot = some 15) := by
  simp only [arrivalOf, atLastSlot, Bool.or_eq_true, Bool.and_eq_true, beq_iff_eq]

/-- What an accepted frame leaves, whatever the order of its takers. -/
theorem acceptFrame_leaves (f : MeterFrame) (s : State) :
    (acceptFrame f s).planner.derate = nextDerate s.planner.derate f.inlet.toInt ∧
    (∀ z, Reads f.zoneTemps[z].toInt (s.zone z) ((acceptFrame f s).zone z)) ∧
    (acceptFrame f s).isolation.settings = s.isolation.settings ∧ (entersSynced s.meter = true →
      ((acceptFrame f s).attention.pendingOf .cp).getLsbD 9 = true ∧ ((acceptFrame f s).fault 10).state ≠ .active) := by
  obtain ⟨order, hperm, -, heq⟩ := acceptFrame_order f s
  obtain ⟨hderate, hzones, hsettings, hposts⟩ := frameStart_leaves f s
  have hreads := foldl_takeAccepted_reads f (arrivalOf s.planner) (entersSynced s.meter) (dropChoice (frameStart f s)) hperm
  have htaken := foldl_takeAccepted_derate f (arrivalOf s.planner) (entersSynced s.meter) (dropChoice (frameStart f s)) hperm
  obtain ⟨hkept, hlost, hpending⟩ :=
    foldl_takeAccepted_keeps f (arrivalOf s.planner) (entersSynced s.meter) (dropChoice (frameStart f s)) order
  rw [heq]
  refine ⟨htaken.trans (congrArg (fun d => nextDerate d f.inlet.toInt) hderate), fun z => (hreads z).before (hzones z),
    hkept.trans hsettings, fun hentered => ?_⟩
  obtain ⟨hposted, hcleared⟩ := hposts hentered
  exact ⟨hpending .cp 9 hposted, by rw [hlost]; exact hcleared⟩

theorem acceptFrame_onlyChains (f : MeterFrame) (s : State) : OnlyChains s (acceptFrame f s) := by
  obtain ⟨order, -, -, heq⟩ := acceptFrame_order f s
  have htaker (a : Arrival) (entered : Bool) (u : State) (x : Taker) : OnlyChains u (takeAccepted f a entered u x) := by
    cases x with
    | accrual => exact (accrueAndEnd_handles false a.source u).onlyChains
    | heat | planner | isolation | localizer | occupancy | ageing => exact .of_eq (by simp [takeAccepted])
  have hstart : (frameStart f s).tariff = s.tariff := by
    unfold frameStart
    split
    · simp
    · rfl
  rw [heq]
  exact foldl_keeps (P := OnlyChains s) (fun u x h => h.trans (htaker _ _ u x)) order (.of_eq hstart)

end Sys2Proof.Machine
end

section
/-! The statement about an accepted frame (R80 to R87, R110, R118, R125, R130; log 6, log 7, log 38). -/

namespace Sys2Proof.Machine

/-- Settles O32: the takers as the model names them, and what their order cannot change. -/
theorem acceptedFrame_settled : Obligations.AcceptedFrame := by
  intro s ws w f hassembly hlength hgood good link entered derateOf running boundary ended isolated closed planned act
    linked start
  obtain ⟨v, hv⟩ : ∃ v, v = s.setMeter { s.meter with assembly := none } := ⟨_, rfl⟩
  have hexec : exec (.dataWord w) s = .next (acceptFrame f v) := by
    rw [hv]; exact congrArg Host.Outcome.next (takeDataWord_accepted w hassembly hlength hgood)
  have hplanner : v.planner = s.planner := by rw [hv]; rfl
  have hentered : entersSynced v.meter = true ↔ entered := by rw [hv]; exact entersSynced_iff _
  have hderate (d : Derate) : derateOf d = nextDerate d f.inlet.toInt := rfl
  have hclosed (u : State) : endClosing u = closed u := by
    show _ = match closingSlot u with
      | none => u
      | some i => handOver (closeRecord .stoppedControl i u)
    cases hslot : closingSlot u with
    | none => exact endClosing_none hslot
    | some i => exact endClosing_some hslot
  have hplanned (u : State) : plannerAccepted f (arrivalOf s.planner).halted (entersSynced v.meter) u = planned u := by
    have hlower : isStepDown u.planner.derate (nextDerate u.planner.derate f.inlet.toInt) = true ↔
        (u.planner.derate = .full ∧ derateOf u.planner.derate ≠ .full) ∨
          (u.planner.derate = .half ∧ derateOf u.planner.derate = .zero) := isStepDown_iff _ _
    simp only [planned]
    split
    · next hstate =>
      rw [plannerAccepted_halted hstate]
      refine if_congr ?_ rfl rfl
      rw [Bool.and_eq_true, hentered]
      exact and_congr_left fun _ => beq_iff_eq
    · next hstate =>
      rw [plannerAccepted_idle hstate]
      refine if_congr (and_congr_left fun _ => ?_) rfl rfl
      exact beq_eq_false_iff_ne
    · next hstate =>
      split
      · next hslot =>
        rw [plannerAccepted_slotless hstate hslot]
        exact if_congr hlower rfl rfl
      · next k hslot =>
        rw [plannerAccepted_slot hstate hslot]
        exact if_congr Iff.rfl rfl (if_congr hlower rfl rfl)
  have hact : takeAccepted f (arrivalOf s.planner) (entersSynced v.meter) = act := by
    funext u x
    cases x with
    | accrual => exact hclosed _
    | planner => exact hplanned u
    | isolation => rfl
    | heat | localizer | occupancy | ageing => rfl
  have hlink : (acceptFrame f v).meter = link := by rw [acceptFrame_link, hv]; rfl
  have hstart : dropChoice (frameStart f v) = { start with choices := s.choices.tail } := by
    have hchoices : (frameStart f v).choices = s.choices := by
      rw [hv, frameStart]; split
      · simp
      · rfl
    have hsame : frameStart f v = start := by
      have hmeter := (acceptFrame_meter f v).symm.trans hlink
      by_cases h : entersSynced v.meter = true
      · rw [if_pos h] at hmeter
        refine (if_pos h).trans (Eq.trans ?_ (if_pos (hentered.1 h)).symm)
        have hsynced : enterSynced (v.setMeter (v.meter.accepted f)) = clearFault 10 (changeLive
            (fun p => { p with meter := false })
            (post .meterState (v.setMeter { v.meter.accepted f with lost := none }))) := rfl
        rw [hsynced, hmeter, hv]
        rfl
      · rw [if_neg h] at hmeter
        refine (if_neg h).trans (Eq.trans ?_ (if_neg (mt hentered.2 h)).symm)
        rw [hmeter, hv]
        rfl
    rw [dropChoice, hchoices, hsame]
    rfl
  obtain ⟨hnext, hreads, hsettings, hposts⟩ := acceptFrame_leaves f v
  obtain ⟨chains, htariff⟩ := acceptFrame_onlyChains f v
  have hzone (z : Fin 6) : v.zone z = s.zone z := by rw [hv]; rfl
  refine ⟨?_, fun u z => ?_, acceptFrame f v, hexec, hlink, fun h => hposts (hentered.2 h), ?_, fun z => ?_, fun z => ?_, ?_⟩
  · obtain ⟨order, hperm, hlast, heq⟩ := acceptFrame_order f v
    rw [hplanner] at hlast heq
    rw [hstart, hact] at heq
    refine ⟨order, hperm.trans (by decide), fun h => hlast ((arrivalOf_boundary_iff _).2 h), ?_⟩
    rw [hexec, heq]
  · exact ⟨heatFrame_zone f u z, rfl⟩
  · rw [hnext, hplanner, hderate]
  · obtain ⟨-, hmissing, hpresent⟩ := hreads z
    rw [hzone] at hmissing
    exact ⟨hmissing, hpresent⟩
  · obtain ⟨hsetup, -, -⟩ := hreads z
    rw [hzone] at hsetup
    exact hsetup
  · rw [htariff, hsettings, hv]
    simp

end Sys2Proof.Machine
end

section
/-! The placement of one zone: how heater powers add up, and which slots `placeSlots` chooses (R114, R115). -/

namespace Sys2Proof.Machine

/-! ### Sums over the zones that meet a condition -/

theorem sum_filter_eq (keep : Fin 6 → Bool) (f : Fin 6 → Nat) :
    (((List.finRange 6).filter keep).map f).sum = ∑ y, if keep y = true then f y else 0 := by
  have hlist (l : List (Fin 6)) : ((l.filter keep).map f).sum = (l.map fun y => if keep y = true then f y else 0).sum := by
    induction l with
    | nil => rfl
    | cons y rest ih => by_cases hy : keep y = true <;> simp [hy, ih]
  rw [hlist, ← List.ofFn_eq_map, List.sum_ofFn]

theorem sum_filter_congr {keep other : Fin 6 → Bool} (f : Fin 6 → Nat) (h : ∀ y, keep y = other y) :
    (((List.finRange 6).filter keep).map f).sum = (((List.finRange 6).filter other).map f).sum := by
  rw [funext h]

/-- Every zone of an entry stands there with its present rated power. -/
def RatedNow (zones : Vector Zone 6) (e : PlanEntry) : Prop := ∀ z : Fin 6, ∀ r ∈ e.zones[z], r = (zones[z]).rated

theorem RatedNow.ratedSum {zones : Vector Zone 6} {e : PlanEntry} (h : RatedNow zones e) :
    e.ratedSum = (((List.finRange 6).filter fun y => e.holds y).map fun y => (zones[y]).rated).sum := by
  rw [ratedSum_eq_sum, sum_filter_eq]
  refine Finset.sum_congr rfl fun y _ => ?_
  cases hy : e.zones[y] with
  | none => simp only [PlanEntry.holds, hy, Option.isSome_none, Bool.false_eq_true, if_false, Option.getD_none]
  | some r => simp only [PlanEntry.holds, hy, Option.isSome_some, if_true, Option.getD_some, h y r hy]

theorem RatedNow.add {zones : Vector Zone 6} {e : PlanEntry} (h : RatedNow zones e) (z : Fin 6) :
    RatedNow zones (e.add z (zones[z]).rated) := by
  intro y r hr
  rw [add_zones] at hr
  split at hr
  · next heq => rw [heq]; exact (Option.some.inj hr).symm
  · exact h y r hr

theorem holds_add_eq (z y : Fin 6) (rated : Nat) (e : PlanEntry) :
    (e.add z rated).holds y = (decide (y = z) || e.holds y) := by
  simp only [PlanEntry.holds, add_zones]
  split <;> simp [*]

/-! ### The slots that one zone is placed in -/

/-- A slot after one zone's placement: as it was, or with the zone added, which it did not hold and has room for. -/
def SlotPlaced (cap : Nat) (z : Fin 6) (rated : Nat) (e e' : PlanEntry) : Prop :=
  e' = e ∨ (e' = e.add z rated ∧ canTake cap z rated e = true)

theorem SlotPlaced.holds_other {cap rated : Nat} {z y : Fin 6} {e e' : PlanEntry} (h : SlotPlaced cap z rated e e')
    (hne : y ≠ z) : e'.holds y = e.holds y := by
  obtain rfl | ⟨rfl, -⟩ := h
  · rfl
  · rw [holds_add_eq, decide_eq_false hne, Bool.false_or]

theorem canTake_iff {cap rated : Nat} {z : Fin 6} {e : PlanEntry} :
    canTake cap z rated e = true ↔ e.holds z = false ∧ e.heaterPower + rated ≤ cap := by
  simp [canTake]

/-- How many slots hold a zone. -/
def slotsOf (z : Fin 6) (plan : Vector PlanEntry 16) : Nat := (List.finRange 16).countP fun k => (plan[k]).holds z

theorem slotsOf_none {z : Fin 6} {plan : Vector PlanEntry 16} (h : ∀ k : Fin 16, (plan[k]).holds z = false) :
    slotsOf z plan = 0 := List.countP_eq_zero.2 fun k _ => Bool.eq_false_iff.1 (h k)

theorem slotsOf_all {z : Fin 6} {plan : Vector PlanEntry 16} (h : ∀ k : Fin 16, (plan[k]).holds z = true) :
    slotsOf z plan = 16 := (List.countP_eq_length.2 fun k _ => h k).trans (List.length_finRange)

theorem slotsOf_congr {z : Fin 6} {plan other : Vector PlanEntry 16}
    (h : ∀ k : Fin 16, (plan[k]).holds z = (other[k]).holds z) : slotsOf z plan = slotsOf z other := by
  simp only [slotsOf, h]

theorem slotsOf_pos {z : Fin 6} {plan : Vector PlanEntry 16} : 0 < slotsOf z plan ↔ ∃ k : Fin 16, (plan[k]).holds z = true := by
  simp only [slotsOf, List.countP_pos_iff, List.mem_finRange, true_and]

theorem set_entry (plan : Vector PlanEntry 16) (b k : Fin 16) (e : PlanEntry) :
    (plan.set b e)[k] = if k = b then e else plan[k] := by
  simp only [Fin.getElem_fin, Vector.getElem_set, Fin.val_inj, eq_comm]

/-- Counting a condition that one more element of a list without repetition meets. -/
theorem countP_one_more {α : Type} {p q : α → Bool} {b : α} : ∀ {l : List α}, l.Nodup → b ∈ l → p b = false → q b = true →
    (∀ k, k ≠ b → q k = p k) → l.countP q = l.countP p + 1
  | a :: rest, hl, hb, hp, hq, hother => by
    obtain ⟨ha, hrest⟩ := List.nodup_cons.1 hl
    rw [List.countP_cons, List.countP_cons]
    by_cases hab : a = b
    · subst hab
      have hsame : rest.countP q = rest.countP p :=
        List.countP_congr fun k hk => by rw [hother k (fun h => ha (h ▸ hk))]
      rw [hsame, hp, hq]; simp
    · have hmem := (List.mem_cons.1 hb).resolve_left (Ne.symm hab)
      rw [countP_one_more hrest hmem hp hq hother, hother a hab]
      omega

theorem slotsOf_set {z : Fin 6} {plan : Vector PlanEntry 16} {b : Fin 16} (rated : Nat) (h : (plan[b]).holds z = false) :
    slotsOf z (plan.set b (plan[b].add z rated)) = slotsOf z plan + 1 := by
  refine countP_one_more (b := b) (List.nodup_finRange 16) (List.mem_finRange b) h ?_ fun k hk => ?_
  · rw [set_entry, if_pos rfl, holds_add_eq]; simp
  · rw [set_entry, if_neg hk]

/-- What `placeSlots` does with a plan: each slot is as it was or has taken the zone; the count is of the slots that took
it, at most `n`; where it is less, no other slot has room; and a slot that had room and did not take it comes after every
slot that did. -/
structure SlotsPlaced (cap : Nat) (z : Fin 6) (rated n : Nat) (plan plan' : Vector PlanEntry 16) (m : Nat) : Prop where
  slot : ∀ k : Fin 16, SlotPlaced cap z rated plan[k] plan'[k]
  count : slotsOf z plan' = slotsOf z plan + m
  atMost : m ≤ n
  full : m < n → ∀ k : Fin 16, (plan'[k]).holds z = false → cap < (plan[k]).heaterPower + rated
  lowest : ∀ k : Fin 16, (plan'[k]).holds z = false → (plan[k]).heaterPower + rated ≤ cap →
    ∀ j : Fin 16, (plan'[j]).holds z = true → (plan[j]).holds z = false → lowerSlot plan j k

theorem placeSlots_places (cap : Nat) (z : Fin 6) (rated : Nat) : ∀ (n : Nat) (plan : Vector PlanEntry 16),
    SlotsPlaced cap z rated n plan (placeSlots cap z rated n plan).1 (placeSlots cap z rated n plan).2
  | 0, plan => ⟨fun _ => .inl rfl, rfl, le_rfl, fun h => absurd h (lt_irrefl _), fun k hk _ j hj hj' => by
      rw [placeSlots] at hj; exact absurd (hj'.symm.trans hj) (by simp)⟩
  | n + 1, plan => by
    have hbest := bestSlot_finds cap z rated plan
    cases hb : bestSlot cap z rated plan with
    | none =>
      rw [hb] at hbest
      have hstay : placeSlots cap z rated (n + 1) plan = (plan, 0) := by simp only [placeSlots, hb]
      rw [hstay]
      refine ⟨fun _ => .inl rfl, rfl, Nat.zero_le _, fun _ k hk => ?_, fun k _ _ j hj hj' =>
        absurd (hj'.symm.trans hj) (by simp)⟩
      by_contra hroom
      exact Bool.eq_false_iff.1 (hbest k) (canTake_iff.2 ⟨hk, Nat.le_of_not_lt hroom⟩)
    | some b =>
      rw [hb] at hbest
      obtain ⟨hfree, hroom⟩ := canTake_iff.1 hbest.1
      obtain ⟨next, hnext⟩ : ∃ next, next = plan.set b (plan[b].add z rated) := ⟨_, rfl⟩
      have hplaced : placeSlots cap z rated (n + 1) plan =
          ((placeSlots cap z rated n next).1, (placeSlots cap z rated n next).2 + 1) := by
        simp only [placeSlots, hb, hnext]
      have hentry (k : Fin 16) : next[k] = if k = b then plan[b].add z rated else plan[k] := by
        rw [hnext]; exact set_entry plan b k _
      have hb_holds : (next[b]).holds z = true := by rw [hentry, if_pos rfl, holds_add_eq]; simp
      obtain ⟨hslot, hcount, hmost, hfull, hlow⟩ := placeSlots_places cap z rated n next
      have hkeeps {k : Fin 16} (hk : ((placeSlots cap z rated n next).1[k]).holds z = false) : k ≠ b := by
        rintro rfl
        rcases hslot k with h | ⟨-, h⟩
        · rw [h, hb_holds] at hk; exact absurd hk (by simp)
        · rw [(canTake_iff.1 h).1] at hb_holds; exact absurd hb_holds (by simp)
      rw [hplaced]
      refine ⟨fun k => ?_, ?_, Nat.succ_le_succ hmost, fun hlt k hk => ?_, fun k hk hroomk j hj hj' => ?_⟩
      · have h := hslot k
        rw [hentry] at h
        split at h
        · next heq =>
          rw [heq]
          rcases h with h | ⟨-, h⟩
          · exact .inr ⟨heq ▸ h, hbest.1⟩
          · rw [canTake_iff, holds_add_eq] at h
            simp at h
        · exact h
      · rw [hcount, hnext, slotsOf_set rated hfree]; omega
      · have h := hfull (by simpa using hlt) k hk
        rwa [hentry, if_neg (hkeeps hk)] at h
      · have hkfree : (plan[k]).holds z = false := by
          rcases hslot k with h | ⟨h, -⟩
          · rw [← show next[k] = plan[k] by rw [hentry, if_neg (hkeeps hk)], ← h]; exact hk
          · rw [h, holds_add_eq] at hk; simp at hk
        by_cases hjb : j = b
        · rw [hjb]
          exact hbest.2 k (canTake_iff.2 ⟨hkfree, hroomk⟩) (hkeeps hk)
        · have h := hlow k hk (by rw [hentry, if_neg (hkeeps hk)]; exact hroomk) j hj
            (by rw [hentry, if_neg hjb]; exact hj')
          simp only [lowerSlot, hentry, if_neg (hkeeps hk), if_neg hjb] at h
          exact h

end Sys2Proof.Machine
end

section
/-! A draft of the plan, zone by zone: what one zone's placement leaves, and a fold over zones (R114, R115). -/

namespace Sys2Proof.Machine

/-! ### Drafts -/

/-- What is always so of a draft: zones stand with their rated powers, heater powers are those of the zones, and granted
counts and the placement order are those of the plan. -/
structure Draft.Exact (zones : Vector Zone 6) (d : Draft) : Prop where
  rated : ∀ k : Fin 16, RatedNow zones d.plan[k]
  power : ∀ k : Fin 16, (d.plan[k]).heaterPower = (d.plan[k]).ratedSum
  granted : ∀ z : Fin 6, d.granted[z] = slotsOf z d.plan
  order : ∀ z : Fin 6, z ∈ d.order ↔ 0 < d.granted[z]
  nodup : d.order.Nodup

/-- A zone that no slot holds. -/
def Draft.Unplaced (z : Fin 6) (d : Draft) : Prop := ∀ k : Fin 16, (d.plan[k]).holds z = false

/-- A zone's part of a draft stays. -/
structure KeepsZone (y : Fin 6) (d d' : Draft) : Prop where
  holds : ∀ k : Fin 16, (d'.plan[k]).holds y = (d.plan[k]).holds y
  granted : d'.granted[y] = d.granted[y]
  deferred : d'.deferred[y] = d.deferred[y]

theorem KeepsZone.refl (y : Fin 6) (d : Draft) : KeepsZone y d d := ⟨fun _ => rfl, rfl, rfl⟩

theorem KeepsZone.trans {y : Fin 6} {d d' d'' : Draft} (h : KeepsZone y d d') (h' : KeepsZone y d' d'') :
    KeepsZone y d d'' :=
  ⟨fun k => (h'.holds k).trans (h.holds k), h'.granted.trans h.granted, h'.deferred.trans h.deferred⟩

theorem KeepsZone.unplaced {y : Fin 6} {d d' : Draft} (h : KeepsZone y d d') (hd : d.Unplaced y) : d'.Unplaced y :=
  fun k => (h.holds k).trans (hd k)

/-- One zone's placement in a draft. -/
structure ZonePlaced (cap : Nat) (zones : Vector Zone 6) (z : Fin 6) (d d' : Draft) : Prop where
  slot : ∀ k : Fin 16, SlotPlaced cap z (zones[z]).rated d.plan[k] d'.plan[k]
  granted : d'.granted[z] = slotsOf z d'.plan
  order : d'.order = if 0 < d'.granted[z] then d.order ++ [z] else d.order
  others : ∀ y : Fin 6, y ≠ z → d'.granted[y] = d.granted[y] ∧ d'.deferred[y] = d.deferred[y]

theorem ZonePlaced.keeps {cap : Nat} {zones : Vector Zone 6} {z y : Fin 6} {d d' : Draft}
    (h : ZonePlaced cap zones z d d') (hne : y ≠ z) : KeepsZone y d d' :=
  ⟨fun k => (h.slot k).holds_other hne, (h.others y hne).1, (h.others y hne).2⟩

theorem SlotPlaced.exact {zones : Vector Zone 6} {cap : Nat} {z : Fin 6} {e e' : PlanEntry}
    (h : SlotPlaced cap z (zones[z]).rated e e') (hr : RatedNow zones e) (hp : e.heaterPower = e.ratedSum) :
    RatedNow zones e' ∧ e'.heaterPower = e'.ratedSum := by
  obtain rfl | ⟨rfl, htake⟩ := h
  · exact ⟨hr, hp⟩
  · refine ⟨hr.add z, ?_⟩
    rw [ratedSum_add _ (canTake_iff.1 htake).1, ← hp]
    rfl

theorem ZonePlaced.exact {cap : Nat} {zones : Vector Zone 6} {z : Fin 6} {d d' : Draft}
    (h : ZonePlaced cap zones z d d') (hd : d.Exact zones) (hnone : d.Unplaced z) : d'.Exact zones := by
  have hz : z ∉ d.order := fun hz => by
    have := (hd.order z).1 hz
    rw [hd.granted, slotsOf_none hnone] at this
    exact absurd this (lt_irrefl 0)
  refine ⟨fun k => ((h.slot k).exact (hd.rated k) (hd.power k)).1,
    fun k => ((h.slot k).exact (hd.rated k) (hd.power k)).2, fun y => ?_, fun y => ?_, ?_⟩
  · by_cases hy : y = z
    · rw [hy]; exact h.granted
    · rw [(h.others y hy).1, hd.granted]
      exact (slotsOf_congr fun k => (h.slot k).holds_other hy).symm
  · rw [h.order]
    by_cases hy : y = z
    · subst hy
      split
      · next hpos => exact ⟨fun _ => hpos, fun _ => by simp⟩
      · next hpos => exact ⟨fun hmem => absurd hmem hz, fun h0 => absurd h0 hpos⟩
    · rw [(h.others y hy).1, ← hd.order]
      split
      · simp [hy]
      · rfl
  · rw [h.order]
    split
    · exact List.nodup_append.2 ⟨hd.nodup, List.nodup_singleton z, fun y hy w hw => by
        rw [List.mem_singleton.1 hw]; rintro rfl; exact hz hy⟩
    · exact hd.nodup

/-! ### A fold over zones -/

section Fold
variable {cap : Nat} {zones : Vector Zone 6} {place : Draft → Fin 6 → Draft} {Q : Draft → Prop}

/-- Every step of `place` keeps `Q` and is one zone's placement. -/
def Places (cap : Nat) (zones : Vector Zone 6) (place : Draft → Fin 6 → Draft) (Q : Draft → Prop) : Prop :=
  ∀ d z, Q d → d.Unplaced z → Q (place d z) ∧ ZonePlaced cap zones z d (place d z)

theorem Places.foldl (h : Places cap zones place Q) : ∀ (l : List (Fin 6)) (d : Draft), l.Nodup → Q d →
    (∀ z ∈ l, d.Unplaced z) → Q (l.foldl place d) ∧ (∀ y, y ∉ l → KeepsZone y d (l.foldl place d)) ∧
    (l.foldl place d).order = d.order ++ l.filter fun z => decide (0 < (l.foldl place d).granted[z])
  | [], d, _, hd, _ => ⟨hd, fun y _ => .refl y d, by simp⟩
  | z :: rest, d, hl, hd, hnone => by
    obtain ⟨hz, hrest⟩ := List.nodup_cons.1 hl
    obtain ⟨hq, hplaced⟩ := h d z hd (hnone z List.mem_cons_self)
    obtain ⟨hend, hkeep, horder⟩ := h.foldl rest (place d z) hrest hq fun y hy =>
      (hplaced.keeps fun heq => hz (heq ▸ hy)).unplaced (hnone y (List.mem_cons_of_mem z hy))
    rw [List.foldl_cons]
    refine ⟨hend, fun y hy => ?_, ?_⟩
    · obtain ⟨hne, hnot⟩ := not_or.1 (mt List.mem_cons.2 hy)
      exact (hplaced.keeps hne).trans (hkeep y hnot)
    · rw [horder, hplaced.order, List.filter_cons, (hkeep z hz).granted]
      by_cases hpos : 0 < (place d z).granted[z]
      · rw [if_pos hpos, if_pos (decide_eq_true hpos), List.append_assoc, List.singleton_append]
      · rw [if_neg hpos, if_neg (by simpa using hpos)]

/-- The placement of one zone of the list: from a draft in which those before it stand as they do in the end, and what it
makes of the zone's part stands in the end. -/
theorem Places.foldl_at (h : Places cap zones place Q) {pre post : List (Fin 6)} {z : Fin 6} {d : Draft}
    (hl : (pre ++ z :: post).Nodup) (hd : Q d) (hnone : ∀ y ∈ pre ++ z :: post, d.Unplaced y) :
    ∃ d1, Q d1 ∧ d1.Unplaced z ∧ KeepsZone z (place d1 z) ((pre ++ z :: post).foldl place d) ∧
      (∀ y ∈ pre, KeepsZone y d1 ((pre ++ z :: post).foldl place d)) ∧ ∀ y, y ∉ pre → KeepsZone y d d1 := by
  obtain ⟨hpre, hrest, hapart⟩ := List.nodup_append.1 hl
  obtain ⟨hz, hpost⟩ := List.nodup_cons.1 hrest
  have hnot {y : Fin 6} (hy : y ∈ z :: post) : y ∉ pre := fun hmem => hapart y hmem y hy rfl
  obtain ⟨hq1, hkeep1, -⟩ := h.foldl pre d hpre hd fun y hy => hnone y (List.mem_append_left _ hy)
  have hunplaced {y : Fin 6} (hy : y ∈ z :: post) : (pre.foldl place d).Unplaced y :=
    (hkeep1 y (hnot hy)).unplaced (hnone y (List.mem_append_right _ hy))
  obtain ⟨hq2, hplaced⟩ := h _ z hq1 (hunplaced List.mem_cons_self)
  obtain ⟨-, hkeep3, -⟩ := h.foldl post (place (pre.foldl place d) z) hpost hq2 fun y hy =>
    (hplaced.keeps fun heq => hz (heq ▸ hy)).unplaced (hunplaced (List.mem_cons_of_mem z hy))
  rw [List.foldl_append, List.foldl_cons]
  refine ⟨pre.foldl place d, hq1, hunplaced List.mem_cons_self, hkeep3 z hz, fun y hy => ?_, hkeep1⟩
  have hne : y ≠ z := fun heq => hapart y hy z List.mem_cons_self heq
  exact (hplaced.keeps hne).trans (hkeep3 y fun hmem => hapart y hy y (List.mem_cons_of_mem z hmem) rfl)

end Fold

/-! ### The two placements -/

theorem draftStart_entry (budget : Nat) (k : Fin 16) :
    (Draft.start budget).plan[k] = { PlanEntry.empty with budget := budget } := by simp [Draft.start]

theorem draftStart_unplaced (budget : Nat) (z : Fin 6) : (Draft.start budget).Unplaced z := fun k => by
  rw [draftStart_entry]; simp [PlanEntry.holds, PlanEntry.empty]

theorem draftStart_exact (budget : Nat) (zones : Vector Zone 6) : (Draft.start budget).Exact zones := by
  have hzero (z : Fin 6) : (Draft.start budget).granted[z] = 0 := by simp [Draft.start]
  refine ⟨fun k z r hr => ?_, fun k => ?_, fun z => ?_, fun z => ?_, List.nodup_nil⟩
  · rw [draftStart_entry] at hr
    simp [PlanEntry.empty] at hr
  · rw [draftStart_entry]; exact entrySound_empty.2
  · rw [hzero, slotsOf_none (draftStart_unplaced budget z)]
  · rw [hzero]; simp [Draft.start]

theorem set_zone {α : Type} (v : Vector α 6) (z y : Fin 6) (a : α) : (v.set z a)[y] = if y = z then a else v[y] := by
  simp only [Fin.getElem_fin, Vector.getElem_set, Fin.val_inj, eq_comm]

theorem placeAuto_granted (cap : Nat) (zones : Vector Zone 6) (d : Draft) (z : Fin 6) :
    (placeAuto cap zones d z).granted[z] = (placeSlots cap z (zones[z]).rated (zones[z]).demand d.plan).2 := by
  simp only [placeAuto, set_zone, if_true]

/-- One AUTO zone's placement. -/
theorem placeAuto_places {cap : Nat} {zones : Vector Zone 6} {d : Draft} {z : Fin 6} (hnone : d.Unplaced z) :
    SlotsPlaced cap z (zones[z]).rated (zones[z]).demand d.plan (placeAuto cap zones d z).plan
      (placeAuto cap zones d z).granted[z] ∧
    ZonePlaced cap zones z d (placeAuto cap zones d z) ∧
    (placeAuto cap zones d z).deferred = d.deferred := by
  have hslots := placeSlots_places cap z (zones[z]).rated (zones[z]).demand d.plan
  have hgranted := placeAuto_granted cap zones d z
  refine ⟨by rw [hgranted]; exact hslots, ⟨hslots.slot, ?_, by rw [hgranted]; rfl, fun y hne => ⟨?_, rfl⟩⟩, rfl⟩
  · have hcount := hslots.count
    rw [slotsOf_none hnone, Nat.zero_add] at hcount
    exact hgranted.trans hcount.symm
  · simp only [placeAuto, set_zone, if_neg hne]

theorem placeAuto_all (cap : Nat) (zones : Vector Zone 6) : Places cap zones (placeAuto cap zones) (Draft.Exact zones) :=
  fun _ _ hd hnone => ⟨(placeAuto_places hnone).2.1.exact hd hnone, (placeAuto_places hnone).2.1⟩

/-- A draft of the direct placement: every slot has the same heater power. -/
def Draft.Level (zones : Vector Zone 6) (d : Draft) : Prop :=
  d.Exact zones ∧ ∀ k : Fin 16, (d.plan[k]).heaterPower = d.directPower

theorem placeDirect_ineligible {cap : Nat} {zones : Vector Zone 6} {d : Draft} {z : Fin 6}
    (h : (zones[z]).eligible = false) : placeDirect cap zones d z = d := by
  rw [placeDirect, if_neg (by simpa using h)]

theorem placeDirect_fits {cap : Nat} {zones : Vector Zone 6} {d : Draft} {z : Fin 6}
    (h : (zones[z]).eligible = true) (hfits : d.directPower + (zones[z]).rated ≤ cap) :
    placeDirect cap zones d z = { d with
      plan := mapIndexed (fun _ e => e.add z (zones[z]).rated) d.plan
      order := d.order ++ [z], granted := d.granted.set z 16 } := by
  rw [placeDirect, if_pos h, if_pos hfits]

theorem placeDirect_deferred {cap : Nat} {zones : Vector Zone 6} {d : Draft} {z : Fin 6}
    (h : (zones[z]).eligible = true) (hfits : ¬ d.directPower + (zones[z]).rated ≤ cap) :
    placeDirect cap zones d z = { d with deferred := d.deferred.set z true } := by
  rw [placeDirect, if_pos h, if_neg hfits]

theorem placeDirect_all (cap : Nat) (zones : Vector Zone 6) : Places cap zones (placeDirect cap zones) (Draft.Level zones) := by
  intro d z ⟨hd, hlevel⟩ hnone
  have hzero : d.granted[z] = 0 := (hd.granted z).trans (slotsOf_none hnone)
  have hstay (v : Vector Bool 6) (hv : ∀ y : Fin 6, y ≠ z → v[y] = d.deferred[y]) :
      ZonePlaced cap zones z d { d with deferred := v } :=
    ⟨fun _ => .inl rfl, hd.granted z, by rw [hzero]; rfl, fun y hne => ⟨rfl, hv y hne⟩⟩
  cases helig : (zones[z]).eligible with
  | false =>
    rw [placeDirect_ineligible helig]
    exact ⟨⟨hd, hlevel⟩, hstay d.deferred fun _ _ => rfl⟩
  | true =>
    by_cases hfits : d.directPower + (zones[z]).rated ≤ cap
    · rw [placeDirect_fits helig hfits]
      have hplaced : ZonePlaced cap zones z d { d with
          plan := mapIndexed (fun _ e => e.add z (zones[z]).rated) d.plan
          order := d.order ++ [z], granted := d.granted.set z 16 } := by
        refine ⟨fun k => .inr ⟨?_, canTake_iff.2 ⟨hnone k, by rw [hlevel k]; exact hfits⟩⟩, ?_, ?_, fun y hne => ⟨?_, rfl⟩⟩
        · exact mapIndexed_get _ _ _
        · rw [set_zone, if_pos rfl]
          exact (slotsOf_all fun k => by rw [mapIndexed_get, holds_add_eq]; simp).symm
        · rw [set_zone, if_pos rfl]; rfl
        · rw [set_zone, if_neg hne]
      refine ⟨⟨hplaced.exact hd hnone, fun k => ?_⟩, hplaced⟩
      simp only [Draft.directPower, mapIndexed_get, PlanEntry.add]
      rw [hlevel k]; rfl
    · rw [placeDirect_deferred helig hfits]
      have hplaced := hstay (d.deferred.set z true) fun y hne => by rw [set_zone, if_neg hne]
      exact ⟨⟨hplaced.exact hd hnone, hlevel⟩, hplaced⟩

end Sys2Proof.Machine
end

section
/-! The whole placement: DIRECT zones in ascending index, then AUTO zones, the coldest first (R114, R115). -/

namespace Sys2Proof.Machine

/-! ### The order of the AUTO zones -/

theorem comesBefore_iff {zones : Vector Zone 6} {a b : Fin 6} : comesBefore zones a b = true ↔
    (zones[a]).temperature.getD 0 < (zones[b]).temperature.getD 0 ∨
      ((zones[a]).temperature.getD 0 = (zones[b]).temperature.getD 0 ∧ a < b) := by
  simp only [comesBefore, Bool.or_eq_true, Bool.and_eq_true, beq_iff_eq, decide_eq_true_eq]

theorem comesBefore_trans {zones : Vector Zone 6} {a b c : Fin 6} (hab : comesBefore zones a b = true)
    (hbc : comesBefore zones b c = true) : comesBefore zones a c = true := by
  rw [comesBefore_iff] at *
  rcases hab with hab | ⟨hab, hlt⟩ <;> rcases hbc with hbc | ⟨hbc, hlt'⟩
  · exact .inl (hab.trans hbc)
  · exact .inl (hbc ▸ hab)
  · exact .inl (hab ▸ hbc)
  · exact .inr ⟨hab.trans hbc, hlt.trans hlt'⟩

theorem comesBefore_of_not {zones : Vector Zone 6} {a b : Fin 6} (hne : a ≠ b) (h : ¬ comesBefore zones a b = true) :
    comesBefore zones b a = true := by
  rw [comesBefore_iff] at *
  obtain ⟨hle, hlt⟩ := not_or.1 h
  rcases (Int.not_lt.1 hle).lt_or_eq with hcolder | heq
  · exact .inl hcolder
  · exact .inr ⟨heq, lt_of_le_of_ne (not_lt.1 fun hab => hlt ⟨heq.symm, hab⟩) (Ne.symm hne)⟩

theorem comesBefore_asymm {zones : Vector Zone 6} {a b : Fin 6} (h : comesBefore zones a b = true) :
    comesBefore zones b a = false := by
  by_contra hba
  have haa := comesBefore_iff.1 (comesBefore_trans h (by simpa using hba))
  exact haa.elim (lt_irrefl _) fun h => lt_irrefl _ h.2

theorem insertZone_perm (zones : Vector Zone 6) (z : Fin 6) : ∀ l, (insertZone zones z l).Perm (z :: l)
  | [] => .refl _
  | y :: rest => by
    rw [insertZone]
    split
    · exact .refl _
    · exact ((insertZone_perm zones z rest).cons y).trans (.swap z y rest)

theorem insertZone_pairwise {zones : Vector Zone 6} {z : Fin 6} : ∀ {l : List (Fin 6)}, z ∉ l →
    l.Pairwise (fun a b => comesBefore zones a b = true) →
    (insertZone zones z l).Pairwise fun a b => comesBefore zones a b = true
  | [], _, _ => List.pairwise_singleton _ z
  | y :: rest, hz, hl => by
    obtain ⟨hne, hnot⟩ := not_or.1 (mt List.mem_cons.2 hz)
    obtain ⟨hy, hrest⟩ := List.pairwise_cons.1 hl
    rw [insertZone]
    split
    · next hbefore =>
      refine List.pairwise_cons.2 ⟨fun w hw => ?_, hl⟩
      rcases List.mem_cons.1 hw with rfl | hw
      · exact hbefore
      · exact comesBefore_trans hbefore (hy w hw)
    · next hafter =>
      refine List.pairwise_cons.2 ⟨fun w hw => ?_, insertZone_pairwise hnot hrest⟩
      rcases List.mem_cons.1 ((insertZone_perm zones z rest).mem_iff.1 hw) with rfl | hw
      · exact comesBefore_of_not hne hafter
      · exact hy w hw

theorem autoOrder_perm (zones : Vector Zone 6) :
    (autoOrder zones).Perm ((List.finRange 6).filter fun z => (zones[z]).takesPart) := by
  unfold autoOrder
  induction (List.finRange 6).filter fun z => (zones[z]).takesPart with
  | nil => exact .refl _
  | cons z rest ih => exact (insertZone_perm zones z _).trans (ih.cons z)

theorem mem_autoOrder {zones : Vector Zone 6} {z : Fin 6} :
    z ∈ autoOrder zones ↔ (zones[z]).mode = .auto ∧ 0 < (zones[z]).demand := by
  rw [(autoOrder_perm zones).mem_iff]
  simp [Zone.takesPart]

theorem autoOrder_nodup (zones : Vector Zone 6) : (autoOrder zones).Nodup :=
  (autoOrder_perm zones).nodup_iff.2 ((List.nodup_finRange 6).filter _)

theorem autoOrder_pairwise (zones : Vector Zone 6) :
    (autoOrder zones).Pairwise fun a b => comesBefore zones a b = true := by
  have hgeneral (l : List (Fin 6)) (hl : l.Nodup) :
      (l.foldr (insertZone zones) []).Perm l ∧
        (l.foldr (insertZone zones) []).Pairwise fun a b => comesBefore zones a b = true := by
    induction l with
    | nil => exact ⟨.refl _, .nil⟩
    | cons z rest ih =>
      obtain ⟨hz, hrest⟩ := List.nodup_cons.1 hl
      obtain ⟨hperm, hsorted⟩ := ih hrest
      exact ⟨(insertZone_perm zones z _).trans (hperm.cons z),
        insertZone_pairwise (fun hmem => hz (hperm.mem_iff.1 hmem)) hsorted⟩
  exact (hgeneral _ ((List.nodup_finRange 6).filter _)).2

theorem eligible_iff {z : Zone} : z.eligible = true ↔
    z.mode = .direct ∧ z.drive = true ∧ z.excluded = false ∧ z.underTest = false := by
  simp [Zone.eligible, and_assoc]

/-! ### The direct placement -/

section Placement
variable (budget cap : Nat) (zones : Vector Zone 6)

/-- The draft after the direct placement. -/
def directDraft : Draft := (List.finRange 6).foldl (placeDirect cap zones) (Draft.start budget)

theorem directDraft_all : (directDraft budget cap zones).Level zones ∧
    (directDraft budget cap zones).order =
      (List.finRange 6).filter fun z => decide (0 < (directDraft budget cap zones).granted[z]) := by
  have hlevel : (Draft.start budget).Level zones :=
    ⟨draftStart_exact budget zones, fun k => by rw [Draft.directPower, draftStart_entry, draftStart_entry]⟩
  obtain ⟨hq, -, horder⟩ := (placeDirect_all cap zones).foldl (List.finRange 6) (Draft.start budget)
    (List.nodup_finRange 6) hlevel fun z _ => draftStart_unplaced budget z
  exact ⟨hq, horder⟩

/-- The draft that a DIRECT zone's turn finds. -/
theorem directDraft_at (z : Fin 6) : ∃ d, d.Level zones ∧ d.Unplaced z ∧ d.deferred[z] = false ∧
    KeepsZone z (placeDirect cap zones d z) (directDraft budget cap zones) ∧
    (∀ y, y < z → KeepsZone y d (directDraft budget cap zones)) ∧ ∀ y, ¬ y < z → d.Unplaced y := by
  have hsplit : ∀ z : Fin 6, List.finRange 6 =
      (List.finRange 6).filter (fun y => decide (y < z)) ++ z :: (List.finRange 6).filter (fun y => decide (z < y)) := by
    decide
  have hlevel : (Draft.start budget).Level zones :=
    ⟨draftStart_exact budget zones, fun k => by rw [Draft.directPower, draftStart_entry, draftStart_entry]⟩
  obtain ⟨d, hd, hnone, hkeep, hbefore, hlater⟩ := (placeDirect_all cap zones).foldl_at
    (hsplit z ▸ List.nodup_finRange 6) hlevel fun y _ => draftStart_unplaced budget y
  rw [← hsplit z] at hkeep hbefore
  have hstart (y : Fin 6) (hy : ¬ y < z) : KeepsZone y (Draft.start budget) d := hlater y (by simpa using hy)
  refine ⟨d, hd, hnone, ?_, hkeep, fun y hy => hbefore y (by simpa using hy),
    fun y hy => (hstart y hy).unplaced (draftStart_unplaced budget y)⟩
  rw [(hstart z (lt_irrefl z)).deferred]
  simp [Draft.start]

/-- A zone that the direct placement passes over. -/
theorem directDraft_ineligible {z : Fin 6} (h : (zones[z]).eligible = false) :
    (directDraft budget cap zones).Unplaced z ∧ (directDraft budget cap zones).deferred[z] = false := by
  obtain ⟨d, -, hnone, hdeferred, hkeep, -⟩ := directDraft_at budget cap zones z
  rw [placeDirect_ineligible h] at hkeep
  exact ⟨hkeep.unplaced hnone, hkeep.deferred.trans hdeferred⟩

/-- The direct placement gives a zone every slot or none. -/
theorem directDraft_holds (z : Fin 6) (k : Fin 16) : ((directDraft budget cap zones).plan[k]).holds z =
    ((zones[z]).eligible && decide ((directDraft budget cap zones).granted[z] = 16)) := by
  obtain ⟨d, -, hnone, -, hkeep, -⟩ := directDraft_at budget cap zones z
  have hgranted := (directDraft_all budget cap zones).1.1.granted z
  have hnever (hend : (directDraft budget cap zones).Unplaced z) :
      ((directDraft budget cap zones).plan[k]).holds z =
        ((zones[z]).eligible && decide ((directDraft budget cap zones).granted[z] = 16)) := by
    rw [hgranted, slotsOf_none hend, hend k]; simp
  cases helig : (zones[z]).eligible with
  | false => exact helig ▸ hnever (directDraft_ineligible budget cap zones helig).1
  | true =>
    by_cases hfits : d.directPower + (zones[z]).rated ≤ cap
    · have hall (j : Fin 16) : ((directDraft budget cap zones).plan[j]).holds z = true := by
        rw [hkeep.holds, placeDirect_fits helig hfits, mapIndexed_get, holds_add_eq]; simp
      rw [hgranted, slotsOf_all hall, hall k]; rfl
    · rw [placeDirect_deferred helig hfits] at hkeep
      exact helig ▸ hnever (hkeep.unplaced hnone)

/-- The rated power of the eligible zones before `z` that the direct placement has placed. -/
def placedBefore (z : Fin 6) : Nat :=
  (((List.finRange 6).filter fun y => decide (y < z ∧ (zones[y]).eligible = true ∧
    (directDraft budget cap zones).granted[y] = 16)).map fun y => (zones[y]).rated).sum

theorem directDraft_eligible {z : Fin 6} (h : (zones[z]).eligible = true) :
    (placedBefore budget cap zones z + (zones[z]).rated ≤ cap →
      (∀ k : Fin 16, ((directDraft budget cap zones).plan[k]).holds z = true) ∧
      (directDraft budget cap zones).deferred[z] = false) ∧
    (¬ placedBefore budget cap zones z + (zones[z]).rated ≤ cap →
      (directDraft budget cap zones).Unplaced z ∧ (directDraft budget cap zones).deferred[z] = true) := by
  obtain ⟨d, hd, hnone, hdeferred, hkeep, hbefore, hlater⟩ := directDraft_at budget cap zones z
  have hpower : d.directPower = placedBefore budget cap zones z := by
    rw [Draft.directPower, hd.1.power, (hd.1.rated 0).ratedSum]
    refine sum_filter_congr _ fun y => ?_
    by_cases hy : y < z
    · rw [← (hbefore y hy).holds 0, directDraft_holds]
      simp [hy]
    · rw [hlater y hy 0]
      simp [hy]
  rw [← hpower]
  constructor
  · intro hfits
    rw [placeDirect_fits h hfits] at hkeep
    exact ⟨fun k => by rw [hkeep.holds, mapIndexed_get, holds_add_eq]; simp, hkeep.deferred.trans hdeferred⟩
  · intro hfits
    rw [placeDirect_deferred h hfits] at hkeep
    exact ⟨hkeep.unplaced hnone, hkeep.deferred.trans (by rw [set_zone, if_pos rfl])⟩

/-! ### The AUTO placement -/

theorem placeZones_eq : placeZones budget cap zones =
    (autoOrder zones).foldl (placeAuto cap zones) (directDraft budget cap zones) := rfl

theorem directDraft_unplaced_auto {z : Fin 6} (h : (zones[z]).mode = .auto) :
    (directDraft budget cap zones).Unplaced z ∧ (directDraft budget cap zones).deferred[z] = false :=
  directDraft_ineligible budget cap zones (Bool.eq_false_iff.2 fun helig => by
    rw [(eligible_iff.1 helig).1] at h; cases h)

theorem placeZones_all : (placeZones budget cap zones).Exact zones ∧
    (∀ y, y ∉ autoOrder zones → KeepsZone y (directDraft budget cap zones) (placeZones budget cap zones)) ∧
    (placeZones budget cap zones).order = (directDraft budget cap zones).order ++
      (autoOrder zones).filter fun z => decide (0 < (placeZones budget cap zones).granted[z]) :=
  (placeAuto_all cap zones).foldl (autoOrder zones) (directDraft budget cap zones) (autoOrder_nodup zones)
    (directDraft_all budget cap zones).1.1 fun _ hz =>
      (directDraft_unplaced_auto budget cap zones (mem_autoOrder.1 hz).1).1

/-- A zone that is not AUTO stands as the direct placement left it. -/
theorem placeZones_keeps {z : Fin 6} (h : (zones[z]).mode ≠ .auto) :
    KeepsZone z (directDraft budget cap zones) (placeZones budget cap zones) :=
  (placeZones_all budget cap zones).2.1 z fun hz => h (mem_autoOrder.1 hz).1

theorem placeZones_deferred_auto {z : Fin 6} (h : (zones[z]).mode = .auto) :
    (placeZones budget cap zones).deferred[z] = false := by
  have hsame : ∀ (l : List (Fin 6)) (d : Draft), (l.foldl (placeAuto cap zones) d).deferred = d.deferred := by
    intro l
    induction l with
    | nil => exact fun _ => rfl
    | cons y rest ih => exact fun d => ih (placeAuto cap zones d y)
  rw [placeZones_eq, hsame]
  exact (directDraft_unplaced_auto budget cap zones h).2

/-- The power that the zones placed before `z` have put into a slot of the plan. -/
def powerBefore (z : Fin 6) (e : PlanEntry) : Nat :=
  (((List.finRange 6).filter fun y => e.holds y && decide ((zones[y]).mode = .direct ∨ comesBefore zones y z = true)).map
    fun y => (zones[y]).rated).sum

theorem mode_of_direct_holds {y : Fin 6} {k : Fin 16} (h : ((directDraft budget cap zones).plan[k]).holds y = true) :
    (zones[y]).mode = .direct := by
  rw [directDraft_holds, Bool.and_eq_true] at h
  exact (eligible_iff.1 h.1).1

/-- What the placement has made of an AUTO zone: it got at most its demand; the slots that hold it had room; where it got
less than its demand no other slot has room; and a slot with room that does not hold it comes after those that do. -/
theorem placeZones_auto {z : Fin 6} (h : (zones[z]).mode = .auto) :
    (placeZones budget cap zones).granted[z] ≤ (zones[z]).demand ∧
    ∀ k : Fin 16,
      (((placeZones budget cap zones).plan[k]).holds z = true →
        powerBefore zones z (placeZones budget cap zones).plan[k] + (zones[z]).rated ≤ cap) ∧
      (((placeZones budget cap zones).plan[k]).holds z = false →
        ((placeZones budget cap zones).granted[z] < (zones[z]).demand →
          cap < powerBefore zones z (placeZones budget cap zones).plan[k] + (zones[z]).rated) ∧
        (powerBefore zones z (placeZones budget cap zones).plan[k] + (zones[z]).rated ≤ cap →
          ∀ j : Fin 16, ((placeZones budget cap zones).plan[j]).holds z = true →
            powerBefore zones z (placeZones budget cap zones).plan[j] <
              powerBefore zones z (placeZones budget cap zones).plan[k] ∨
            (powerBefore zones z (placeZones budget cap zones).plan[j] =
              powerBefore zones z (placeZones budget cap zones).plan[k] ∧ j < k))) := by
  by_cases hdemand : 0 < (zones[z]).demand
  · obtain ⟨pre, post, hsplit⟩ := List.append_of_mem (mem_autoOrder.2 ⟨h, hdemand⟩)
    have hnodup := autoOrder_nodup zones
    have hsorted := autoOrder_pairwise zones
    have hunplaced (y : Fin 6) (hy : y ∈ autoOrder zones) :=
      (directDraft_unplaced_auto budget cap zones (mem_autoOrder.1 hy).1).1
    obtain ⟨_, hkeepOut, _⟩ := placeZones_all budget cap zones
    have hmem (y : Fin 6) : y ∈ autoOrder zones ↔ y ∈ pre ∨ y = z ∨ y ∈ post := by rw [hsplit]; simp
    obtain ⟨d, hd, hnone, hkeep, hbefore, hlater⟩ := (placeAuto_all cap zones).foldl_at (pre := pre) (post := post)
      (z := z) (hsplit ▸ hnodup) (directDraft_all budget cap zones).1.1 (fun y hy => hunplaced y (hsplit ▸ hy))
    rw [← hsplit, ← placeZones_eq] at hkeep hbefore
    rw [hsplit] at hsorted hnodup
    obtain ⟨-, hrest, hpre⟩ := List.pairwise_append.1 hsorted
    obtain ⟨hpost, -⟩ := List.pairwise_cons.1 hrest
    have hpower (k : Fin 16) : powerBefore zones z (placeZones budget cap zones).plan[k] = (d.plan[k]).heaterPower := by
      rw [hd.power, (hd.rated k).ratedSum]
      refine sum_filter_congr _ fun y => ?_
      by_cases hy : y ∈ pre
      · rw [(hbefore y hy).holds]
        simp [hpre y hy z List.mem_cons_self]
      · rw [(hlater y hy).holds]
        by_cases hauto : y ∈ autoOrder zones
        · rw [hunplaced y hauto k]
          have hnot : comesBefore zones y z = false := by
            rcases ((hmem y).1 hauto).resolve_left hy with rfl | hy
            · by_contra hself
              exact Bool.eq_false_iff.1 (comesBefore_asymm (by simpa using hself)) (by simpa using hself)
            · exact comesBefore_asymm (hpost y hy)
          have hneither : ¬ ((zones[y]).mode = .direct ∨ comesBefore zones y z = true) := by
            rw [hnot, (mem_autoOrder.1 hauto).1]
            exact fun hor => hor.elim nofun nofun
          rw [decide_eq_false hneither, Bool.and_false]
        · rw [(hkeepOut y hauto).holds]
          cases hheld : ((directDraft budget cap zones).plan[k]).holds y with
          | false => rfl
          | true => rw [decide_eq_true (.inl (mode_of_direct_holds budget cap zones hheld)), Bool.true_and]
    obtain ⟨⟨hslot, -, hmost, hfull, hlow⟩, -, -⟩ := placeAuto_places (cap := cap) (zones := zones) hnone
    rw [hkeep.granted]
    refine ⟨hmost, fun k => ?_⟩
    rw [hkeep.holds, hpower]
    refine ⟨fun hheld => ?_, fun hheld => ⟨fun hless => hfull hless k hheld, fun hroom j hj => ?_⟩⟩
    · rcases hslot k with hsame | ⟨-, htake⟩
      · rw [hsame, hnone k] at hheld; cases hheld
      · exact (canTake_iff.1 htake).2
    · rw [hpower]
      exact hlow k hheld hroom j (hkeep.holds j ▸ hj) (hnone j)
  · have hout : z ∉ autoOrder zones := fun hz => hdemand (mem_autoOrder.1 hz).2
    have hend := (placeZones_all budget cap zones).2.1 z hout
    have hnone := hend.unplaced (directDraft_unplaced_auto budget cap zones h).1
    have hzero : (placeZones budget cap zones).granted[z] = 0 :=
      ((placeZones_all budget cap zones).1.granted z).trans (slotsOf_none hnone)
    rw [hzero]
    refine ⟨Nat.zero_le _, fun k => ⟨fun hheld => ?_, fun _ => ⟨fun hpos => absurd hpos hdemand, fun _ j hj => ?_⟩⟩⟩
    · rw [hnone k] at hheld; cases hheld
    · rw [hnone j] at hj; cases hj

/-- The placement order: the DIRECT zones ascending, then the AUTO zones, the coldest first. -/
theorem placeZones_order : (placeZones budget cap zones).order.Pairwise fun y z =>
    (zones[y]).mode = .direct ∧ ((zones[z]).mode = .auto ∨ y < z) ∨
      ((zones[y]).mode = .auto ∧ (zones[z]).mode = .auto ∧ comesBefore zones y z = true) := by
  obtain ⟨hlevel, hdirect⟩ := directDraft_all budget cap zones
  have hmode {y : Fin 6} (hy : y ∈ (directDraft budget cap zones).order) : (zones[y]).mode = .direct := by
    have hpos := (hlevel.1.order y).1 hy
    rw [hlevel.1.granted, slotsOf_pos] at hpos
    obtain ⟨k, hk⟩ := hpos
    exact mode_of_direct_holds budget cap zones hk
  have hauto {y : Fin 6} (hy : y ∈ (autoOrder zones).filter
      fun z => decide (0 < (placeZones budget cap zones).granted[z])) : (zones[y]).mode = .auto :=
    (mem_autoOrder.1 (List.mem_of_mem_filter hy)).1
  rw [(placeZones_all budget cap zones).2.2]
  refine List.pairwise_append.2 ⟨?_, ?_, fun y hy z hz => .inl ⟨hmode hy, .inl (hauto hz)⟩⟩
  · have hlt : (directDraft budget cap zones).order.Pairwise (· < ·) := by
      rw [hdirect]; exact (List.pairwise_lt_finRange 6).filter _
    exact hlt.imp_of_mem fun hy _ hyz => .inl ⟨hmode hy, .inr hyz⟩
  · exact ((autoOrder_pairwise zones).filter _).imp_of_mem fun hy hz hyz => .inr ⟨hauto hy, hauto hz, hyz⟩

end Placement

end Sys2Proof.Machine
end

section
/-! The plan of a cycle boundary (R111 to R116). -/

namespace Sys2Proof.Machine

/-! ### Source, caps and budget -/

theorem drawsGrid_iff {r : Session} : drawsGrid r = true ↔ r.state = .active ∨
    (r.state = .complete ∧ r.reasons.credit = false) ∨
    (r.state = .paused ∧ r.reasons = { PauseReasons.empty with cold := true }) := by
  have hcold : (r.reasons.cold && r.reasons.onlyCold) = true ↔
      r.reasons = { PauseReasons.empty with cold := true } := by
    rw [Bool.and_eq_true, PauseReasons.onlyCold_iff]
    constructor
    · rintro ⟨hcold, hothers⟩
      rw [← hothers, ← hcold]
    · intro h
      rw [h]
      exact ⟨rfl, rfl⟩
  cases hstate : r.state <;> simp [drawsGrid, hstate, ← hcold]

theorem cycleSource_grid_iff {s : State} : cycleSource s = .grid ↔
    s.supply.state = .offering ∧ ∃ i, liveSlot s = some i ∧ drawsGrid (s.session i) = true := by
  unfold cycleSource
  cases liveSlot s with
  | none => simp
  | some i =>
    simp only [Option.some.injEq, exists_eq_left']
    split
    · next h => simp [h]
    · next h => simp only [reduceCtorEq, false_iff]; exact h

theorem liveActive_iff {s : State} : liveActive s = true ↔ ∃ i, liveSlot s = some i ∧ (s.session i).state = .active := by
  unfold liveActive
  cases liveSlot s <;> simp

theorem bandCap_eq (s : State) :
    bandCap s = (liveSlot s).bind fun i => (s.session i).currentBand.bind fun b => (s.band b).cap := by
  unfold bandCap
  cases liveSlot s with
  | none => rfl
  | some i =>
    simp only [Option.bind_some]
    cases (s.session i).currentBand <;> rfl

theorem BudgetSource.eq_pack_of_ne {b : BudgetSource} (h : b ≠ .grid) : b = .pack := by cases b <;> simp_all

theorem cycleCapOf_grid {s : State} (h : cycleSource s = .grid) : cycleCapOf s = bandCap s := by rw [cycleCapOf, h]
theorem cycleCapOf_pack {s : State} (h : cycleSource s = .pack) : cycleCapOf s = none := by rw [cycleCapOf, h]
theorem cycleBudget_grid {s : State} (h : cycleSource s = .grid) : cycleBudget s = gridBudget (bandCap s) s := by
  rw [cycleBudget, h]
theorem cycleBudget_pack {s : State} (h : cycleSource s = .pack) : cycleBudget s = s.heating.packBudget := by
  rw [cycleBudget, h]

/-! ### The plan's entries -/

/-- The placement of the cycle that begins in a state. -/
def placement (s : State) : Draft := placeZones (cycleBudget s) (heaterCapOf s) s.heating.zones

theorem plannedCycle_entry (s : State) (k : Fin 16) : (plannedCycle s).plan[k] =
    { (placement s).plan[k] with
      command := chargerCommand s (cycleBudget s) ((placement s).plan[k]).heaterPower } := by
  simp only [plannedCycle, mapIndexed_get, placement]

theorem plannedCycle_holds (s : State) (k : Fin 16) (z : Fin 6) :
    ((plannedCycle s).plan[k]).holds z = ((placement s).plan[k]).holds z := by rw [plannedCycle_entry]; rfl

theorem plannedCycle_heaterPower (s : State) (k : Fin 16) :
    ((plannedCycle s).plan[k]).heaterPower = ((placement s).plan[k]).heaterPower := by rw [plannedCycle_entry]

theorem buildPlan_zone (s : State) (z : Fin 6) : (buildPlan s).zone z =
    { s.zone z with granted := (placement s).granted[z], deferred := (placement s).deferred[z] } := by
  have hheating : (buildPlan s).heating = grantZones s s.heating := rfl
  rw [State.zone, hheating]
  simp only [grantZones, mapIndexed_get, placement, State.zone]

theorem placement_exact (s : State) : (placement s).Exact s.heating.zones :=
  (placeZones_all (cycleBudget s) (heaterCapOf s) s.heating.zones).1

theorem placement_drafted (s : State) (k : Fin 16) :
    EntryDrafted (cycleBudget s) (heaterCapOf s) (placement s).order (placement s).plan[k] :=
  placeZones_drafted (cycleBudget s) (heaterCapOf s) s.heating.zones k

theorem placement_granted (s : State) (z : Fin 6) :
    (placement s).granted[z] = (List.finRange 16).countP fun k => ((plannedCycle s).plan[k]).holds z := by
  rw [(placement_exact s).granted]
  exact slotsOf_congr fun k => (plannedCycle_holds s k z).symm

theorem plannedCycle_power (s : State) (k : Fin 16) : ((plannedCycle s).plan[k]).heaterPower =
    (((List.finRange 6).filter fun y => ((plannedCycle s).plan[k]).holds y).map fun y => (s.zone y).rated).sum := by
  rw [plannedCycle_heaterPower, (placement_exact s).power, ((placement_exact s).rated k).ratedSum]
  exact sum_filter_congr _ fun y => (plannedCycle_holds s k y).symm

theorem chargerCommand_grid {s : State} (hgrid : cycleSource s = .grid) (hactive : liveActive s = true)
    (hsuspect : s.localizer.suspect ≠ some .charger) (budget power : Nat) :
    chargerCommand s budget power = min (budget - power) s.heating.admissionLimit := by
  rw [chargerCommand, if_pos ⟨hgrid, hactive, hsuspect⟩]

theorem chargerCommand_zero {s : State} (h : ¬ (cycleSource s = .grid ∧ liveActive s = true) ∨
    s.localizer.suspect = some .charger) (budget power : Nat) : chargerCommand s budget power = 0 := by
  rw [chargerCommand, if_neg]
  rintro ⟨hgrid, hactive, hsuspect⟩
  exact h.elim (fun hnot => hnot ⟨hgrid, hactive⟩) hsuspect

theorem drawsPower_iff {plan : Vector PlanEntry 16} : drawsPower plan = true ↔
    ∃ k : Fin 16, 0 < (plan[k]).heaterPower ∨ 0 < (plan[k]).command := by
  simp [drawsPower]

/-! ### The zones' grants -/

theorem placement_without_grant {s : State} {z : Fin 6} (hauto : (s.zone z).mode ≠ .auto)
    (h : (s.zone z).eligible = false) : (placement s).granted[z] = 0 ∧ (placement s).deferred[z] = false := by
  have hkeep := placeZones_keeps (cycleBudget s) (heaterCapOf s) s.heating.zones hauto
  obtain ⟨hnone, hdeferred⟩ := directDraft_ineligible (cycleBudget s) (heaterCapOf s) s.heating.zones h
  exact ⟨((placement_exact s).granted z).trans (slotsOf_none (hkeep.unplaced hnone)), hkeep.deferred.trans hdeferred⟩

theorem placement_direct {s : State} {z : Fin 6} (h : (s.zone z).eligible = true) :
    let fits := (((List.finRange 6).filter fun y => decide (y < z ∧ (s.zone y).eligible = true ∧
      (placement s).granted[y] = 16)).map fun y => (s.zone y).rated).sum + (s.zone z).rated ≤ heaterCapOf s
    (fits → (placement s).granted[z] = 16 ∧ (placement s).deferred[z] = false) ∧
    (¬ fits → (placement s).granted[z] = 0 ∧ (placement s).deferred[z] = true) := by
  have hmode {y : Fin 6} (hy : (s.zone y).eligible = true) : (s.zone y).mode ≠ .auto := by
    rw [(eligible_iff.1 hy).1]; exact nofun
  have hkeep {y : Fin 6} (hy : (s.zone y).eligible = true) :=
    placeZones_keeps (cycleBudget s) (heaterCapOf s) s.heating.zones (hmode hy)
  have hpower : placedBefore (cycleBudget s) (heaterCapOf s) s.heating.zones z =
      (((List.finRange 6).filter fun y => decide (y < z ∧ (s.zone y).eligible = true ∧
        (placement s).granted[y] = 16)).map fun y => (s.zone y).rated).sum := by
    refine sum_filter_congr _ fun y => decide_eq_decide.2 (and_congr_right fun _ => and_congr_right fun hy => ?_)
    rw [placement, (hkeep hy).granted]
  obtain ⟨hfits, hdeferred⟩ := directDraft_eligible (cycleBudget s) (heaterCapOf s) s.heating.zones h
  rw [hpower] at hfits hdeferred
  refine ⟨fun hroom => ?_, fun hroom => ?_⟩
  · obtain ⟨hall, hflag⟩ := hfits hroom
    exact ⟨((placement_exact s).granted z).trans (slotsOf_all fun k => ((hkeep h).holds k).trans (hall k)),
      (hkeep h).deferred.trans hflag⟩
  · obtain ⟨hnone, hflag⟩ := hdeferred hroom
    exact ⟨((placement_exact s).granted z).trans (slotsOf_none ((hkeep h).unplaced hnone)),
      (hkeep h).deferred.trans hflag⟩

theorem placement_auto {s : State} {z : Fin 6} (h : (s.zone z).mode = .auto) :
    (placement s).granted[z] ≤ (s.zone z).demand ∧
    ∀ k : Fin 16,
      (((placement s).plan[k]).holds z = true →
        powerBefore s.heating.zones z (placement s).plan[k] + (s.zone z).rated ≤ heaterCapOf s) ∧
      (((placement s).plan[k]).holds z = false →
        ((placement s).granted[z] < (s.zone z).demand →
          heaterCapOf s < powerBefore s.heating.zones z (placement s).plan[k] + (s.zone z).rated) ∧
        (powerBefore s.heating.zones z (placement s).plan[k] + (s.zone z).rated ≤ heaterCapOf s →
          ∀ j : Fin 16, ((placement s).plan[j]).holds z = true →
            powerBefore s.heating.zones z (placement s).plan[j] < powerBefore s.heating.zones z (placement s).plan[k] ∨
            (powerBefore s.heating.zones z (placement s).plan[j] =
              powerBefore s.heating.zones z (placement s).plan[k] ∧ j < k))) := by
  unfold placement
  exact placeZones_auto (cycleBudget s) (heaterCapOf s) s.heating.zones h

/-- Settles O38, from the placement of the direct and of the AUTO zones. -/
theorem planOfACycle : Obligations.PlanOfACycle := by
  intro s p draws grid active cap raw capped eligible granted temperature colder before
  have hp : p = plannedCycle s := rfl
  have hgrid : cycleSource s = .grid ↔ grid := by
    simp only [cycleSource_grid_iff, drawsGrid_iff]; exact Iff.rfl
  have hpack (h : ¬ grid) : cycleSource s = .pack := BudgetSource.eq_pack_of_ne (mt hgrid.1 h)
  have hactive : liveActive s = true ↔ active := liveActive_iff
  have hcap : bandCap s = cap := bandCap_eq s
  have heligible (z : Fin 6) : (s.zone z).eligible = true ↔ eligible z := eligible_iff
  have hineligible {z : Fin 6} (h : ¬ eligible z) : (s.zone z).eligible = false :=
    Bool.eq_false_iff.2 (mt (heligible z).1 h)
  have hgranted (z : Fin 6) : granted z = (placement s).granted[z] := by
    show ((buildPlan s).zone z).granted = _; rw [buildPlan_zone]
  have hdeferred (z : Fin 6) : ((buildPlan s).zone z).deferred = (placement s).deferred[z] := by rw [buildPlan_zone]
  have hcolder (y z : Fin 6) : comesBefore s.heating.zones y z = true ↔ colder y z := comesBefore_iff
  have hbefore (z : Fin 6) (k : Fin 16) : before z k = powerBefore s.heating.zones z (placement s).plan[k] := by
    refine sum_filter_congr _ fun y => ?_
    rw [hp, plannedCycle_holds]
    congr 1
    exact decide_eq_decide.2 (or_congr_right (hcolder y z).symm)
  have hbudget (h : grid) : p.budget = match s.planner.derate with
      | .full => capped
      | .half => capped / 2
      | .zero => 0 := by
    refine (cycleBudget_grid (hgrid.2 h)).trans ?_
    rw [hcap]
    have happly : gridBudget cap s = s.planner.derate.apply capped := by
      simp only [capped]
      cases cap <;> rfl
    rw [happly]
    cases s.planner.derate <;> rfl
  have hrequest : p.request = (cycleSource s == .grid && drawsPower p.plan) := rfl
  refine ⟨rfl, fun h => ⟨congrArg some (hgrid.2 h), (cycleCapOf_grid (hgrid.2 h)).trans hcap, hbudget h⟩,
    fun h => ⟨congrArg some (hpack h), cycleCapOf_pack (hpack h), cycleBudget_pack (hpack h), by
      rw [hrequest, hpack h]; rfl⟩,
    fun h ha => ?_, fun h => ?_, fun k => ⟨?_, ?_, ?_, ?_, fun h ha hsuspect => ?_, fun h => ?_⟩,
    fun z => ⟨?_, fun h => ?_, fun h hnot => ?_, fun h => ?_, fun h => ⟨?_, ?_, fun k => ?_⟩⟩,
    ?_, fun z => ?_, ?_, fun h => ?_, ?_⟩
  · exact if_pos ⟨hgrid.2 h, hactive.2 ha⟩
  · exact if_neg (mt (And.imp hgrid.1 hactive.1) h)
  · rw [hp, plannedCycle_entry]; exact (placement_drafted s k).1
  · rw [hp, plannedCycle_heaterPower]; exact (placement_drafted s k).2.2.2.1
  · exact plannedCycle_power s k
  · rw [hp, plannedCycle_entry]; exact (placement_exact s).rated k
  · rw [hp, plannedCycle_entry]; exact chargerCommand_grid (hgrid.2 h) (hactive.2 ha) hsuspect _ _
  · rw [hp, plannedCycle_entry]
    exact chargerCommand_zero (h.imp_left (mt (And.imp hgrid.1 hactive.1))) _ _
  · rw [hgranted]; exact placement_granted s z
  · rw [hgranted, hdeferred]
    exact placement_without_grant (by rw [h]; exact nofun) (hineligible fun he => by rw [he.1] at h; cases h)
  · rw [hgranted, hdeferred]
    exact placement_without_grant (by rw [h]; exact nofun) (hineligible hnot)
  · have hdirect := placement_direct ((heligible z).2 h)
    simp only [heligible, ← hgranted, ← hdeferred] at hdirect
    exact hdirect
  · rw [hgranted]; exact (placement_auto h).1
  · rw [hdeferred]; exact placeZones_deferred_auto (cycleBudget s) (heaterCapOf s) s.heating.zones h
  · simp only [hbefore, hgranted, hp, plannedCycle_holds]
    exact (placement_auto h).2 k
  · exact (placement_exact s).nodup
  · rw [hgranted]; exact (placement_exact s).order z
  · simp only [← hcolder]
    exact placeZones_order (cycleBudget s) (heaterCapOf s) s.heating.zones
  · rw [hrequest, hgrid.2 h, beq_self_eq_true, Bool.true_and]; exact drawsPower_iff (plan := p.plan)
  · show (p.request && (s.supply.state == .plugged || s.supply.state == .offering)) = _
    cases s.supply.state <;> rfl

end Sys2Proof.Machine
end

section
/-! The warm reset, block by block (R27, R44, R60, R91, R107, R127, R142, R158, R166, R169, R179). -/

namespace Sys2Proof.Machine

/-! ### The abort of a dwell (R166) -/

/-- Of the attention records only the pending sets differ. -/
def OnlyPending (s t : State) : Prop :=
  t.attention.maskCp = s.attention.maskCp ∧ t.attention.maskBp = s.attention.maskBp

theorem OnlyPending.of_eq {s t : State} (h : t.attention = s.attention) : OnlyPending s t := by
  rw [OnlyPending, h]; exact ⟨rfl, rfl⟩

theorem OnlyPending.trans {s t u : State} (h : OnlyPending s t) (h' : OnlyPending t u) : OnlyPending s u :=
  ⟨h'.1.trans h.1, h'.2.trans h.2⟩

theorem onlyPending_post (c : Cause) (s : State) : OnlyPending s (post c s) := ⟨rfl, rfl⟩

theorem releaseSuspect_attention (s : State) : (releaseSuspect s).attention = s.attention := by
  unfold releaseSuspect
  split <;> simp

/-- Without a target no verdict is written. -/
theorem deliverVerdict_no_target {s : State} (htarget : s.localizer.target = none) :
    deliverVerdict .unresolved s = post .localizeDone
      ((releaseSuspect s).setLocalizer ((releaseSuspect s).localizer.ended .unresolved)) := by
  simp only [deliverVerdict, htarget, verdictEffect]

theorem onlyPending_abortDwell (s : State) : OnlyPending s (abortDwell s) := by
  rcases abortDwell_cases s with ⟨-, heq⟩ | ⟨-, heq⟩
  · rw [heq]; exact .of_eq rfl
  · rw [heq]
    cases htarget : s.localizer.target with
    | some rail =>
      rw [deliverVerdict_target htarget, writeVerdict_eq Verdict.noConfusion]
      refine .trans (.of_eq ?_) (onlyPending_post _ _)
      exact releaseSuspect_attention _
    | none =>
      rw [deliverVerdict_no_target htarget]
      refine .trans (.of_eq ?_) (onlyPending_post _ _)
      exact releaseSuspect_attention _

/-- Of the Heat Controller only zones differ, and those only in what a warm reset does not keep. -/
def OnlyWarmAlike (s t : State) : Prop :=
  (∃ zones, t.heating = { s.heating with zones := zones }) ∧ ∀ z, (t.zone z).warm = (s.zone z).warm

theorem OnlyWarmAlike.of_eq {s t : State} (h : t.heating = s.heating) : OnlyWarmAlike s t :=
  ⟨⟨_, h⟩, fun z => by rw [zone_of_heating h]⟩

theorem OnlyWarmAlike.trans {s t u : State} : OnlyWarmAlike s t → OnlyWarmAlike t u → OnlyWarmAlike s u
  | ⟨⟨_, h⟩, hwarm⟩, ⟨⟨_, h'⟩, hwarm'⟩ => ⟨⟨_, by rw [h', h]⟩, fun z => (hwarm' z).trans (hwarm z)⟩

theorem onlyWarmAlike_releaseSuspect (s : State) : OnlyWarmAlike s (releaseSuspect s) := by
  cases hsuspect : s.localizer.suspect with
  | none =>
    have hsame : (releaseSuspect s).heating = s.heating := by simp only [releaseSuspect, hsuspect]; rfl
    exact .of_eq hsame
  | some x =>
    rw [releaseSuspect_eq hsuspect]
    cases x with
    | charger => exact .of_eq rfl
    | zone z =>
      refine ⟨⟨_, rfl⟩, fun y => ?_⟩
      by_cases hy : z = y
      · subst hy
        rw [released_zone]
        rfl
      · exact congrArg Zone.warm (State.setZone_other s z y _ hy)

theorem onlyWarmAlike_abortDwell (s : State) : OnlyWarmAlike s (abortDwell s) := by
  rcases abortDwell_cases s with ⟨-, heq⟩ | ⟨-, heq⟩
  · rw [heq]; exact .of_eq rfl
  · rw [heq]
    cases htarget : s.localizer.target with
    | some rail =>
      rw [deliverVerdict_target htarget, writeVerdict_eq Verdict.noConfusion]
      refine .trans (t := releaseSuspect (s.setFault (warnKey rail) _)) ?_ (.of_eq rfl)
      exact .trans (t := s.setFault (warnKey rail) _) (.of_eq rfl) (onlyWarmAlike_releaseSuspect _)
    | none =>
      rw [deliverVerdict_no_target htarget]
      exact .trans (onlyWarmAlike_releaseSuspect s) (.of_eq rfl)

theorem onlyRecords_abortDwell (s : State) : OnlyRecords s (abortDwell s) := by
  rcases abortDwell_cases s with ⟨-, heq⟩ | ⟨-, heq⟩
  · rw [heq]; exact .of_eq rfl
  · rw [heq]; exact onlyRecords_deliverVerdict _ s

/-- The abort of a dwell writes UNRESOLVED to the record of its target. -/
theorem abortDwell_target {s : State} {r : Rail} (hstate : s.localizer.state = .dwell)
    (htarget : s.localizer.target = some r) :
    (abortDwell s).fault (warnKey r) = (s.fault (warnKey r)).withVerdict .unresolved ∧
    (∀ k, k ≠ warnKey r → (abortDwell s).fault k = s.fault k) ∧
    (abortDwell s).localizer.lastOutcome = some (r, .unresolved) := by
  obtain ⟨hrecord, hfault, hother, -⟩ := endsLocalization_deliverVerdict htarget .unresolved
  rw [abortDwell_dwell s hstate]
  exact ⟨hfault, hother, by rw [hrecord]⟩

/-- An abort without a target leaves every fault record. -/
theorem abortDwell_no_target {s : State} (h : ∀ r, s.localizer.state = .dwell → s.localizer.target ≠ some r)
    (k : Fin 12) : (abortDwell s).fault k = s.fault k := by
  rcases abortDwell_cases s with ⟨-, heq⟩ | ⟨hstate, heq⟩
  · rw [heq]
  · have htarget : s.localizer.target = none := Option.eq_none_iff_forall_ne_some.2 fun r => h r hstate
    have hreleased : (releaseSuspect s).fault k = s.fault k := verdictEffect_fault .unresolved s k
    rw [heq, deliverVerdict_no_target htarget, ← hreleased]
    exact fault_of_isolation (by simp) k

theorem abortDwell_fault_state (s : State) (k : Fin 12) : ((abortDwell s).fault k).state = (s.fault k).state := by
  by_cases h : ∃ r, s.localizer.state = .dwell ∧ s.localizer.target = some r
  · obtain ⟨r, hstate, htarget⟩ := h
    obtain ⟨hsame, hother, -⟩ := abortDwell_target hstate htarget
    by_cases hk : k = warnKey r
    · rw [hk, hsame]; rfl
    · rw [hother k hk]
  · rw [abortDwell_no_target fun r hstate htarget => h ⟨r, hstate, htarget⟩]

end Sys2Proof.Machine
end

section
/-! The warm reset settled: what it sets, keeps and closes (R27, R44, R60, R91, R107, R127, R142, R158, R169, R179). -/

namespace Sys2Proof.Machine

/-- The state after the first part of the reset: pending sets cleared, a dwell aborted. -/
def resetAborted (s : State) : State := abortDwell (resetAttention s)

theorem resetAborted_blocks (s : State) : (resetAborted s).sessions = s.sessions ∧
    (resetAborted s).accounts = s.accounts ∧ (resetAborted s).tariff = s.tariff ∧
    (resetAborted s).supply = s.supply ∧ (resetAborted s).planner = s.planner := by
  refine ⟨(abortDwell_sessions _).trans rfl, ?_, ?_, ?_, (abortDwell_planner _).trans rfl⟩ <;>
    simp [resetAborted, resetAttention]

/-- What the reset makes of the sessions. -/
theorem warmReset_sessions (s : State) : (warmReset s).sessions = (sessionsReset (resetAborted s)).sessions ∧
    (warmReset s).accounts = (sessionsReset (resetAborted s)).accounts ∧
    (warmReset s).tariff = (sessionsReset (resetAborted s)).tariff := by
  simp [warmReset, resetAborted]

theorem sessionsReset_none {s : State} (h : accruingSlot s = none) : sessionsReset s = s := by rw [sessionsReset, h]

theorem sessionsReset_some {s : State} {i : Fin 8} (h : accruingSlot s = some i) :
    sessionsReset s = closeRecord .reset i s := by rw [sessionsReset, h]

theorem accruingSlot_of_sessions {s t : State} (h : t.sessions = s.sessions) : accruingSlot t = accruingSlot s := by
  simp only [accruingSlot, State.session, h]

theorem warmReset_heating (s : State) : (warmReset s).heating = { (resetAborted s).heating with
    zones := mapIndexed (fun _ z => z.warm) (resetAborted s).heating.zones
    admissionLimit := 0, coldest := none, coldestZone := none } := by
  have hheating (u : State) : (resetPorts (resetPlanner (resetHeating u))).heating = { u.heating with
      zones := mapIndexed (fun _ z => z.warm) u.heating.zones
      admissionLimit := 0, coldest := none, coldestZone := none } := rfl
  have hbefore : (resetSupply (resetIsolation (resetMeter (sessionsReset (resetAborted s))))).heating =
      (resetAborted s).heating := by simp
  exact (hheating _).trans (congrArg (fun h : HeatController => { h with
    zones := mapIndexed (fun _ z => z.warm) h.zones
    admissionLimit := 0, coldest := none, coldestZone := none }) hbefore)

theorem warmReset_zone (s : State) (z : Fin 6) : (warmReset s).zone z = (s.zone z).warm := by
  have hwarm : (((resetAborted s).heating.zones)[z]).warm = (s.zone z).warm :=
    (onlyWarmAlike_abortDwell (resetAttention s)).2 z
  rw [State.zone, warmReset_heating, mapIndexed_get, hwarm]

/-! ### The Isolation Monitor and the OFFER_FAULT record -/

/-- The monitor before the Offer Monitor hands over its exit from FAULTED. -/
theorem warmReset_isolation (s : State) : ∃ u : State, u.isolation = { IsolationMonitor.powerOn with
      settings := (resetAborted s).isolation.settings, faults := (resetAborted s).isolation.faults } ∧
    (warmReset s).isolation = if s.supply.state = .faulted then (clearFault 11 u).isolation else u.isolation := by
  obtain ⟨u, hu⟩ : ∃ u, u = resetIsolation (resetMeter (sessionsReset (resetAborted s))) := ⟨_, rfl⟩
  have hsupply : u.supply = s.supply := by rw [hu]; simp [(resetAborted_blocks s).2.2.2.1]
  have hisolation : u.isolation = { IsolationMonitor.powerOn with
      settings := (resetAborted s).isolation.settings, faults := (resetAborted s).isolation.faults } := by
    have hbefore : (resetMeter (sessionsReset (resetAborted s))).isolation = (resetAborted s).isolation := by simp
    rw [hu, ← hbefore]
    rfl
  refine ⟨u.setSupply State.reset.supply, hisolation, ?_⟩
  have hend : (warmReset s).isolation = (resetSupply u).isolation := by rw [hu]; simp [warmReset, resetAborted]
  rw [hend, resetSupply, hsupply]
  split <;> rfl

theorem clearFault_fault (k j : Fin 12) (u : State) : (clearFault k u).fault j =
    if j = k ∧ (u.fault k).state = .active then
      { u.fault k with state := .cleared, revision := ((u.fault k).revision + 1) % 256 }
    else u.fault j := by
  have hposted (v : State) : (post .faultCleared v).fault j = v.fault j := rfl
  unfold clearFault
  by_cases hactive : (u.fault k).state = .active
  · rw [if_pos hactive, hposted, State.setFault_at]
    by_cases hj : k = j
    · rw [if_pos hj, if_pos ⟨hj.symm, hactive⟩]; rfl
    · rw [if_neg hj, if_neg fun h => hj h.1.symm]
  · rw [if_neg hactive, if_neg fun h => hactive h.2]

theorem warmReset_fault (s : State) (k : Fin 12) : (warmReset s).fault k =
    if s.supply.state = .faulted ∧ k = 11 ∧ (s.fault 11).state = .active then
      { s.fault 11 with state := .cleared, revision := ((s.fault 11).revision + 1) % 256 }
    else (resetAborted s).fault k := by
  obtain ⟨u, hu, heq⟩ := warmReset_isolation s
  have hrecords (j : Fin 12) : u.fault j = (resetAborted s).fault j := by simp only [State.fault, hu]
  have hoffer : (resetAborted s).fault 11 = s.fault 11 :=
    (abortDwell_fault (s := resetAttention s) fun r => by cases r <;> decide).trans rfl
  by_cases hfaulted : s.supply.state = .faulted
  · rw [if_pos hfaulted] at heq
    rw [fault_of_isolation heq, clearFault_fault, hrecords, hoffer, hrecords]
    simp only [hfaulted, true_and]
  · rw [if_neg hfaulted] at heq
    rw [fault_of_isolation heq, hrecords, if_neg fun h => hfaulted h.1]

theorem clearFault_isolation (k : Fin 12) (u : State) :
    ∃ faults, (clearFault k u).isolation = { u.isolation with faults := faults } := by
  unfold clearFault
  split
  · exact ⟨_, rfl⟩
  · exact ⟨_, rfl⟩

theorem warmReset_comparators (s : State) : (warmReset s).isolation.settings = s.isolation.settings ∧
    (warmReset s).isolation.votes = Vector.replicate 6 0 ∧
    (warmReset s).isolation.warnPos = ⟨0, 0⟩ ∧ (warmReset s).isolation.tripPos = ⟨0, 0⟩ ∧
    (warmReset s).isolation.warnNeg = ⟨0, 0⟩ ∧ (warmReset s).isolation.tripNeg = ⟨0, 0⟩ := by
  obtain ⟨u, hu, heq⟩ := warmReset_isolation s
  have hsettings : (resetAborted s).isolation.settings = s.isolation.settings :=
    ((onlyRecords_abortDwell (resetAttention s)).settings_eq).trans rfl
  have hfresh : ∃ faults, (warmReset s).isolation =
      { IsolationMonitor.powerOn with settings := s.isolation.settings, faults := faults } := by
    rw [heq]
    split
    · obtain ⟨faults, hcleared⟩ := clearFault_isolation 11 u
      exact ⟨faults, by rw [hcleared, hu, hsettings]⟩
    · exact ⟨_, by rw [hu, hsettings]⟩
  obtain ⟨faults, hfresh⟩ := hfresh
  rw [hfresh]
  exact ⟨rfl, rfl, rfl, rfl, rfl, rfl⟩

/-! ### The attention records -/

theorem warmReset_attention (s : State) : (warmReset s).attention =
    (resetSupply (resetIsolation (resetMeter (sessionsReset (resetAborted s))))).attention := by
  simp [warmReset, resetAborted]

theorem resetSupply_attention (u : State) : OnlyPending u (resetSupply u) ∧ KeepsPending u (resetSupply u) ∧
    (u.supply.state ≠ .faulted → (resetSupply u).attention = u.attention) := by
  unfold resetSupply
  dsimp only
  split
  · next hfaulted =>
    have hkept := keepsPending_clearFault offerFaultKey (u.setSupply State.reset.supply)
    refine ⟨?_, .trans (.of_attention rfl) hkept, fun h => absurd hfaulted h⟩
    unfold clearFault
    split <;> exact ⟨rfl, rfl⟩
  · exact ⟨⟨rfl, rfl⟩, .of_attention rfl, fun _ => rfl⟩

theorem sessionsReset_attention (u : State) : OnlyPending u (sessionsReset u) ∧ KeepsPending u (sessionsReset u) := by
  cases hslot : accruingSlot u with
  | none => rw [sessionsReset_none hslot]; exact ⟨.of_eq rfl, .of_attention rfl⟩
  | some i =>
    rw [sessionsReset_some hslot]
    refine ⟨?_, keepsPending_closeRecord _ i u⟩
    rw [OnlyPending, closeRecord_attention]
    exact onlyPending_post _ u

theorem warmReset_pending (s : State) : KeepsPending (sessionsReset (resetAborted s)) (warmReset s) ∧
    OnlyPending (sessionsReset (resetAborted s)) (warmReset s) ∧
    (s.supply.state ≠ .faulted → (warmReset s).attention = (sessionsReset (resetAborted s)).attention) := by
  obtain ⟨u, hu⟩ : ∃ u, u = resetIsolation (resetMeter (sessionsReset (resetAborted s))) := ⟨_, rfl⟩
  have hbefore : u.attention = (sessionsReset (resetAborted s)).attention := by rw [hu]; simp
  have hsupply : u.supply = s.supply := by rw [hu]; simp [(resetAborted_blocks s).2.2.2.1]
  have hend : (warmReset s).attention = (resetSupply u).attention := by rw [hu]; exact warmReset_attention s
  obtain ⟨hmasks, hkept, hsame⟩ := resetSupply_attention u
  refine ⟨(KeepsPending.of_attention hbefore).trans (hkept.trans (.of_attention hend)),
    (OnlyPending.of_eq hbefore).trans (hmasks.trans (.of_eq hend)), fun h => ?_⟩
  rw [hend, hsame (by rwa [hsupply]), hbefore]

end Sys2Proof.Machine
end

section
/-! The statement about the warm reset (R27, R44, R60, R91, R107, R127, R142, R158, R166, R169, R179; log 29). -/

namespace Sys2Proof.Machine

/-! ### The sessions of a reset (R27) -/

section
variable {s : State}

theorem resetAborted_accruing (s : State) : accruingSlot (resetAborted s) = accruingSlot s :=
  accruingSlot_of_sessions (resetAborted_blocks s).1

theorem resetAborted_session (s : State) (i : Fin 8) : (resetAborted s).session i = s.session i :=
  session_eq_of_sessions (resetAborted_blocks s).1 i

theorem resetAborted_account (s : State) (a : Fin 16) : (resetAborted s).account a = s.account a := by
  simp only [State.account, (resetAborted_blocks s).2.1]

theorem warmReset_session (s : State) (i : Fin 8) :
    (warmReset s).session i = (sessionsReset (resetAborted s)).session i :=
  session_eq_of_sessions (warmReset_sessions s).1 i

theorem warmReset_account (s : State) (a : Fin 16) :
    (warmReset s).account a = (sessionsReset (resetAborted s)).account a := by
  simp only [State.account, (warmReset_sessions s).2.1]

/-- Without a live or CLOSING session the reset leaves sessions, accounts and tariff. -/
theorem sessionsReset_idle (h : accruingSlot s = none) : (sessionsReset (resetAborted s)) = resetAborted s :=
  sessionsReset_none ((resetAborted_accruing s).trans h)

theorem sessionsReset_closes {i : Fin 8} (h : accruingSlot s = some i) :
    sessionsReset (resetAborted s) = closeRecord .reset i (resetAborted s) :=
  sessionsReset_some ((resetAborted_accruing s).trans h)

theorem warmReset_other {i : Fin 8} (h : accruingSlot s ≠ some i) : (warmReset s).session i = s.session i := by
  rw [warmReset_session]
  cases hslot : accruingSlot s with
  | none => rw [sessionsReset_idle hslot, resetAborted_session]
  | some j =>
    rw [sessionsReset_closes hslot, closeRecord_session, if_neg, resetAborted_session]
    rintro rfl
    exact h hslot

theorem warmReset_queue (s : State) : (warmReset s).sessions.queue = s.sessions.queue ∧
    (warmReset s).sessions.nextSerial = s.sessions.nextSerial := by
  rw [(warmReset_sessions s).1, ← (resetAborted_blocks s).1]
  cases hslot : accruingSlot s with
  | none => rw [sessionsReset_idle hslot]; exact ⟨rfl, rfl⟩
  | some i =>
    rw [sessionsReset_closes hslot]
    exact (closeRecord_others .reset i (resetAborted s)).2

theorem warmReset_closed {i : Fin 8} (h : accruingSlot s = some i) :
    ((warmReset s).session i).state = .closed ∧
    ((warmReset s).session i).closeReason = some ((s.session i).closeReason.getD .reset) ∧
    (warmReset s).attention.pendingCp.getLsbD 3 = true := by
  have hrecord : (warmReset s).session i = (s.session i).closedRecord .reset (resetAborted s) := by
    rw [warmReset_session, sessionsReset_closes h, closeRecord_same, resetAborted_session]
  rw [hrecord]
  refine ⟨rfl, rfl, (warmReset_pending s).1 .cp 3 ?_⟩
  rw [sessionsReset_closes h, closeRecord_attention]
  exact post_pending .cp .sessionClosed _

theorem warmReset_onlyChains (s : State) : OnlyChains s (warmReset s) := by
  have haborted : OnlyChains s (resetAborted s) := .of_eq (resetAborted_blocks s).2.2.1
  refine haborted.trans (OnlyChains.trans (t := sessionsReset (resetAborted s)) ?_ (.of_eq (warmReset_sessions s).2.2))
  cases hslot : accruingSlot s with
  | none => rw [sessionsReset_idle hslot]; exact .of_eq rfl
  | some i => rw [sessionsReset_closes hslot]; exact closeRecord_onlyChains .reset i _

/-- The close of a reset is the close of R24 and R42. -/
theorem warmReset_settles {i : Fin 8} {m : Nat} (hslot : accruingSlot s = some i) (hcalendar : s.tariff.calendar = some m)
    (hdiffer : (s.session i).heatAccount ≠ some (s.session i).chargeAccount) :
    (warmReset s).session i = { s.session i with
      state := .closed, reasons := .empty, currentBand := none, endMinute := some m
      closeReason := some ((s.session i).closeReason.getD .reset), chargeHold := 0
      heatHold := (s.session i).heatHold.map fun _ => 0 } ∧
    (warmReset s).account (s.session i).chargeAccount = (s.account (s.session i).chargeAccount).debited
      (if (s.session i).heatAccount = none then (s.session i).chargeCost + (s.session i).heatCost
        else (s.session i).chargeCost) (s.session i).chargeHold ∧
    (∀ h, (s.session i).heatAccount = some h → (warmReset s).account h =
      (s.account h).debited (s.session i).heatCost ((s.session i).heatHold.getD 0)) ∧
    (∀ a, a ≠ (s.session i).chargeAccount → (s.session i).heatAccount ≠ some a →
      (warmReset s).account a = s.account a) ∧
    (warmReset s).tariff = (s.setChain (s.session i).chain { s.chain (s.session i).chain with
      lockCount := (s.chain (s.session i).chain).lockCount - 1 }).tariff := by
  obtain ⟨b, hb⟩ : ∃ b, b = resetAborted s := ⟨_, rfl⟩
  have hsession : b.session i = s.session i := hb ▸ resetAborted_session s i
  have haccount (a : Fin 16) : b.account a = s.account a := hb ▸ resetAborted_account s a
  have htariff : b.tariff = s.tariff := hb ▸ (resetAborted_blocks s).2.2.1
  have hclosed : sessionsReset (resetAborted s) = closeRecord .reset i b := hb ▸ sessionsReset_closes hslot
  have hdiffer' : (b.session i).heatAccount ≠ some (b.session i).chargeAccount := by rwa [hsession]
  rw [warmReset_session, hclosed, (warmReset_sessions s).2.2, hclosed, ← hsession, ← coveredCost_charge]
  refine ⟨?_, ?_, fun h hheat => ?_, fun a hcharge hheat => ?_, ?_⟩
  · have hminute : minuteNow b = m := by rw [minuteNow, htariff, hcalendar]; rfl
    rw [closeRecord_same, Session.closedRecord, hminute]
  · rw [warmReset_account, hclosed, closeRecord_charge .reset i b hdiffer', haccount]
  · rw [warmReset_account, hclosed, closeRecord_heat .reset i b hdiffer' hheat, haccount]
  · rw [warmReset_account, hclosed, closeRecord_other .reset i b hdiffer' hcharge hheat, haccount]
  · rw [closeRecord_tariff]
    simp only [unlockChain, State.setChain, State.setTariff, State.chain, htariff]

end

/-! ### The warm reset -/

/-- Settles O51, block by block. -/
theorem warmReset_settled : Obligations.WarmReset := by
  intro s
  have haborted : OnlyRecords s (resetAborted s) := (onlyRecords_abortDwell (resetAttention s))
  have hfault_other (k : Fin 12) (hk : k ≠ 11) : (warmReset s).fault k = (resetAborted s).fault k := by
    rw [warmReset_fault, if_neg fun h => hk h.2.1]
  have hwarn (r : Rail) : warnKey r ≠ 11 := by cases r <;> decide
  have hoffer : (resetAborted s).fault 11 = s.fault 11 :=
    (abortDwell_fault (s := resetAttention s) fun r => (hwarn r).symm).trans rfl
  have hfault11 : (warmReset s).fault 11 = if s.supply.state = .faulted ∧ (s.fault 11).state = .active then
      { s.fault 11 with state := .cleared, revision := ((s.fault 11).revision + 1) % 256 } else s.fault 11 := by
    rw [warmReset_fault, hoffer]
    simp only [true_and]
  obtain ⟨hsettings, hvotes, hwarnPos, htripPos, hwarnNeg, htripNeg⟩ := warmReset_comparators s
  obtain ⟨hpending, hmasks, hattention⟩ := warmReset_pending s
  obtain ⟨chains, htariff⟩ := warmReset_onlyChains s
  obtain ⟨hqueue, hserial⟩ := warmReset_queue s
  have hlocalizer : (warmReset s).localizer = (resetAborted s).localizer := by simp [warmReset, resetAborted]
  have hmask : OnlyPending s (warmReset s) :=
    (OnlyPending.trans (t := resetAttention s) ⟨rfl, rfl⟩ (onlyPending_abortDwell _)).trans
      ((sessionsReset_attention (resetAborted s)).1.trans hmasks)
  have hheating : ∃ zones, (warmReset s).heating = { s.heating with
      zones := zones, admissionLimit := 0, coldest := none, coldestZone := none } := by
    obtain ⟨⟨zones, hzones⟩, -⟩ := onlyWarmAlike_abortDwell (resetAttention s)
    have hsame : (resetAborted s).heating = { s.heating with zones := zones } := hzones
    exact ⟨_, by rw [warmReset_heating, hsame]⟩
  obtain ⟨zones, hheating⟩ := hheating
  have hplanner : (warmReset s).planner = { Planner.powerOn with messages := s.planner.messages + 1 } := by
    have hset (u : State) : (resetPorts (resetPlanner u)).planner =
        { Planner.powerOn with messages := u.planner.messages + 1 } := rfl
    refine (hset _).trans (congrArg (fun p : Planner => { Planner.powerOn with messages := p.messages + 1 }) ?_)
    refine Eq.trans ?_ (resetAborted_blocks s).2.2.2.2
    simp [resetAborted]
  have hidle (h : s.localizer.state = .idle) : resetAborted s = resetAttention s := abortDwell_idle (resetAttention s) h
  refine ⟨warmReset s, rfl, fun hready => executes_accept hready rfl rfl, ?_, ?_, hplanner, hsettings, hvotes, hwarnPos,
    htripPos, hwarnNeg, htripNeg, fun hfaulted => ?_, fun k hk => ?_, fun r hstate htarget => ?_, fun k hk hother => ?_,
    hfault11, fun z => warmReset_zone s z, ?_, ?_, ?_, ?_, ?_, ?_, ?_, ?_, fun h => ?_, fun r hstate htarget => ⟨?_, ?_⟩,
    hmask.1, hmask.2, fun hstate hsupply hnone => ?_, ?_, ?_, ?_, ?_, hqueue, hserial, fun i hi => warmReset_other hi,
    fun i hi => warmReset_closed hi, fun hnone => ?_, fun i m hslot hcalendar hdiffer => ?_, ?_, rfl, rfl, rfl, ?_⟩
  · simp [warmReset, resetMeter]
  · have hset (u : State) : (resetSupply u).supply = State.reset.supply := by
      unfold resetSupply
      dsimp only
      split
      · rw [(clearFault_frame _ _).2.2.2.2.1]; rfl
      · rfl
    simp [warmReset, hset]
  · rw [hfault11]
    split
    · exact FaultState.noConfusion
    · next h => exact fun hactive => h ⟨hfaulted, hactive⟩
  · rw [hfault_other k hk]
    exact (abortDwell_fault_state (resetAttention s) k).trans rfl
  · rw [hfault_other _ (hwarn r)]
    exact (abortDwell_target (s := resetAttention s) hstate htarget).1
  · rw [hfault_other k hk]
    by_cases h : ∃ r, s.localizer.state = .dwell ∧ s.localizer.target = some r
    · obtain ⟨r, hstate, htarget⟩ := h
      exact (abortDwell_target (s := resetAttention s) hstate htarget).2.1 k (hother r hstate htarget)
    · exact abortDwell_no_target (s := resetAttention s) (fun r hstate htarget => h ⟨r, hstate, htarget⟩) k
  · rw [hheating]
  · rw [hheating]
  · rw [hheating]
  · rw [hheating]
  · rw [hheating]
  · rw [hheating]
  · rw [hheating]
  · rw [hlocalizer]; exact abortDwell_idles _
  · rw [hlocalizer, hidle h]; rfl
  · rw [hlocalizer]
    exact (abortDwell_target (s := resetAttention s) hstate htarget).2.2
  · refine hpending .cp 8 ((sessionsReset_attention (resetAborted s)).2 .cp 8 ?_)
    rw [resetAborted, abortDwell_dwell (resetAttention s) hstate]
    exact (deliverVerdict_record .unresolved (resetAttention s)).2.2.2.2 .cp
  · rw [hattention hsupply, sessionsReset_idle hnone, hidle hstate]
    exact ⟨rfl, rfl⟩
  · rw [htariff]
  · rw [htariff]
  · rw [htariff]
  · rw [htariff]
  · obtain ⟨-, haccounts, htariff', -⟩ := resetAborted_blocks s
    rw [(warmReset_sessions s).2.1, (warmReset_sessions s).2.2, sessionsReset_idle hnone]
    exact ⟨haccounts, htariff'⟩
  · exact warmReset_settles hslot hcalendar hdiffer
  · exact (warmReset_frame s).1
  · exact (warmReset_frame s).2.2.2

end Sys2Proof.Machine
end

section
/-! What a budget cut and a charger withdrawal make of the plan (R119 to R121). -/

namespace Sys2Proof.Machine

theorem cut_idle {p : Planner} (budget : Nat) (h : p.source ≠ some .grid ∨ p.state ≠ .running ∨ p.slot = none) :
    p.cut budget = p := by
  unfold Planner.cut
  split
  · next hsource => exact mapNotBegun_idle (h.resolve_left fun hne => hne hsource)
  · rfl

theorem mapNotBegun_entry_begun {f : PlanEntry → PlanEntry} {p : Planner} {now k : Fin 16} (hstate : p.state = .running)
    (hslot : p.slot = some now) (hk : k ≤ now) : (mapNotBegun f p).plan[k] = p.plan[k] := by
  rw [mapNotBegun_running hstate hslot]
  exact (mapIndexed_get _ _ k).trans (if_neg hk.not_gt)

theorem cut_entry {p : Planner} {now : Fin 16} (budget : Nat) (hsource : p.source = some .grid)
    (hstate : p.state = .running) (hslot : p.slot = some now) (k : Fin 16) :
    (p.cut budget).plan[k] = if now < k then trimEntry budget p.order p.plan[k] else p.plan[k] := by
  rw [Planner.cut, if_pos hsource]
  split
  · next hk => exact mapNotBegun_entry hstate hslot hk
  · next hk => exact mapNotBegun_entry_begun hstate hslot (not_lt.1 hk)

/-- A cut of one entry: the latest placed zones leave it, each while the heater power was still above the budget. -/
theorem trimEntry_cuts {budget : Nat} {order : List (Fin 6)} {e t : PlanEntry} (hnodup : order.Nodup)
    (hbudget : budget < e.budget) (ht : t = trimEntry budget order e) :
    t.budget = budget ∧ t.command = min e.command (budget - t.heaterPower) ∧
    ∃ kept gone, order = kept ++ gone ∧ (∀ z : Fin 6, t.zones[z] = if z ∈ gone then none else e.zones[z]) ∧
      t.heaterPower = e.heaterPower - (gone.map fun z => (e.zones[z]).getD 0).sum ∧
      (kept ≠ [] → t.heaterPower ≤ budget) ∧
      ∀ z rest, gone = z :: rest → budget < t.heaterPower + (e.zones[z]).getD 0 := by
  obtain ⟨dropped, left, hsplit, hdrop, hfits, hover⟩ := dropLatest_removes budget order.reverse e
  have horder : order = left.reverse ++ dropped.reverse := by
    rw [← List.reverse_append, ← hsplit, List.reverse_reverse]
  have hdropped : dropped.Nodup :=
    (List.nodup_append.1 (hsplit ▸ List.nodup_reverse.2 hnodup)).1
  have hpower : (dropLatest budget order.reverse e).heaterPower =
      e.heaterPower - (dropped.map fun z => (e.zones[z]).getD 0).sum := by
    rw [hdrop]; exact foldl_remove_heaterPower dropped e hdropped
  have hzones (z : Fin 6) : (dropLatest budget order.reverse e).zones[z] =
      if z ∈ dropped then none else e.zones[z] := by rw [hdrop]; exact foldl_remove_zones z dropped e
  have hcommand : (dropLatest budget order.reverse e).command = e.command := by
    rw [hdrop]; exact (foldl_remove_budget dropped e).2
  rw [trimEntry, if_neg hbudget.not_ge] at ht
  subst ht
  refine ⟨rfl, congrArg (fun c => min c _) hcommand, left.reverse, dropped.reverse, horder, fun z => ?_, ?_,
    fun hkept => hfits fun hnil => hkept (by rw [hnil]; rfl), fun z rest hgone => ?_⟩
  · rw [hzones z]; simp only [List.mem_reverse]
  · rw [hpower, List.map_reverse, List.sum_reverse]
  · have hlast : dropped = rest.reverse ++ [z] := by
      rw [← List.reverse_reverse dropped, hgone, List.reverse_cons]
    have hlate := hover rest.reverse z hlast
    rw [foldl_remove_heaterPower _ e (List.nodup_append.1 (hlast ▸ hdropped)).1] at hlate
    rw [hpower, hlast, List.map_append, List.sum_append]
    simp only [List.map_cons, List.map_nil, List.sum_cons, List.sum_nil]
    omega

theorem withdrawCharger_running {p : Planner} {now : Fin 16} (hstate : p.state = .running) (hslot : p.slot = some now) :
    p.withdrawCharger = { p with plan := Vector.ofFn fun k =>
      if now < k then { p.plan[k] with command := 0 } else p.plan[k] } := mapNotBegun_running hstate hslot

end Sys2Proof.Machine
end

section
/-! SUPPORT. The hand-offs of a period or overflow, each said once (R99 to R104, R120). -/

namespace Sys2Proof.Machine

/-! ### To the Session Table (R100 to R102) -/

section
variable {before : SupplyState} {u : State}

theorem handSupplyToSessions_same (h : before = u.supply.state) : handSupplyToSessions before u = u := if_pos h

theorem handSupplyToSessions_plug (hbefore : before = .unplugged) (hafter : u.supply.state ≠ .unplugged) :
    handSupplyToSessions before u = goLive u := by
  rw [handSupplyToSessions, if_neg fun h : before = u.supply.state => hafter (h.symm.trans hbefore), if_pos hbefore]

theorem handSupplyToSessions_unplug (hbefore : before ≠ .unplugged) (hafter : u.supply.state = .unplugged) :
    handSupplyToSessions before u = sessionsUnplugged u := by
  rw [handSupplyToSessions, if_neg fun h => hbefore (h.trans hafter), if_neg hbefore, if_pos hafter]

/-- OFFER is wanted in PLUGGED and FAULTED: in every state but OFFERING, where the car is not unplugged. -/
theorem offerReason_eq {st : SupplyState} (h : st ≠ .unplugged) :
    (st == .plugged || st == .faulted) = decide (st ≠ .offering) := by
  cases st
  case unplugged => exact absurd rfl h
  all_goals rfl

theorem handSupplyToSessions_change (hbefore : before ≠ .unplugged) (hafter : u.supply.state ≠ .unplugged)
    (hchange : before ≠ u.supply.state) :
    handSupplyToSessions before u = changeLive (fun p => { p with offer := decide (u.supply.state ≠ .offering) }) u := by
  rw [handSupplyToSessions, if_neg hchange, if_neg hbefore, if_neg hafter, sessionsSupply, offerReason_eq hafter]

theorem sessionsUnplugged_none (h : accruingSlot u = none) : sessionsUnplugged u = u := by rw [sessionsUnplugged, h]

theorem sessionsUnplugged_some {i : Fin 8} (h : accruingSlot u = some i) : sessionsUnplugged u =
    if (u.session i).state.isLive then
      sessionChanged (decide ((u.session i).state = .active)) (closeRecord .unplugged i u)
    else closeRecord .unplugged i u := by
  simp only [sessionsUnplugged, h, closeSession, leftActive_closeRecord]

/-- What the unplug event leaves of sessions, accounts and tariff is the close. -/
theorem sessionsUnplugged_closes {i : Fin 8} (h : accruingSlot u = some i) :
    (sessionsUnplugged u).sessions = (closeRecord .unplugged i u).sessions ∧
    KeepsPending (closeRecord .unplugged i u) (sessionsUnplugged u) := by
  rw [sessionsUnplugged_some h]
  split
  · exact ⟨sessionChanged_sessions _ _, keepsPending_sessionChanged _ _⟩
  · exact ⟨rfl, .of_attention rfl⟩

theorem sessionsUnplugged_queue (u : State) : (sessionsUnplugged u).sessions.queue = u.sessions.queue := by
  cases h : accruingSlot u with
  | none => rw [sessionsUnplugged_none h]
  | some i => rw [(sessionsUnplugged_closes h).1, closeRecord_queue]

theorem changeLive_reasons {f : PauseReasons → PauseReasons} {i : Fin 8} (h : liveSlot u = some i) :
    ((changeLive f u).session i).reasons = f (u.session i).reasons := by
  obtain ⟨st, hrecord⟩ := changeReasons_record f (liveSlot_some h)
  rw [changeLive_some h, hrecord]

/-! ### To the Resource Planner (R103, R120) -/

/-- The offered current is lower, or the mark is absent. -/
def OfferLowered (before after : Option Nat) : Prop := ∃ v ∈ before, ∀ w ∈ after, w < v

theorem offeredChanged_lowered {offered : Option Nat} (h : OfferLowered offered u.supply.offered) :
    offeredChanged offered u = cutBudget u := by
  obtain ⟨v, rfl, hlower⟩ := h
  cases hafter : u.supply.offered with
  | none => simp only [offeredChanged, hafter]
  | some w => simp only [offeredChanged, hafter, if_pos (hlower w hafter)]

theorem offeredChanged_stands {offered : Option Nat} (h : ¬ OfferLowered offered u.supply.offered) :
    offeredChanged offered u = u := by
  cases offered with
  | none => rfl
  | some v =>
    cases hafter : u.supply.offered with
    | none => exact absurd ⟨v, rfl, fun w hw => by rw [hafter] at hw; cases hw⟩ h
    | some w =>
      have hnot : ¬ w < v := fun hlt => h ⟨v, rfl, fun x hx => by
        rw [hafter] at hx; exact Option.some.inj hx ▸ hlt⟩
      simp only [offeredChanged, hafter, if_neg hnot]

/-! ### To the Isolation Monitor (R104) -/

theorem handSupplyToFaults_entry (hbefore : before ≠ .faulted) (hafter : u.supply.state = .faulted) :
    handSupplyToFaults before u = confirmFault 11 none u := by
  rw [handSupplyToFaults, if_neg fun h => hbefore (h.trans hafter), if_pos hafter]
  rfl

theorem handSupplyToFaults_exit (hbefore : before = .faulted) (hafter : u.supply.state ≠ .faulted) :
    handSupplyToFaults before u = clearFault 11 u := by
  rw [handSupplyToFaults, if_neg fun h : before = u.supply.state => hafter (h.symm.trans hbefore), if_neg hafter, if_pos hbefore]
  rfl

theorem handSupplyToFaults_none (h : before = .faulted ↔ u.supply.state = .faulted) :
    handSupplyToFaults before u = u := by
  by_cases hbefore : before = .faulted
  · exact if_pos (hbefore.trans (h.1 hbefore).symm)
  · unfold handSupplyToFaults
    rw [if_neg (mt h.2 hbefore), if_neg hbefore, ite_self]

theorem keepsPending_handSupplyToFaults (before : SupplyState) (u : State) :
    KeepsPending u (handSupplyToFaults before u) := by
  unfold handSupplyToFaults
  split
  · exact .of_attention rfl
  · split
    · exact keepsPending_confirmFault _ _ u
    · split
      · exact keepsPending_clearFault _ u
      · exact .of_attention rfl

/-! ### PLUG (R100, R101) -/

theorem postPlug_posts (h : (before = .unplugged ∧ u.supply.state ≠ .unplugged) ∨
    (before ≠ .unplugged ∧ u.supply.state = .unplugged)) : postPlug before u = post .plug u := by
  refine if_pos (h.elim (fun ⟨hb, ha⟩ => ⟨fun heq => ha (heq ▸ hb), .inl hb⟩) fun ⟨hb, ha⟩ =>
    ⟨fun heq => hb (heq.trans ha), .inr ha⟩)

theorem postPlug_none (h : before = .unplugged ↔ u.supply.state = .unplugged) : postPlug before u = u := by
  refine if_neg fun ⟨hchange, hone⟩ => hchange ?_
  rcases hone with hb | ha
  · exact hb.trans (h.1 hb).symm
  · exact (h.2 ha).trans ha.symm

end

/-! ### The monitor's record (R99, R101, R105) -/

/-- The record after both adoptions, before the supply state. -/
def OfferMonitor.adopts (offer : Option Nat) (cls : LevelClass) (last : LastPeriod) (m : OfferMonitor) : OfferMonitor :=
  ({ m with last := some last }.adoptOffer offer).adoptClass cls

theorem adopts_requestLine (offer : Option Nat) (cls : LevelClass) (last : LastPeriod) (m : OfferMonitor) :
    (m.adopts offer cls last).requestLine = m.requestLine := adopted_eq offer cls { m with last := some last }

theorem settled_state (before : SupplyState) (m : OfferMonitor) : (m.settled before).state = m.state := by
  unfold OfferMonitor.settled
  split
  · rfl
  · split <;> rfl

theorem settled_unplug {before : SupplyState} {m : OfferMonitor} (h : before ≠ .unplugged ∧ m.state = .unplugged) :
    m.settled before = { m with requestLine := false, offered := none, run := [], noOffer := 0 } := if_pos h

theorem settled_stays {before : SupplyState} {m : OfferMonitor} (h : ¬ (before ≠ .unplugged ∧ m.state = .unplugged)) :
    m.settled before = { m with
      requestLine := if m.state = .faulted ∧ before ≠ .faulted then false else m.requestLine } := by
  rw [OfferMonitor.settled, if_neg h]
  by_cases hfault : before ≠ .faulted ∧ m.state = .faulted
  · rw [if_pos hfault, if_pos hfault.symm]
  · rw [if_neg hfault, if_neg fun h => hfault h.symm]

/-! ### A period taken -/

section
variable (offer : Option Nat) (cls : LevelClass) (last : LastPeriod) (s : State)

/-- The state that the Session Table leaves of a period taken. -/
def toldSessions : State := handSupplyToSessions s.supply.state (s.setSupply (s.supply.taken offer cls last))

theorem toldSessions_supply : (toldSessions offer cls last s).supply = s.supply.taken offer cls last := by
  simp [toldSessions]

theorem takePeriod_eq : takePeriod offer cls last s = postPlug s.supply.state (handSupplyToFaults s.supply.state
    (offeredChanged s.supply.offered (toldSessions offer cls last s))) := rfl

theorem keepsPending_postPlug (before : SupplyState) (u : State) : KeepsPending u (postPlug before u) := by
  unfold postPlug
  split
  · exact keepsPending_post _ u
  · exact .of_attention rfl

theorem takePeriod_sessions : (takePeriod offer cls last s).sessions = (toldSessions offer cls last s).sessions ∧
    (takePeriod offer cls last s).accounts = (toldSessions offer cls last s).accounts ∧
    (takePeriod offer cls last s).tariff = (toldSessions offer cls last s).tariff := by
  rw [takePeriod_eq]; simp

theorem takePeriod_pending : KeepsPending (toldSessions offer cls last s) (takePeriod offer cls last s) := by
  rw [takePeriod_eq]
  have hoffered : KeepsPending (toldSessions offer cls last s)
      (offeredChanged s.supply.offered (toldSessions offer cls last s)) := .of_attention (by simp)
  exact hoffered.trans ((keepsPending_handSupplyToFaults _ _).trans (keepsPending_postPlug _ _))

theorem postPlug_fault (before : SupplyState) (u : State) (k : Fin 12) : (postPlug before u).fault k = u.fault k :=
  fault_of_isolation (by simp) k

end

end Sys2Proof.Machine
end

section
/-! What a plug, an unplug, a change of OFFER and a change of FAULTED leave of a period taken (R100 to R104). -/

namespace Sys2Proof.Machine

section
variable {offer : Option Nat} {cls : LevelClass} {last : LastPeriod} {s : State}

/-- PLUG is posted where the record enters or leaves UNPLUGGED. -/
theorem takePeriod_posts (h : (s.supply.state = .unplugged ∧ (s.supply.taken offer cls last).state ≠ .unplugged) ∨
    (s.supply.state ≠ .unplugged ∧ (s.supply.taken offer cls last).state = .unplugged)) :
    (takePeriod offer cls last s).attention.pendingCp.getLsbD 0 = true := by
  obtain ⟨v, hv⟩ : ∃ v, v = handSupplyToFaults s.supply.state
    (offeredChanged s.supply.offered (toldSessions offer cls last s)) := ⟨_, rfl⟩
  have hsupply : v.supply = s.supply.taken offer cls last := by
    rw [hv, ← toldSessions_supply]; simp
  rw [takePeriod_eq, ← hv, postPlug_posts (by rwa [hsupply])]
  exact post_pending .cp .plug v

/-! ### Plug (R100) -/

theorem toldSessions_plug (hbefore : s.supply.state = .unplugged)
    (hafter : (s.supply.taken offer cls last).state ≠ .unplugged) :
    toldSessions offer cls last s = goLive (s.setSupply (s.supply.taken offer cls last)) :=
  handSupplyToSessions_plug hbefore hafter

theorem takePeriod_plug {i : Fin 8} {rest : List (Fin 8)} (hbefore : s.supply.state = .unplugged)
    (hafter : (s.supply.taken offer cls last).state ≠ .unplugged) (hqueue : s.sessions.queue = i :: rest) :
    ((takePeriod offer cls last s).session i).state.isLive = true ∧
    (takePeriod offer cls last s).sessions.queue = rest ∧
    (takePeriod offer cls last s).attention.pendingCp.getLsbD 1 = true ∧
    ((takePeriod offer cls last s).session i).reasons.offer =
      decide ((s.supply.taken offer cls last).state ≠ .offering) := by
  obtain ⟨u, hu⟩ : ∃ u, u = s.setSupply (s.supply.taken offer cls last) := ⟨_, rfl⟩
  have htold : toldSessions offer cls last s = goLive u := hu ▸ toldSessions_plug hbefore hafter
  have huqueue : u.sessions.queue = i :: rest := by rw [hu]; exact hqueue
  have hustate : u.supply.state = (s.supply.taken offer cls last).state := by rw [hu]; rfl
  obtain ⟨hsessions, -, -⟩ := takePeriod_sessions offer cls last s
  have hrecord : (takePeriod offer cls last s).session i = (u.session i).gone u := by
    rw [session_eq_of_sessions hsessions, htold, goLive_session huqueue, if_pos rfl]
  refine ⟨?_, ?_, takePeriod_pending offer cls last s .cp 1 ?_, ?_⟩
  · rw [hrecord]; exact Session.gone_isLive u _
  · rw [hsessions, htold, goLive_queue huqueue]
  · rw [htold]
    simp only [goLive, huqueue]
    exact post_pending .cp .sessionLive _
  · rw [hrecord, ← hustate]
    exact offerReason_eq (by rwa [hustate])

/-! ### Unplug (R101) -/

theorem toldSessions_unplug (hbefore : s.supply.state ≠ .unplugged)
    (hafter : (s.supply.taken offer cls last).state = .unplugged) :
    toldSessions offer cls last s = sessionsUnplugged (s.setSupply (s.supply.taken offer cls last)) :=
  handSupplyToSessions_unplug hbefore hafter

theorem takePeriod_unplug_queue (hbefore : s.supply.state ≠ .unplugged)
    (hafter : (s.supply.taken offer cls last).state = .unplugged) :
    (takePeriod offer cls last s).sessions.queue = s.sessions.queue := by
  rw [(takePeriod_sessions offer cls last s).1, toldSessions_unplug hbefore hafter, sessionsUnplugged_queue]
  rfl

theorem takePeriod_unplug {i : Fin 8} (hbefore : s.supply.state ≠ .unplugged)
    (hafter : (s.supply.taken offer cls last).state = .unplugged) (hslot : accruingSlot s = some i) :
    (takePeriod offer cls last s).attention.pendingCp.getLsbD 3 = true ∧
    (takePeriod offer cls last s).session i =
      (closeRecord .unplugged i (s.setSupply (s.supply.taken offer cls last))).session i ∧
    ((takePeriod offer cls last s).session i).state = .closed ∧
    ((takePeriod offer cls last s).session i).closeReason = some ((s.session i).closeReason.getD .unplugged) := by
  obtain ⟨u, hu⟩ : ∃ u, u = s.setSupply (s.supply.taken offer cls last) := ⟨_, rfl⟩
  have hsession : u.session i = s.session i := by rw [hu]; rfl
  have huslot : accruingSlot u = some i := by rw [hu]; exact hslot
  have htold : toldSessions offer cls last s = sessionsUnplugged u := hu ▸ toldSessions_unplug hbefore hafter
  obtain ⟨hclosed, hpending⟩ := sessionsUnplugged_closes huslot
  have hrecord : (takePeriod offer cls last s).session i = (closeRecord .unplugged i u).session i := by
    rw [session_eq_of_sessions (takePeriod_sessions offer cls last s).1, htold, session_eq_of_sessions hclosed]
  rw [← hu, hrecord]
  refine ⟨takePeriod_pending offer cls last s .cp 3 ?_, rfl, ?_, ?_⟩
  · rw [htold]
    refine hpending .cp 3 ?_
    rw [closeRecord_attention]
    exact post_pending .cp .sessionClosed u
  · rw [closeRecord_same]; rfl
  · rw [closeRecord_same, hsession]; rfl

/-! ### OFFER (R102) -/

theorem takePeriod_offerReason {i : Fin 8} (hbefore : s.supply.state ≠ .unplugged)
    (hafter : (s.supply.taken offer cls last).state ≠ .unplugged)
    (hchange : s.supply.state ≠ (s.supply.taken offer cls last).state) (hlive : liveSlot s = some i) :
    ((takePeriod offer cls last s).session i).reasons.offer =
      decide ((s.supply.taken offer cls last).state ≠ .offering) := by
  obtain ⟨u, hu⟩ : ∃ u, u = s.setSupply (s.supply.taken offer cls last) := ⟨_, rfl⟩
  have hustate : u.supply.state = (s.supply.taken offer cls last).state := by rw [hu]; rfl
  have htold : toldSessions offer cls last s =
      changeLive (fun p => { p with offer := decide (u.supply.state ≠ .offering) }) u := by
    rw [toldSessions, ← hu]
    exact handSupplyToSessions_change hbefore (by rwa [hustate]) (by rwa [hustate])
  rw [session_eq_of_sessions (takePeriod_sessions offer cls last s).1, htold,
    changeLive_reasons (i := i) (by rw [hu]; exact hlive), hustate]

/-! ### FAULTED (R104) -/

theorem takePeriod_fault (k : Fin 12) : (takePeriod offer cls last s).fault k =
    (handSupplyToFaults s.supply.state (offeredChanged s.supply.offered (toldSessions offer cls last s))).fault k := by
  rw [takePeriod_eq, postPlug_fault]

theorem offeredChanged_supply_state : (offeredChanged s.supply.offered (toldSessions offer cls last s)).supply.state =
    (s.supply.taken offer cls last).state := by
  rw [← toldSessions_supply]; simp

theorem takePeriod_faultActive (hbefore : s.supply.state ≠ .faulted)
    (hafter : (s.supply.taken offer cls last).state = .faulted) :
    ((takePeriod offer cls last s).fault 11).state = .active := by
  rw [takePeriod_fault, handSupplyToFaults_entry hbefore (offeredChanged_supply_state.trans hafter)]
  exact confirmFault_state 11 none _

theorem takePeriod_faultCleared (hbefore : s.supply.state = .faulted)
    (hafter : (s.supply.taken offer cls last).state ≠ .faulted) :
    ((takePeriod offer cls last s).fault 11).state ≠ .active := by
  rw [takePeriod_fault, handSupplyToFaults_exit hbefore (by rwa [offeredChanged_supply_state])]
  exact clearFault_state 11 _

end

end Sys2Proof.Machine
end

section
/-! The statement about the Offer Monitor's hand-offs (R99 to R105, R119 to R121). -/

namespace Sys2Proof.Machine

theorem settled_eq (before st : SupplyState) (m : OfferMonitor) : { m with state := st }.settled before =
    if decide (before ≠ .unplugged ∧ st = .unplugged) then
      { m with state := st, requestLine := false, offered := none, run := [], noOffer := 0 }
    else { m with
      state := st, requestLine := if st = .faulted ∧ before ≠ .faulted then false else m.requestLine } := by
  by_cases hunplug : before ≠ .unplugged ∧ st = .unplugged
  · exact (settled_unplug (m := { m with state := st }) hunplug).trans (if_pos (decide_eq_true hunplug)).symm
  · exact (settled_stays (m := { m with state := st }) hunplug).trans
      (if_neg fun h => hunplug (of_decide_eq_true h)).symm

/-- The monitor's record after a period, as the statement writes it. -/
theorem taken_eq (offer : Option Nat) (cls : LevelClass) (last : LastPeriod) (m : OfferMonitor) :
    let adopted := m.adopts offer cls last
    let state := supplyOf adopted.level adopted.offered
    m.taken offer cls last = if decide (m.state ≠ .unplugged ∧ state = .unplugged) then
        { adopted with state := state, requestLine := false, offered := none, run := [], noOffer := 0 }
      else { adopted with
        state := state, requestLine := if state = .faulted ∧ m.state ≠ .faulted then false else m.requestLine } := by
  intro adopted state
  have hline : adopted.requestLine = m.requestLine := adopts_requestLine offer cls last m
  rw [← hline]
  exact settled_eq m.state state adopted

/-- The hand-off to the Session Table, as the statement writes it. -/
theorem handSupplyToSessions_eq (before : SupplyState) (u : State) : handSupplyToSessions before u =
    if decide (before = .unplugged ∧ u.supply.state ≠ .unplugged) then goLive u
    else if decide (before ≠ .unplugged ∧ u.supply.state = .unplugged) then sessionsUnplugged u
    else if before ≠ u.supply.state then
      changeLive (fun p => { p with offer := decide (u.supply.state ≠ .offering) }) u
    else u := by
  simp only [decide_eq_true_eq]
  by_cases hbefore : before = .unplugged
  · by_cases hafter : u.supply.state = .unplugged
    · rw [if_neg fun h => h.2 hafter, if_neg fun h => h.1 hbefore, if_neg fun h => h (hbefore.trans hafter.symm)]
      exact handSupplyToSessions_same (hbefore.trans hafter.symm)
    · rw [if_pos ⟨hbefore, hafter⟩]
      exact handSupplyToSessions_plug hbefore hafter
  · rw [if_neg fun h => hbefore h.1]
    by_cases hafter : u.supply.state = .unplugged
    · rw [if_pos ⟨hbefore, hafter⟩]
      exact handSupplyToSessions_unplug hbefore hafter
    · rw [if_neg fun h => hafter h.2]
      by_cases hchange : before = u.supply.state
      · rw [if_neg fun h => h hchange]
        exact handSupplyToSessions_same hchange
      · rw [if_pos hchange]
        exact handSupplyToSessions_change hbefore hafter hchange

theorem handSupplyToFaults_eq (before : SupplyState) (u : State) : handSupplyToFaults before u =
    if before ≠ .faulted ∧ u.supply.state = .faulted then confirmFault 11 none u
    else if before = .faulted ∧ u.supply.state ≠ .faulted then clearFault 11 u else u := by
  split
  · next h => exact handSupplyToFaults_entry h.1 h.2
  · next hentry =>
    split
    · next h => exact handSupplyToFaults_exit h.1 h.2
    · next hexit =>
      refine handSupplyToFaults_none ⟨fun hb => ?_, fun ha => ?_⟩
      · by_contra ha; exact hexit ⟨hb, ha⟩
      · by_contra hb; exact hentry ⟨hb, ha⟩

theorem postPlug_eq (before : SupplyState) (u : State) : postPlug before u =
    if decide (before = .unplugged ∧ u.supply.state ≠ .unplugged) = true ∨
      decide (before ≠ .unplugged ∧ u.supply.state = .unplugged) = true then post .plug u else u := by
  simp only [decide_eq_true_eq]
  split
  · next h => exact postPlug_posts h
  · next h =>
    refine postPlug_none ⟨fun hb => ?_, fun ha => ?_⟩
    · by_contra ha; exact h (.inl ⟨hb, ha⟩)
    · by_contra hb; exact h (.inr ⟨hb, ha⟩)

theorem sessionsUnplugged_eq (u : State) : sessionsUnplugged u = match accruingSlot u with
    | none => u
    | some i =>
      let done := closeRecord .unplugged i u
      if (u.session i).state.isLive then sessionChanged (decide ((u.session i).state = .active)) done else done := by
  cases h : accruingSlot u with
  | none => exact sessionsUnplugged_none h
  | some i => exact sessionsUnplugged_some h

/-- Settles O37, from the hand-offs one by one. -/
theorem supplyHandOffs : Obligations.SupplyHandOffs := by
  refine ⟨fun s offer cls last => ?_, fun p budget => ⟨cut_idle budget, fun now hsource hstate hslot hnodup =>
    ⟨Planner.cut_eq budget p, fun k => ?_⟩⟩, fun p => ⟨mapNotBegun_idle, fun now => withdrawCharger_running⟩⟩
  · intro adopted state plug unplug settled u closed told lower cut judged t
    have hsettled : s.supply.taken offer cls last = settled := taken_eq offer cls last s.supply
    have hstate : settled.state = state := by rw [← hsettled]; exact settled_state _ _
    have hclosed : sessionsUnplugged u = closed := sessionsUnplugged_eq u
    have hplug : plug = true ↔ s.supply.state = .unplugged ∧ state ≠ .unplugged := decide_eq_true_iff
    have hunplug : unplug = true ↔ s.supply.state ≠ .unplugged ∧ state = .unplugged := decide_eq_true_iff
    have htold : toldSessions offer cls last s = told := by
      rw [toldSessions, hsettled, show s.setSupply settled = u from rfl, handSupplyToSessions_eq, hclosed,
        show u.supply.state = state from hstate]
    have htoldSupply : told.supply = settled := by rw [← htold, toldSessions_supply, hsettled]
    have hcut : offeredChanged s.supply.offered told = cut := by
      show _ = if lower then cutBudget told else told
      by_cases hlower : lower
      · rw [if_pos hlower]
        exact offeredChanged_lowered (by rw [htoldSupply]; exact hlower)
      · rw [if_neg hlower]
        exact offeredChanged_stands (by rw [htoldSupply]; exact hlower)
    have hcutState : cut.supply.state = state := by rw [← hcut, ← hstate, ← htoldSupply]; simp
    have hjudged : handSupplyToFaults s.supply.state cut = judged := by
      rw [handSupplyToFaults_eq, hcutState]
    have hjudgedState : judged.supply.state = state := by rw [← hjudged, ← hcutState]; simp
    have ht : t = if plug = true ∨ unplug = true then post .plug judged else judged := by
      show takePeriod offer cls last s = _
      rw [takePeriod_eq, htold, hcut, hjudged, postPlug_eq, hjudgedState]
    have hsame (h : s.supply.state = state) : t = cut := by
      rw [ht, if_neg, ← hjudged]
      · exact handSupplyToFaults_none (by rw [hcutState, h])
      · rw [hplug, hunplug, h]
        exact fun hor => hor.elim (fun h => h.2 h.1) fun h => h.1 h.2
    have htoldSame (h : s.supply.state = state) : told = u := by
      rw [← htold, toldSessions, hsettled]
      exact handSupplyToSessions_same (h.trans hstate.symm)
    have hsettledSame (h : s.supply.state = state) : settled = { adopted with state := state } := by
      have hline : adopted.requestLine = s.supply.requestLine := adopts_requestLine offer cls last s.supply
      simp only [settled]
      rw [if_neg fun hu => (hunplug.1 hu).1 (h.trans (hunplug.1 hu).2), if_neg fun hf => hf.2 (h.trans hf.1), ← hline]
    have hstate' : (s.supply.taken offer cls last).state = state := by rw [hsettled, hstate]
    refine ⟨ht, (takePeriod_supply offer cls last s).trans hsettled, fun hp => ?_, fun hu => ?_,
      fun hbefore hafter hchange i hlive => ?_, fun hbefore hafter => ?_, fun hbefore hafter => ?_,
      fun hkept hoffered => ?_, fun v w hkept hv hw hlower => ?_⟩
    · obtain ⟨hbefore, hafter⟩ := hplug.1 hp
      rw [← hstate'] at hafter
      refine ⟨takePeriod_posts (.inl ⟨hbefore, hafter⟩), fun i rest hqueue => ?_⟩
      rw [← hstate']
      exact takePeriod_plug hbefore hafter hqueue
    · obtain ⟨hbefore, hafter⟩ := hunplug.1 hu
      rw [← hstate'] at hafter
      have hparts := takePeriod_sessions offer cls last s
      rw [toldSessions_unplug hbefore hafter, hsettled, show s.setSupply settled = u from rfl, hclosed] at hparts
      refine ⟨takePeriod_posts (.inr ⟨hbefore, hafter⟩), hparts.1, hparts.2.1, hparts.2.2,
        takePeriod_unplug_queue hbefore hafter, fun i hslot => ?_⟩
      have hend := takePeriod_unplug hbefore hafter hslot
      rw [hsettled] at hend
      exact hend
    · rw [← hstate'] at hafter hchange ⊢
      exact takePeriod_offerReason hbefore hafter hchange hlive
    · exact takePeriod_faultActive hbefore (hstate'.trans hafter)
    · exact takePeriod_faultCleared hbefore (by rwa [hstate'])
    · have hstands : ¬ lower := by
        rintro ⟨v, hv, hall⟩
        rw [hsettledSame hkept] at hall
        exact lt_irrefl v (hall v (hoffered ▸ hv))
      rw [hsame hkept, show cut = told from if_neg hstands, htoldSame hkept, ← hsettledSame hkept]
    · have hlowered : lower := ⟨v, hv, fun x hx => by
        rw [hsettledSame hkept] at hx
        have hxw : x = w := Option.some.inj (hx.symm.trans hw)
        rw [hxw]
        exact hlower⟩
      have hbudget : gridBudget s.planner.cycleCap u = gridBudget s.planner.cycleCap { s with supply := adopted } := by
        show gridBudget _ { s with supply := settled } = _
        rw [hsettledSame hkept]
        rfl
      rw [hsame hkept, show cut = cutBudget told from if_pos hlowered, htoldSame hkept, ← hbudget]
      rfl
  · intro e t
    have hentry : t = if now < k then trimEntry budget p.order e else e := cut_entry budget hsource hstate hslot k
    refine ⟨fun hstays => ?_, fun hk hover => trimEntry_cuts hnodup hover (hentry.trans (if_pos hk))⟩
    rw [hentry]
    split
    · next hk => exact if_pos (hstays.resolve_left hk.not_ge)
    · rfl

end Sys2Proof.Machine
end
